-- ==== Sys2Proof/Word.lean ====
section
/-! DEFINITION. The words of the E540: the 32-bit time base value and the byte. -/

namespace Sys2Proof

/-- A value of the time base: 32 bits counting ticks of 0.1 µs, wrapping (R20). -/
abbrev Tick := BitVec 32

/-- One character of a frame, a message or a configuration sector. -/
abbrev Byte := BitVec 8

/-- The elapsed time from `earlier` to `later`, always taken modulo 2^32 (R20). -/
def elapsed (later earlier : Tick) : Nat := (later - earlier).toNat

/-- The time base value `d` ticks after `t`, modulo 2^32. -/
def after (t : Tick) (d : Nat) : Tick := t + BitVec.ofNat 32 d

end Sys2Proof
end

