-- ==== Sys2Proof/Syntax.lean ====
section
/-! DEFINITION. The commands of the E540: one constructor of `Instr` for each row of spec/opcode_table.json, and the types of
their operands. An operand is what the outside world decides: the instant of an event the part does not time itself, the
levels a sample reads, the bits of a character, the fields of a request. -/

namespace Sys2Proof

/-- The feeder ports F1 to F4 (00_scope.md). -/
inductive Port where
  | f1 | f2 | f3 | f4
deriving DecidableEq, Repr

/-- The ports in ascending order. -/
def Port.all : List Port := [.f1, .f2, .f3, .f4]

/-- The number of a port, 1 to 4. -/
def Port.num : Port → Nat
  | .f1 => 1
  | .f2 => 2
  | .f3 => 3
  | .f4 => 4

/-- The port of a number, if it is one. -/
def Port.ofNum : Nat → Option Port
  | 1 => some .f1
  | 2 => some .f2
  | 3 => some .f3
  | 4 => some .f4
  | _ => none

/-- One thing for each of the four ports, or for each of the four under-frequency stages. -/
structure Quad (α : Type) where
  f1 : α
  f2 : α
  f3 : α
  f4 : α
deriving DecidableEq, Repr

/-- The part that belongs to a port. -/
def Quad.get {α : Type} (q : Quad α) : Port → α
  | .f1 => q.f1
  | .f2 => q.f2
  | .f3 => q.f3
  | .f4 => q.f4

/-- The four with the part of one port replaced. -/
def Quad.set {α : Type} (q : Quad α) (p : Port) (a : α) : Quad α :=
  match p with
  | .f1 => { q with f1 := a }
  | .f2 => { q with f2 := a }
  | .f3 => { q with f3 := a }
  | .f4 => { q with f4 := a }

/-- The same thing four times. -/
def Quad.all {α : Type} (a : α) : Quad α := ⟨a, a, a, a⟩

/-- Four things formed port by port. -/
def Quad.of {α : Type} (f : Port → α) : Quad α := ⟨f .f1, f .f2, f .f3, f .f4⟩

/-- The four in ascending port order. -/
def Quad.toList {α : Type} (q : Quad α) : List α := [q.f1, q.f2, q.f3, q.f4]

/-- The eleven pulse channels: P0, P1, P2, P3 to P6, P7 to P10 (chapter 02, pulse channel table). -/
inductive PulseChannel where
  | srcClose
  | srcTrip
  | crank
  | feederClose (p : Port)
  | feederTrip (p : Port)
deriving DecidableEq, Repr

/-- The five breakers, each with one confirmation window (R26). -/
inductive Breaker where
  | source
  | feeder (p : Port)
deriving DecidableEq, Repr

/-- The discrete inputs of the qualification table (R31). -/
inductive InputLine where
  | srcCb
  | runFb
  | inhibit
  | service
  | feederCb (p : Port)
  | feederLocal (p : Port)
deriving DecidableEq, Repr

/-- The timers of the station (R21), each under the name of the rule that owns it. -/
inductive TimerId where
  | pulse (c : PulseChannel)
  | confirm (b : Breaker)
  | synthetic
  | source
  | status
  | stale (address : Nat)
  | removal (address : Nat)
  | balance
  | window
  | holdoff
  | stop
  | loss
  | rest
  | spool
  | sync
  | unload
  | cooldown
  | ripeness (p : Port)
  | restoreQual
  | stepSpacing
  | overload
  | dead
  | recover
  | guard
  | stuck
  | slot
  | hold
  | liveWait
  | integrity
deriving DecidableEq, Repr

/-- The levels on the discrete inputs at a sample, true for asserted (R31). -/
structure InputLevels where
  srcCb : Bool
  runFb : Bool
  inhibit : Bool
  service : Bool
  cb : Quad Bool
  loc : Quad Bool
deriving DecidableEq, Repr

/-- The inputs of the eight analogue channels at a scan instant, in converter steps: 0 is the bottom of the converter's
range and 4095 its top, and an input may lie outside (R2). -/
structure AnalogLevels where
  vBus : Int
  vSrc : Int
  iSrc : Int
  aAvail : Int
  iF : Quad Int
deriving DecidableEq, Repr

/-- How far the wave of a voltage channel swung, in mV: its lowest value since the crossing comparator's output last rose (or since
the reset), and its highest value after that one (R28). -/
structure Swing where
  low : Int
  high : Int
deriving DecidableEq, Repr

/-- A rise of the wave of a voltage channel: its instant and the swing that led to it. -/
structure Rise where
  time : Tick
  swing : Swing
deriving DecidableEq, Repr

/-- The end of a response on the maintenance port: its instant, and whether the characters of a further request, begun after the last
one closed, are coming in on the port at that instant (R185). -/
structure ResponseEnd where
  time : Tick
  inRequest : Bool
deriving DecidableEq, Repr

/-- The commands. `t` is always the time base value at which the event happens. -/
inductive Instr where
  /-- POWER_ON_RESET: a whole power-on reset, to its end at which the straps are read. -/
  | powerOnReset (straps : BitVec 5)
  /-- STATION_RESET: the RESET line is asserted at `t`. -/
  | stationReset (t : Tick)
  /-- RESET_RELEASE: the RESET line is released; the straps are read. -/
  | resetRelease (straps : BitVec 5)
  /-- RESTART_RESET_END: the 1 ms reset of a RESTART request ends; the straps are read. -/
  | restartResetEnd (straps : BitVec 5)
  /-- STANDBY_SUPPLY_LOST: the standby supply falls below the holding level. -/
  | standbySupplyLost (t : Tick)
  /-- TIMER_SEGMENT_COMPLETE of one timer. -/
  | timerSegmentComplete (id : TimerId)
  /-- START_UP_LOAD_COMPLETE at `t`: the sector checks have ended and every input has settled. -/
  | startUpLoadComplete (t : Tick)
  /-- SETTLE_LIMIT_EXPIRY: 100 ms have passed with an input UNSETTLED. -/
  | settleLimitExpiry
  /-- SCAN with what the analogue channels carry. -/
  | scan (levels : AnalogLevels)
  /-- C0_CAPTURE: a rise of V_BUS, from whose swing the crossing comparator judges whether it is a capture (R28). -/
  | c0Capture (rise : Rise)
  | syntheticTimeoutExpiry
  /-- C1_CAPTURE: a rise of V_SRC (R28). -/
  | c1Capture (rise : Rise)
  | sourceTimeoutExpiry
  | pulseTimerExpiry (c : PulseChannel)
  | confirmTimerExpiry (b : Breaker)
  | pwmPeriodStart
  | inputQualified (i : InputLine)
  /-- PERMIT_FALLING_EDGE at `t`; `own` tells the fall that the station's own PULL makes from one that another station makes. -/
  | permitFallingEdge (t : Tick) (own : Bool)
  /-- PERMIT_RISING_EDGE at `t`: the last of the other stations releases the line. -/
  | permitRisingEdge (t : Tick)
  | burstClose
  | statusTimerExpiry
  | attemptStart
  /-- COLLISION; `noEcho` when no echo character has begun, clear when the last echo mismatches (R48). -/
  | collision (noEcho : Bool)
  | attemptSuccess
  | disableDriverRelease
  | staleTimerExpiry (address : Nat)
  | removalTimerExpiry (address : Nat)
  | balancePeriodExpiry
  | windowTimerExpiry
  | holdoffTimerExpiry
  | lossTimerExpiry
  | stopTimerExpiry
  | restTimerExpiry
  | spoolTimerExpiry
  | syncTimeoutExpiry
  | unloadTimerExpiry
  | cooldownTimerExpiry
  | ripenessTimerExpiry (p : Port)
  | restoreQualificationTimerExpiry
  | stepSpacingTimerExpiry
  | overloadTimerExpiry
  | deadTimerExpiry
  | recoverTimerExpiry
  | guardTimerExpiry
  | stuckTimerExpiry
  /-- SLOT_TIMER_EXPIRY; `othersLow` when another station holds PERMIT low at that instant (R169). -/
  | slotTimerExpiry (othersLow : Bool)
  | holdTimerExpiry
  | liveWaitTimerExpiry
  /-- INTEGRITY_TIMER_EXPIRY; `upset` names the cells of the working copy found disturbed, with what they hold (R178). -/
  | integrityTimerExpiry (upset : List (Fin 256 × Byte))
  /-- COMMIT_COMPLETE at `t`; `programmed` when the sector reads back as the staging buffer (R180). -/
  | commitComplete (t : Tick) (programmed : Bool)
  | readStation (t : Tick)
  | readPeer (t : Tick) (address : Byte)
  | readFigures (t : Tick)
  | readPorts (t : Tick)
  | readConfig (t : Tick) (sector offset length : Byte)
  | writeConfig (t : Tick) (offset length : Byte) (data : List Byte)
  | commit (t : Tick)
  | clearLockout (t : Tick)
  | restart (t : Tick)
  /-- MALFORMED_REQUEST closing at `t`, with its code as received, 0 if none was. -/
  | malformedRequest (t : Tick) (code : Byte)
  /-- REQUEST_GAP_TIMEOUT at `t`, with the code received before the gap, 0 if none was. -/
  | requestGapTimeout (t : Tick) (code : Byte)
  /-- RESPONSE_SENT: the end of the stop bit of the response's last character. -/
  | responseSent (sent : ResponseEnd)
  /-- CHARACTER_RECEIVED: the line falls at `fall`; bit 0 of `samples` is the mid-sample of the start bit, bits 1 to 8 the
  data, least significant first, bit 9 the stop bit (R37). -/
  | characterReceived (fall : Tick) (samples : BitVec 10)
  | firstEndIdle
  | inputSample (levels : InputLevels)
deriving DecidableEq, Repr

end Sys2Proof
end

