-- ==== Sys2Proof/WellFormed.lean ====
section
/-! DEFINITION. Which commands are well formed: the operands that their types leave too wide. -/

namespace Sys2Proof

/-- A station address lies in 1 to 32 (R32, R59). -/
def addressOk (a : Nat) : Bool := 1 ≤ a && a ≤ 32

/-- A timer that belongs to a peer entry names a peer by its address. -/
def TimerId.wf : TimerId → Bool
  | .stale a | .removal a => addressOk a
  | _ => true

/-- The payload of a WRITE-CONFIG fits its code: 2 + the length byte characters, at most 40 (R184). -/
def writePayloadFits (length : Byte) (data : List Byte) : Bool :=
  data.length == length.toNat && length.toNat ≤ 38

/-- A wave's lowest value does not lie above its highest. -/
def Swing.wf (x : Swing) : Bool := x.low ≤ x.high

/-- A command that the outside world can send. -/
def Instr.wf : Instr → Bool
  | .timerSegmentComplete id => id.wf
  | .staleTimerExpiry a => addressOk a
  | .removalTimerExpiry a => addressOk a
  | .c0Capture rise => rise.swing.wf
  | .c1Capture rise => rise.swing.wf
  | .writeConfig _ _ length data => writePayloadFits length data
  | _ => true

end Sys2Proof
end

