-- ==== Sys2Proof/Config.lean ====
section
/-! DEFINITION. The values the spec leaves open. Each is an opaque constant: no proof can see what it is, so a
statement about the machine holds whatever the part does there. -/

namespace Sys2Proof.Config

/-- Orders the 24 gaps between scans at 60 Hz; the four gaps that come first in this order are the long ones.
R3 fixes that four of every 24 are 2605 ticks and leaves open which (log 6). -/
opaque scanGapKey : Nat → Nat

/-- The byte at an offset of the configuration sector left by the `n`-th erase or program cut short (R180, log 8). -/
opaque brokenSectorByte : Nat → Nat → BitVec 8

/-- How far the CRC stored in that sector lies from the right one (R180: it fails its CRC; log 8). -/
opaque brokenSectorCrc : Nat → BitVec 16

end Sys2Proof.Config
end

