-- ==== Sys2Proof/Machine/State.lean ====
section
/-! DEFINITION. The state of the E540 as plain data, block by block, and the state right after reset. -/

namespace Sys2Proof.Machine

/-! ### Names of states, modes and results -/

/-- The source kind of a station (00_scope.md): NONE, GENSET or SOLAR. -/
inductive Role where
  | noSource | genset | solar
deriving DecidableEq, Repr

/-- The station mode (R72, R177). -/
inductive Mode where
  | startup | fault | service | autonomous | coordinated
deriving DecidableEq, Repr

/-- The island state (R158). -/
inductive Island where
  | live | deadWait | dark | recover
deriving DecidableEq, Repr

/-- From which island state DEAD-WAIT was entered (R158). -/
inductive Origin where
  | live | recover
deriving DecidableEq, Repr

/-- The single-word state of a source as a STATUS frame reports it (R41). -/
inductive Summary where
  | absent | idle | pending | online | leaving | failed
deriving DecidableEq, Repr

/-- The state of a feeder port (R41, R137). -/
inductive PortState where
  | closed | closing | opening | shed | blackOpen | held | faulted
deriving DecidableEq, Repr

/-- Why a port is SHED (R137). -/
inductive ShedCause where
  | frequency | deficit | overload | rotation
deriving DecidableEq, Repr

/-- What a confirmed opening makes a port (R137). -/
inductive Destination where
  | shed (cause : ShedCause)
  | blackOpen
deriving DecidableEq, Repr

/-- The fifteen states of the diesel sequencer, in the order of R98's table. -/
inductive DieselState where
  | off | standby | intent | crank | rest | spool | sync | arbitrate | closing | online | stopIntent | unload | opening
  | cooldown | failed
deriving DecidableEq, Repr

/-- The kind of an announced intent (R42). -/
inductive IntentKind where
  | start | stop
deriving DecidableEq, Repr

/-- The source state of the solar cap unit (R124). -/
inductive SolarState where
  | offline | online
deriving DecidableEq, Repr

/-- The override of the cap chain (R131). -/
inductive CapOverride where
  | plain | dark | fault | fallback
deriving DecidableEq, Repr

/-- The condition of a measured voltage (R12). -/
inductive Condition where
  | unknown | dead | live
deriving DecidableEq, Repr

/-- What closed a measurement cycle (R15). -/
inductive BoundaryKind where
  | capture | synthetic
deriving DecidableEq, Repr

/-- The block that asked for a pulse or watches a window (R22, R26). -/
inductive Requester where
  | ds | sc | fl
deriving DecidableEq, Repr

/-- The qualified level of a discrete input (R31). -/
inductive InputLevel where
  | unsettled | released | asserted
deriving DecidableEq, Repr

/-- The causes of ALARM, in the order of R34's table. -/
inductive AlarmCause where
  | dieselFailed
  | portFaulted (p : Port)
  | modeFault
  | addressConflict
  | permitStuck
deriving DecidableEq, Repr

/-- The four frame kinds (R39). -/
inductive FrameKind where
  | status | loss | intent | step
deriving DecidableEq, Repr

/-- The phase of an arbitration session (R166). -/
inductive PermitPhase where
  | idle | waiting | start | bits | close | hold
deriving DecidableEq, Repr

/-- How the guard timer of a session came to run (R166). -/
inductive GuardOrigin where
  | request | edge
deriving DecidableEq, Repr

/-- The commit status (R180). -/
inductive CommitStatus where
  | idle | running | completed | failed
deriving DecidableEq, Repr

/-- Whether the station runs or is held in a station reset, and by what (R36). -/
inductive ResetPhase where
  | running | heldByLine | heldByRestart
deriving DecidableEq, Repr

/-! ### Timers -/

/-- A timer of R21: STOPPED, or RUNNING with its segment start and remaining duration in ticks. -/
inductive Timer where
  | stopped
  | running (segmentStart : Tick) (remaining : Nat)
deriving DecidableEq, Repr

/-! ### Time base and action channels -/

/-- A pulse channel (R22). -/
inductive Pulse where
  | idle
  | active (requester : Requester) (timer : Timer)
deriving DecidableEq, Repr

/-- A confirmation window (R26); `closed` is the expected position. -/
inductive Window where
  | closedOut
  | watching (requester : Requester) (closed : Bool) (timer : Timer)
deriving DecidableEq, Repr

/-- The qualifier of a discrete input (R31). `due` is the model's own: the latest sample completed a run at a new level and
INPUT_QUALIFIED has not yet been taken for it. -/
structure Qualifier where
  level : InputLevel
  sample : Option Bool
  run : Nat
  due : Bool
deriving DecidableEq, Repr

/-- The qualifiers of the twelve discrete inputs (R31). -/
structure Qualifiers where
  srcCb : Qualifier
  runFb : Qualifier
  inhibit : Qualifier
  service : Qualifier
  cb : Quad Qualifier
  loc : Quad Qualifier
deriving DecidableEq, Repr

/-- The ALARM cause set (R34): at most one cause of each kind, for FAULTED one a port. -/
structure AlarmSet where
  dieselFailed : Bool
  portFaulted : Quad Bool
  modeFault : Bool
  addressConflict : Bool
  permitStuck : Bool
deriving DecidableEq, Repr

/-- The state of the time base and action channels, but for the time base itself and the RUN latch (chapter 02). -/
structure Tac where
  srcClose : Pulse
  srcTrip : Pulse
  crank : Pulse
  feederClose : Quad Pulse
  feederTrip : Quad Pulse
  srcWindow : Window
  feederWindow : Quad Window
  pwm : Int
  pwmInUse : Int
  pwmStart : Tick
  capCode : Nat
  inputs : Qualifiers
  breakerDebounce : Nat
  otherDebounce : Nat
  nextSample : Tick
  alarm : AlarmSet
  permitPull : Bool
  permitEdges : Bool
  permitOthers : Bool
  c0High : Bool
  c1High : Bool
deriving DecidableEq, Repr

/-! ### Retention -/

/-- The retention record (R181). -/
structure Retention where
  intact : Bool
  valid : Bool
  run : Bool
  lockout : Bool
  ports : Quad (Option (PortState × Option ShedCause))
  darkTaken : Bool
  wasClosed : Quad Bool
deriving DecidableEq, Repr

/-! ### Measurement unit -/

/-- Offset and gain of one analogue channel (R2). -/
structure Calibration where
  offset : Int
  gain : Int
deriving DecidableEq, Repr

/-- The calibration of the eight channels (R2, R176). -/
structure CalibrationSet where
  vBus : Calibration
  vSrc : Calibration
  iSrc : Calibration
  aAvail : Calibration
  iF : Quad Calibration
deriving DecidableEq, Repr

/-- The scan count and the accumulators of an open cycle (R4). -/
structure Cycle where
  n : Nat
  vBus2 : Int
  vSrc2 : Int
  srcVI : Int
  feederVI : Quad Int
  avail : Int
deriving DecidableEq, Repr

/-- The synchronising record (R17, R18): slip in mHz, phases in tenths of a degree. -/
structure SyncRecord where
  slip : Int
  phase : Int
  predicted : Int
deriving DecidableEq, Repr

/-- The cycle result record (R15). -/
structure CycleRecord where
  endTime : Tick
  kind : BoundaryKind
  period : Option Nat
  periodValid : Bool
  n : Nat
  busRms : Option Nat
  srcRms : Option Nat
  busCondition : Condition
  srcCondition : Condition
  srcPower : Option Int
  feederPower : Quad (Option Int)
  available : Option Nat
  fCycle : Option Nat
  f : Option Nat
  fSrc : Option Nat
  sync : Option SyncRecord
deriving DecidableEq, Repr

/-- The period sums (R16). -/
structure PeriodSums where
  count : Nat
  src : Int
  feeder : Quad Int
  avail : Int
deriving DecidableEq, Repr

/-- The period mean record (R16). -/
structure PeriodMean where
  src : Int
  feeder : Quad Int
  avail : Int
  f : Option Nat
deriving DecidableEq, Repr

/-- The state of the measurement unit (R19). -/
structure Mu where
  started : Bool
  cal : CalibrationSet
  cycle : Cycle
  nextScan : Tick
  scanPhase : Nat
  capRef : Option Tick
  srcRef : Option Tick
  lastSrc : Option Tick
  synthetic : Timer
  srcTimeout : Timer
  window : List Nat
  srcWindow : List Nat
  busCondition : Condition
  srcCondition : Condition
  latest : Option CycleRecord
  sums : PeriodSums
  mean : PeriodMean
deriving DecidableEq, Repr

/-! ### Island link -/

/-- A character as the receiver forms it, with its framing-error mark (R37). -/
structure LinkChar where
  byte : Byte
  framing : Bool
deriving DecidableEq, Repr

/-- A slot of the transmit queue (R46): the payload of the waiting frame, the attempt count and the backoff. -/
structure Slot where
  frame : Option (List Byte)
  attempts : Nat
  backoff : Nat
deriving DecidableEq, Repr

/-- The four slots (R46). -/
structure Slots where
  status : Slot
  loss : Slot
  intent : Slot
  step : Slot
deriving DecidableEq, Repr

/-- The transmitter (R47). SENDING holds the kind and payload in flight, the instant at which its first character began and
the echoes seen so far (R48). -/
inductive Transmitter where
  | disabled
  | ready
  | sending (kind : FrameKind) (payload : List Byte) (start : Tick) (echoes : List LinkChar)
deriving DecidableEq, Repr

/-- The receiver (R51). -/
inductive Receiver where
  | notStarted
  | ignoring
  | waiting
  | collecting (burst : List LinkChar) (overlong : Bool)
deriving DecidableEq, Repr

/-- The link counters (R57). -/
structure LinkCounters where
  sent : Nat
  received : Nat
  collisions : Nat
  drops : Nat
  receiveErrors : Nat
  unknownSender : Nat
  ownAddress : Nat
deriving DecidableEq, Repr

/-- The state of the island link controller (R58). `finishing` holds the instant at which the driver is released after a
disabling, and `finishingChar` the character it drives until then (R56); `idleSince` the end of the last character (R38); `endIdle` that an end idle has passed since. -/
structure Ilc where
  started : Bool
  slots : Slots
  transmitter : Transmitter
  finishing : Option Tick
  finishingChar : Byte
  receiver : Receiver
  idleSince : Option Tick
  endIdle : Bool
  status : Timer
  random : Option (BitVec 16)
  conflict : Bool
  counters : LinkCounters
deriving DecidableEq, Repr

/-! ### Peer view -/

/-- The intent record of an entry (R60). -/
structure IntentRecord where
  kind : IntentKind
  rank : Nat
  rating : Nat
  receipt : Tick
deriving DecidableEq, Repr

/-- A feeder record of an entry or of a STATUS frame (R41, R60). -/
structure FeederRecord where
  port : Nat
  state : PortState
  shedRank : Nat
  load : Nat
deriving DecidableEq, Repr

/-- What a STATUS frame says (R41). -/
structure StatusMsg where
  role : Role
  summary : Summary
  service : Bool
  noFreshPeers : Bool
  unavailable : Bool
  island : Island
  interval : Nat
  rating : Nat
  output : Nat
  minOrAvail : Nat
  startRank : Nat
  intent : Option IntentKind
  feeders : List FeederRecord
deriving DecidableEq, Repr

/-- A peer entry (R60): the fields of the last STATUS as notices have changed them, the intent record and the freshness. -/
structure Entry where
  address : Nat
  role : Role
  summary : Summary
  service : Bool
  noFreshPeers : Bool
  unavailable : Bool
  island : Island
  interval : Nat
  rating : Nat
  output : Nat
  minOrAvail : Nat
  startRank : Nat
  intent : Option IntentRecord
  feeders : List FeederRecord
  receipt : Tick
  fresh : Bool
  staleTimer : Timer
  removalTimer : Timer
deriving DecidableEq, Repr

/-- The state of the peer view (R74). The fresh count is formed from the entries. -/
structure Pv where
  table : List Entry
  conflict : Bool
  tableFull : Nat
deriving DecidableEq, Repr

/-! ### Balance engine -/

/-- The restore candidate (R82). -/
structure Candidate where
  address : Nat
  port : Nat
  state : PortState
  shedRank : Nat
  load : Nat
  coldLoad : Nat
deriving DecidableEq, Repr

/-- The balance figures record (R89). -/
structure Figures where
  computedAt : Tick
  count : Nat
  viewSize : Nat
  f : Option Nat
  ownOutput : Nat
  ownAvailable : Nat
  cOn : Nat
  pGen : Nat
  mMin : Nat
  cPend : Nat
  pPv : Nat
  aPv : Nat
  reserve : Int
  load : Nat
  requirement : Nat
  candidate : Option Candidate
  shedDemand : Nat
  startNeed : Bool
  startNeedOther : Bool
  stopPossible : Bool
  overload : Bool
  overloadDemand : Int
  headroom : Int
  candidateFits : Bool
  allowance : Int
  ownShare : Int
deriving DecidableEq, Repr

/-- The state of the balance engine (R95). -/
structure Be where
  timer : Timer
  figures : Figures
deriving DecidableEq, Repr

/-! ### Diesel sequencer -/

/-- The timers of the diesel record (R98). -/
structure DieselTimers where
  window : Timer
  holdoff : Timer
  stop : Timer
  loss : Timer
  rest : Timer
  spool : Timer
  sync : Timer
  unload : Timer
  cooldown : Timer
deriving DecidableEq, Repr

/-- The diesel record (R98). `deadBusClose` marks the close in hand as a dead-bus close (R110), `deadBusOnline` that ONLINE was
reached by a dead-bus close made during this darkness (R120), `closingInhibit` that INHIBIT was asserted during CLOSING (R100). -/
structure Ds where
  state : Option DieselState
  crankCount : Nat
  bias : Int
  intent : Option (IntentKind × Tick)
  forcedStop : Bool
  needSince : Option Tick
  good : Nat
  inhibitSeen : Bool
  deadBusClose : Bool
  deadBusOnline : Bool
  closingInhibit : Bool
  timers : DieselTimers
deriving DecidableEq, Repr

/-! ### Solar cap unit -/

/-- The solar record (R134, R135). -/
structure Sc where
  state : Option SolarState
  trip : Bool
  runCount : Nat
  shareCap : Int
  fwCap : Int
  rawCap : Int
  limitedCap : Int
  override : CapOverride
  finalCap : Int
  lastCap : Int
  code : Nat
deriving DecidableEq, Repr

/-! ### Feeder ladder -/

/-- A port record (R137). -/
structure PortRecord where
  state : PortState
  destination : Option Destination
  shedCause : Option ShedCause
  lastChange : Tick
  load : Nat
  localHeld : Bool
  closeActive : Bool
  tripOwed : Option Destination
  ripe : Bool
  ripeness : Timer
deriving DecidableEq, Repr

/-- An under-frequency stage record (R142). -/
structure Stage where
  count : Nat
  latch : Bool
deriving DecidableEq, Repr

/-- The step of a rotation swap (R152). -/
inductive SwapStep where
  | opening | closing
deriving DecidableEq, Repr

/-- A swap in flight (R152). -/
structure Swap where
  openPort : Port
  closePort : Port
  step : SwapStep
deriving DecidableEq, Repr

/-- The state of the feeder ladder (R156). -/
structure Fl where
  ports : Quad (Option PortRecord)
  stages : Quad Stage
  queue : List Port
  swap : Option Swap
  qualTimer : Timer
  qualified : Bool
  spacing : Timer
  overload : Timer
deriving DecidableEq, Repr

/-! ### Black start coordinator -/

/-- The arbitration session (R166). `sampleNext` tells, in BITS, whether the next slot point is the sample of the current bit. -/
structure Session where
  phase : PermitPhase
  slotStart : Tick
  bit : Nat
  sampleNext : Bool
  guardOrigin : GuardOrigin
  stuckFlag : Bool
  slot : Timer
  guard : Timer
  stuck : Timer
  hold : Timer
  liveWait : Timer
deriving DecidableEq, Repr

/-- The state of the black start coordinator (R173). `records` counts the cycle result records up to the fourth (R165). -/
structure Bsc where
  island : Option Island
  origin : Origin
  reconstructed : Bool
  records : Nat
  dead : Timer
  recover : Timer
  ownWord : Nat
  session : Session
deriving DecidableEq, Repr

/-! ### Configuration and retention -/

/-- The station group of the configuration record (R174). -/
structure StationParams where
  role : Role
  nominalHz : Nat
  phases : Nat
  nominalV : Nat
  kv : Nat
  kiSrc : Nat
  kiFdr : Nat
  aScale : Nat
  rating : Nat
  statusInterval : Nat
  balancePeriod : Nat
  feederCount : Nat
  breakerDebounce : Nat
  otherDebounce : Nat
deriving DecidableEq, Repr

/-- The balance group (chapter 05). -/
structure BalanceParams where
  fixedReserve : Nat
  pvCover : Nat
  curtailMargin : Nat
  deficitMargin : Nat
  stopMargin : Nat
deriving DecidableEq, Repr

/-- The diesel group (chapter 06). -/
structure DieselParams where
  startRank : Nat
  minimumLoad : Nat
  startDelay : Nat
  stopDelay : Nat
  intentWindow : Nat
  holdoff : Nat
  crankTime : Nat
  restTime : Nat
  attempts : Nat
  spoolTime : Nat
  slipWindow : Nat
  phaseWindow : Nat
  voltageWindow : Nat
  syncCount : Nat
  syncTimeout : Nat
  breakerClose : Nat
  confirmTime : Nat
  pulse : Nat
  ki : Nat
  unloadRate : Nat
  unloadThreshold : Nat
  unloadTimeout : Nat
  cooldown : Nat
deriving DecidableEq, Repr

/-- The solar group (chapter 07). -/
structure SolarParams where
  fwDeadband : Nat
  fwSlope : Nat
  ramp : Nat
  fallbackCap : Nat
  capOffset : Int
  lossThreshold : Nat
deriving DecidableEq, Repr

/-- The parameters of one feeder port (chapter 08). -/
structure PortParams where
  shedRank : Nat
  ufStage : Nat
  rotating : Bool
  coldLoad : Nat
  pulseWidth : Nat
deriving DecidableEq, Repr

/-- The parameters of one under-frequency stage (chapter 08). -/
structure StageParams where
  threshold : Nat
  count : Nat
  hysteresis : Nat
deriving DecidableEq, Repr

/-- The restore group (chapter 08). -/
structure RestoreParams where
  band : Nat
  time : Nat
  stepDwell : Nat
  blackStepDwell : Nat
  overloadTime : Nat
  rotationSlot : Nat
  minimumOn : Nat
  recoverTimeout : Nat
deriving DecidableEq, Repr

/-- The black start group (chapter 09). -/
structure BlackParams where
  deadLevel : Nat
  liveLevel : Nat
  deadTime : Nat
  guardTime : Nat
  permitHold : Nat
  permitTimeout : Nat
deriving DecidableEq, Repr

/-- The parameters of a configuration record (R174). -/
structure Params where
  station : StationParams
  balance : BalanceParams
  diesel : DieselParams
  solar : SolarParams
  port : Quad PortParams
  stage : Quad StageParams
  restore : RestoreParams
  black : BlackParams
deriving DecidableEq, Repr

/-- The state of configuration and retention, but for the retention record (chapter 10). `params` is the parameter set that
every block took at the start-up load. -/
structure Cr where
  sector : List Byte
  calSector : List Byte
  working : Option (List Byte)
  workingCrc : BitVec 16
  params : Option Params
  loaded : Bool
  clamped : Bool
  calFault : Bool
  integrity : Timer
  reloadDue : Bool
  commit : CommitStatus
  mode : Mode
deriving DecidableEq, Repr

/-! ### Maintenance port -/

/-- A request that has closed (R184): well formed, or malformed with the code to be answered. -/
inductive Request where
  | readStation
  | readPeer (address : Byte)
  | readFigures
  | readPorts
  | readConfig (sector offset length : Byte)
  | writeConfig (offset length : Byte) (data : List Byte)
  | commit
  | clearLockout
  | restart
  | malformed (code : Byte)
deriving DecidableEq, Repr

/-- The state of the maintenance port (R185). `waiting` is the request that occupies the buffer; `discarding` tells that the request now
coming in began while the buffer was occupied, so that it receives no response. -/
structure Mp where
  waiting : Option Request
  discarding : Bool
  response : Option (List Byte)
  restartAfter : Bool
  staging : List Byte
deriving DecidableEq, Repr

/-! ### The station -/

/-- The whole station. -/
structure State where
  phase : ResetPhase
  tb : Tick
  address : Nat
  tac : Tac
  ret : Retention
  mu : Mu
  ilc : Ilc
  pv : Pv
  be : Be
  ds : Ds
  sc : Sc
  fl : Fl
  bsc : Bsc
  cr : Cr
  mp : Mp
  freeCount : Nat
  pending : List Instr
deriving DecidableEq, Repr

/-- Why the machine stops. The spec names nothing that stops the E540: its mode FAULT is an ordinary mode. -/
inductive Fault where
  /-- Raised by no meaning: it stands here because the host's interface asks for a type of faults. Safe. -/
  | stopped
deriving DecidableEq, Repr

/-- Why a command has no meaning. -/
inductive Refusal where
  /-- Raised by exec's arm of a command that has no meaning yet (no arm does so now). Safe. -/
  | notModelled (mnemonic : String)
deriving DecidableEq, Repr

/-! ### The state right after reset -/

/-- A qualifier after either reset (R31); that the latest sample is absent is the model's choice (log 32). -/
def Qualifier.reset : Qualifier := ⟨.unsettled, none, 0, false⟩

/-- An empty ALARM cause set (R34). -/
def AlarmSet.empty : AlarmSet := ⟨false, .all false, false, false, false⟩

/-- The TAC after either reset (R36). The first input sample falls 1 ms after the end of the reset (log 7). -/
def Tac.reset : Tac where
  srcClose := .idle
  srcTrip := .idle
  crank := .idle
  feederClose := .all .idle
  feederTrip := .all .idle
  srcWindow := .closedOut
  feederWindow := .all .closedOut
  pwm := 0
  pwmInUse := 0
  pwmStart := 0
  capCode := 0
  inputs := ⟨.reset, .reset, .reset, .reset, .all .reset, .all .reset⟩
  breakerDebounce := 5
  otherDebounce := 10
  nextSample := 10000
  alarm := .empty
  permitPull := false
  permitEdges := false
  permitOthers := false
  c0High := false
  c1High := false

/-- The retention record as a reset with the standby flag LOST leaves it (R181). -/
def Retention.cleared : Retention := ⟨true, false, false, false, .all none, false, .all false⟩

/-- Offset 0 and gain 0 (R2). -/
def Calibration.zero : Calibration := ⟨0, 0⟩

/-- Offset 0 and gain 0 on every channel (R2). -/
def CalibrationSet.zero : CalibrationSet := ⟨.zero, .zero, .zero, .zero, .all .zero⟩

/-- An empty cycle (R4). -/
def Cycle.empty : Cycle := ⟨0, 0, 0, 0, .all 0, 0⟩

/-- Empty period sums (R16). -/
def PeriodSums.empty : PeriodSums := ⟨0, 0, .all 0, 0⟩

/-- The measurement unit after either reset (R19). The spec gives no value for the latest source capture time, held absent, nor for
what R19 has 'as read when the MU starts' or the MU's start makes, held 0 (log 32). -/
def Mu.reset : Mu where
  started := false
  cal := .zero
  cycle := .empty
  nextScan := 0
  scanPhase := 0
  capRef := none
  srcRef := none
  lastSrc := none
  synthetic := .stopped
  srcTimeout := .stopped
  window := []
  srcWindow := []
  busCondition := .unknown
  srcCondition := .unknown
  latest := none
  sums := .empty
  mean := ⟨0, .all 0, 0, none⟩

/-- An empty slot (R58). -/
def Slot.empty : Slot := ⟨none, 0, 0⟩

/-- Four empty slots (R58). -/
def Slots.empty : Slots := ⟨.empty, .empty, .empty, .empty⟩

/-- The island link controller after either reset (R58). -/
def Ilc.reset : Ilc where
  started := false
  slots := .empty
  transmitter := .disabled
  finishing := none
  finishingChar := 0
  receiver := .notStarted
  idleSince := none
  endIdle := false
  status := .stopped
  random := none
  conflict := false
  counters := ⟨0, 0, 0, 0, 0, 0, 0⟩

/-- The peer view after either reset (R74). -/
def Pv.reset : Pv := ⟨[], false, 0⟩

/-- The figures record after either reset (R95). -/
def Figures.reset : Figures where
  computedAt := 0
  count := 0
  viewSize := 0
  f := none
  ownOutput := 0
  ownAvailable := 0
  cOn := 0
  pGen := 0
  mMin := 0
  cPend := 0
  pPv := 0
  aPv := 0
  reserve := 0
  load := 0
  requirement := 0
  candidate := none
  shedDemand := 0
  startNeed := false
  startNeedOther := false
  stopPossible := false
  overload := false
  overloadDemand := 0
  headroom := 0
  candidateFits := false
  allowance := 0
  ownShare := 0

/-- The balance engine after either reset (R95). -/
def Be.reset : Be := ⟨.stopped, .reset⟩

/-- Every diesel timer STOPPED (R122). -/
def DieselTimers.stopped : DieselTimers :=
  ⟨.stopped, .stopped, .stopped, .stopped, .stopped, .stopped, .stopped, .stopped, .stopped⟩

/-- The diesel record after either reset (R122). -/
def Ds.reset : Ds where
  state := none
  crankCount := 0
  bias := 0
  intent := none
  forcedStop := false
  needSince := none
  good := 0
  inhibitSeen := false
  deadBusClose := false
  deadBusOnline := false
  closingInhibit := false
  timers := .stopped

/-- The solar record after either reset (R135). -/
def Sc.reset : Sc := ⟨none, false, 0, 0, 0, 0, 0, .fault, 0, 0, 0⟩

/-- The feeder ladder after either reset (R156). -/
def Fl.reset : Fl where
  ports := .all none
  stages := .all ⟨0, false⟩
  queue := []
  swap := none
  qualTimer := .stopped
  qualified := false
  spacing := .stopped
  overload := .stopped

/-- An idle arbitration session (R173); slot start, bit index and guard origin are the model's choice (log 32). -/
def Session.idle : Session :=
  ⟨.idle, 0, 0, false, .request, false, .stopped, .stopped, .stopped, .stopped, .stopped⟩

/-- The black start coordinator after either reset (R173); the origin and the own word before the BSC starts are the model's choice
(log 32). -/
def Bsc.reset : Bsc := ⟨none, .live, false, 0, .stopped, .stopped, 0, .idle⟩

/-- Configuration and retention after either reset, with the two non-volatile sectors as they are (R174, R176, R180). -/
def Cr.reset (sector calSector : List Byte) : Cr where
  sector := sector
  calSector := calSector
  working := none
  workingCrc := 0
  params := none
  loaded := false
  clamped := false
  calFault := false
  integrity := .stopped
  reloadDue := false
  commit := .idle
  mode := .startup

/-- The maintenance port after either reset (R185): nothing in hand, and 256 bytes of 0 in the staging buffer. -/
def Mp.reset : Mp := ⟨none, false, none, false, List.replicate 256 0⟩

/-- The machine right after reset: a power-on reset with the standby flag LOST, the straps reading 0 and both non-volatile
sectors holding zeros (log 3, log 4). -/
def State.reset : State where
  phase := .running
  tb := 0
  address := 1
  tac := .reset
  ret := .cleared
  mu := .reset
  ilc := .reset
  pv := .reset
  be := .reset
  ds := .reset
  sc := .reset
  fl := .reset
  bsc := .reset
  cr := .reset (List.replicate 256 0) (List.replicate 26 0)
  mp := .reset
  freeCount := 0
  pending := []

end Sys2Proof.Machine
end

