-- ==== Sys2Proof/Machine/Arith.lean ====
section
/-! DEFINITION. The arithmetic of the E540: rounding, clamping, the integer square root, bytes, the CRC, the random generator and
ordered lists. -/

namespace Sys2Proof.Machine

/-! ### Rounding and clamping (00_scope.md, Conventions) -/

/-- `a / d` rounded half away from zero. -/
def roundDiv (a : Int) (d : Nat) : Int :=
  if 0 ≤ a then ((2 * a.natAbs + d) / (2 * d) : Nat) else -((2 * a.natAbs + d) / (2 * d) : Nat)

/-- `a / d` truncated toward zero. -/
def truncDiv (a : Int) (d : Nat) : Int := Int.tdiv a d

/-- `a` with a value below `lo` replaced by `lo` and one above `hi` by `hi`. -/
def clamp (lo hi a : Int) : Int := if a < lo then lo else if hi < a then hi else a

/-- `a` clamped to the range of an unsigned 16-bit kW or V field. -/
def clamp16 (a : Int) : Nat := (clamp 0 65535 a).toNat

/-- `n` plus one, standing still at 65,535 (R57, R61). -/
def saturate (n : Nat) : Nat := if n < 65535 then n + 1 else n

/-! ### The integer square root (R9) -/

/-- One more bit of a square root: `2 ^ k` is added to the root so far where its square still fits. -/
def sqrtBit (x r k : Nat) : Nat := if (r + 2 ^ k) * (r + 2 ^ k) ≤ x then r + 2 ^ k else r

/-- The square root of `x` from bit `k - 1` down, above the root so far. -/
def sqrtFrom (x : Nat) : Nat → Nat → Nat
  | 0, r => r
  | k + 1, r => sqrtFrom x k (sqrtBit x r k)

/-- The greatest whole number whose square is at most `x`, for `x` below 2^64. -/
def isqrt (x : Nat) : Nat := sqrtFrom x 32 0

/-- The square root of `num / den`, rounded half away from zero: the exact real value, rounded once (R9). -/
def roundSqrt (num den : Nat) : Nat := (isqrt (4 * num / den) + 1) / 2

/-! ### Bytes, most significant first -/

/-- The byte that holds a number. -/
def byte (n : Nat) : Byte := BitVec.ofNat 8 n

/-- `n` as `k` bytes, most significant first. -/
def bytesBE : Nat → Nat → List Byte
  | 0, _ => []
  | k + 1, n => byte (n / 256 ^ k) :: bytesBE k (n % 256 ^ k)

/-- A signed value as `k` bytes in two's complement. -/
def bytesSigned (k : Nat) (a : Int) : List Byte := bytesBE k (a % ((256 : Int) ^ k)).toNat

/-- The number that bytes spell, most significant first. -/
def numberBE (l : List Byte) : Nat := l.foldl (fun n b => 256 * n + b.toNat) 0

/-- One byte for a flag: 1 for set (R184). -/
def flagByte (b : Bool) : List Byte := [if b then 1 else 0]

/-- A value that may be absent: a byte that tells, then its own bytes, sent as 0 when it is absent (R184). -/
def optBytes {α : Type} (size : Nat) (enc : α → List Byte) : Option α → List Byte
  | some a => 1 :: enc a
  | none => 0 :: List.replicate size 0

/-! ### The CRC (R40) -/

/-- One bit of the CRC: the register moves one place up, and 0x1021 is combined when the bit shifted out differs. -/
def crcBit (r : BitVec 16) (b : Bool) : BitVec 16 :=
  if r.msb != b then (r <<< 1) ^^^ 0x1021 else r <<< 1

/-- One character of the CRC, most significant bit first. -/
def crcByte (r : BitVec 16) (c : Byte) : BitVec 16 :=
  [7, 6, 5, 4, 3, 2, 1, 0].foldl (fun r i => crcBit r (c.getLsbD i)) r

/-- The CRC of a run of characters, from 0xFFFF and without a final inversion. -/
def crc16 (l : List Byte) : BitVec 16 := l.foldl crcByte 0xFFFF

/-- The two CRC characters, high one first. -/
def crcBytes (l : List Byte) : List Byte := bytesBE 2 (crc16 l).toNat

/-! ### The random generator (R45) -/

/-- One step: one place down, and 0xB400 combined when the bit shifted out was 1. -/
def lfsrStep (r : BitVec 16) : BitVec 16 :=
  if r.getLsbD 0 then (r >>> 1) ^^^ 0xB400 else r >>> 1

/-- A run of steps. -/
def lfsrSteps : Nat → BitVec 16 → BitVec 16
  | 0, r => r
  | n + 1, r => lfsrSteps n (lfsrStep r)

/-- A draw: sixteen steps. -/
def lfsrDraw (r : BitVec 16) : BitVec 16 := lfsrSteps 16 r

/-- The seed from the station address and the time base. -/
def lfsrSeed (address : Nat) (t : Tick) : BitVec 16 :=
  let x := BitVec.ofNat 16 (address * 257) ^^^ t.truncate 16
  if x = 0 then BitVec.ofNat 16 address else x

/-! ### Ordered lists -/

/-- `a` put into a list in the order `before`, ahead of the first member it comes before. -/
def insertBy {α : Type} (before : α → α → Bool) (a : α) : List α → List α
  | [] => [a]
  | b :: l => if before a b then a :: b :: l else b :: insertBy before a l

/-- A list in the order `before`. -/
def sortBy {α : Type} (before : α → α → Bool) : List α → List α
  | [] => []
  | a :: l => insertBy before a (sortBy before l)

/-- The sum of one number a member. -/
def sumBy {α : Type} (f : α → Nat) (l : List α) : Nat := l.foldr (fun a n => f a + n) 0

/-- Milliseconds as ticks (R21). -/
def ms (n : Nat) : Nat := n * 10000

/-- Seconds as ticks (R21). -/
def sec (n : Nat) : Nat := n * 10000000

/-- Minutes as ticks (R21). -/
def minutes (n : Nat) : Nat := n * 600000000

end Sys2Proof.Machine
end

