-- ==== Sys2Proof/Machine/Operands.lean ====
section
/-! DEFINITION. What commands and records carry: sampled levels as calibrated samples, link bits as characters, frames, and the
configuration record with its checks, clamps and fields. -/

namespace Sys2Proof.Machine

/-! ### Codes (R41, R42, R174, R184) -/

def Role.code : Role → Nat
  | .noSource => 0
  | .genset => 1
  | .solar => 2

def Role.ofCode : Nat → Option Role
  | 0 => some .noSource
  | 1 => some .genset
  | 2 => some .solar
  | _ => none

def Summary.code : Summary → Nat
  | .absent => 0
  | .idle => 1
  | .pending => 2
  | .online => 3
  | .leaving => 4
  | .failed => 5

def Summary.ofCode : Nat → Option Summary
  | 0 => some .absent
  | 1 => some .idle
  | 2 => some .pending
  | 3 => some .online
  | 4 => some .leaving
  | 5 => some .failed
  | _ => none

def Island.code : Island → Nat
  | .live => 0
  | .deadWait => 1
  | .dark => 2
  | .recover => 3

def Island.ofCode : Nat → Option Island
  | 0 => some .live
  | 1 => some .deadWait
  | 2 => some .dark
  | 3 => some .recover
  | _ => none

def PortState.code : PortState → Nat
  | .closed => 0
  | .closing => 1
  | .opening => 2
  | .shed => 3
  | .blackOpen => 4
  | .held => 5
  | .faulted => 6

def PortState.ofCode : Nat → Option PortState
  | 0 => some .closed
  | 1 => some .closing
  | 2 => some .opening
  | 3 => some .shed
  | 4 => some .blackOpen
  | 5 => some .held
  | 6 => some .faulted
  | _ => none

def FrameKind.code : FrameKind → Nat
  | .status => 1
  | .loss => 2
  | .intent => 3
  | .step => 4

def FrameKind.ofCode : Nat → Option FrameKind
  | 1 => some .status
  | 2 => some .loss
  | 3 => some .intent
  | 4 => some .step
  | _ => none

/-- The intent field of STATUS and the intent kind of INTENT: 0 none, 1 start, 2 stop. -/
def intentCode : Option IntentKind → Nat
  | none => 0
  | some .start => 1
  | some .stop => 2

def intentOfCode : Nat → Option (Option IntentKind)
  | 0 => some none
  | 1 => some (some .start)
  | 2 => some (some .stop)
  | _ => none

/-! ### Analogue samples (R2) -/

/-- The 12-bit code of an input: above the top of the range 4095, below the bottom 0. -/
def conversionCode (level : Int) : Int := clamp 0 4095 level

/-- The calibrated sample of an input on a channel. -/
def calibrated (c : Calibration) (level : Int) : Int :=
  clamp (-2048) 2047 (roundDiv ((conversionCode level - 2048 - c.offset) * (4096 + c.gain)) 4096)

/-! ### Link characters (R37) -/

/-- The character that ten mid-bit samples form; none when the start bit reads high, which makes the fall a glitch. -/
def linkChar (samples : BitVec 10) : Option LinkChar :=
  if samples.getLsbD 0 then none else some ⟨samples.extractLsb' 1 8, !samples.getLsbD 9⟩

/-! ### Frames (R39 to R42) -/

/-- The characters a frame's CRC covers: sender address, kind, length and payload. -/
def frameBody (address : Nat) (kind : FrameKind) (payload : List Byte) : List Byte :=
  byte address :: byte kind.code :: byte payload.length :: payload

/-- The characters of a frame (R39). -/
def frameChars (address : Nat) (kind : FrameKind) (payload : List Byte) : List Byte :=
  0xC5 :: frameBody address kind payload ++ crcBytes (frameBody address kind payload)

/-- What a good frame says. -/
inductive Msg where
  | status (m : StatusMsg)
  | loss (role : Role) (output rating : Nat)
  | intent (kind : IntentKind) (rank rating : Nat)
  | step (port shedRank load : Nat)
deriving DecidableEq, Repr

/-- The payload of a LOSS notice; kW values are clamped to the field (R42). -/
def lossPayload (role : Role) (output rating : Int) : List Byte :=
  byte role.code :: bytesBE 2 (clamp16 output) ++ bytesBE 2 (clamp16 rating)

/-- The payload of an INTENT notice (R42). -/
def intentPayload (kind : IntentKind) (rank : Nat) (rating : Int) : List Byte :=
  byte (intentCode (some kind)) :: byte rank :: bytesBE 2 (clamp16 rating)

/-- The payload of a STEP notice (R42). -/
def stepPayload (port shedRank : Nat) (load : Int) : List Byte :=
  byte port :: byte shedRank :: bytesBE 2 (clamp16 load)

/-- One feeder record of a STATUS payload (R41). -/
def feederBytes (r : FeederRecord) : List Byte :=
  byte (16 * r.port + r.state.code) :: byte r.shedRank :: bytesBE 2 r.load

/-- The flags character of a STATUS payload (R41). -/
def statusFlags (m : StatusMsg) : Byte :=
  byte ((if m.service then 128 else 0) + (if m.noFreshPeers then 64 else 0) + (if m.unavailable then 32 else 0) + m.island.code)

/-- The payload of a STATUS frame (R41). -/
def statusPayload (m : StatusMsg) : List Byte :=
  [byte m.role.code, byte m.summary.code, statusFlags m, byte m.interval] ++ bytesBE 2 m.rating ++ bytesBE 2 m.output ++
    bytesBE 2 m.minOrAvail ++ [byte m.startRank, byte (intentCode m.intent), byte m.feeders.length] ++
    m.feeders.flatMap feederBytes

/-- The feeder records that characters spell, each port above `last` (R52, checks 6 and 9). -/
def readFeeders : Nat → Nat → List Byte → Option (List FeederRecord)
  | 0, _, [] => some []
  | n + 1, last, p :: r :: hi :: lo :: rest =>
    let port := p.toNat / 16
    match PortState.ofCode (p.toNat % 16) with
    | some st =>
      if last < port && port ≤ 4 && 1 ≤ r.toNat then
        (readFeeders n port rest).map (⟨port, st, r.toNat, numberBE [hi, lo]⟩ :: ·)
      else none
    | none => none
  | _, _, _ => none

/-- What the payload of a STATUS says, if every field lies in its range (R41, R52). The start rank is 1 to 32 for GENSET and 0
for any other role. -/
def readStatus : List Byte → Option StatusMsg
  | ro :: su :: fl :: iv :: r1 :: r0 :: o1 :: o0 :: m1 :: m0 :: sr :: it :: n :: rest =>
    match Role.ofCode ro.toNat, Summary.ofCode su.toNat, Island.ofCode (fl.toNat % 4), intentOfCode it.toNat with
    | some role, some summary, some island, some intent =>
      if 2 ≤ iv.toNat && iv.toNat ≤ 20 && n.toNat ≤ 4 &&
          (if role = .genset then 1 ≤ sr.toNat && sr.toNat ≤ 32 else sr.toNat == 0) then
        (readFeeders n.toNat 0 rest).map fun feeders =>
          { role, summary, service := fl.getLsbD 7, noFreshPeers := fl.getLsbD 6, unavailable := fl.getLsbD 5, island,
            interval := iv.toNat, rating := numberBE [r1, r0], output := numberBE [o1, o0],
            minOrAvail := numberBE [m1, m0], startRank := sr.toNat, intent, feeders }
      else none
    | _, _, _, _ => none
  | _ => none

/-- What a payload of a kind says, if its length fits the kind and its fields lie in their ranges (R52, checks 6 and 9). -/
def readPayload : FrameKind → List Byte → Option Msg
  | .status, l => (readStatus l).map .status
  | .loss, [ro, o1, o0, r1, r0] =>
    match Role.ofCode ro.toNat with
    | some .genset => some (.loss .genset (numberBE [o1, o0]) (numberBE [r1, r0]))
    | some .solar => some (.loss .solar (numberBE [o1, o0]) (numberBE [r1, r0]))
    | _ => none
  | .intent, [k, rank, r1, r0] =>
    match intentOfCode k.toNat with
    | some (some kind) =>
      if 1 ≤ rank.toNat && rank.toNat ≤ 32 then some (.intent kind rank.toNat (numberBE [r1, r0])) else none
    | _ => none
  | .step, [p, rank, l1, l0] =>
    if 1 ≤ p.toNat && p.toNat ≤ 4 && 1 ≤ rank.toNat then some (.step p.toNat rank.toNat (numberBE [l1, l0])) else none
  | _, _ => none

/-- A frame that passes every check of R52, with the address it bears. -/
structure GoodFrame where
  sender : Nat
  msg : Msg
deriving DecidableEq, Repr

/-- The judgement of a run of characters as a frame (R52, checks 2 to 9). -/
def readFrame (chars : List Byte) : Option GoodFrame :=
  match chars with
  | d :: a :: k :: n :: rest =>
    if d = 0xC5 && 1 ≤ a.toNat && a.toNat ≤ 32 && rest.length == n.toNat + 2 &&
        crcBytes (a :: k :: n :: rest.take n.toNat) == rest.drop n.toNat then
      match FrameKind.ofCode k.toNat with
      | some kind => (readPayload kind (rest.take n.toNat)).map (⟨a.toNat, ·⟩)
      | none => none
    else none
  | _ => none

/-- The judgement of a closed burst (R52): no framing error, not overlong, and a good frame. -/
def judgeBurst (burst : List LinkChar) (overlong : Bool) : Option GoodFrame :=
  if overlong || burst.any (·.framing) then none else readFrame (burst.map (·.byte))

/-! ### The configuration record (R174, R175) -/

/-- The byte at an offset of a record. -/
def byteAt (l : List Byte) (i : Nat) : Nat := (l.getD i 0).toNat

/-- The two-byte field at an offset of a record. -/
def wordAt (l : List Byte) (i : Nat) : Nat := 256 * byteAt l i + byteAt l (i + 1)

/-- A list with the bytes at an offset replaced. -/
def putBytes (l : List Byte) (offset : Nat) (new : List Byte) : List Byte :=
  l.take offset ++ new ++ l.drop (offset + new.length)

/-- A field of the record with the range its owning chapter gives. -/
structure FieldRange where
  offset : Nat
  size : Nat
  lo : Nat
  hi : Nat
deriving DecidableEq, Repr

/-- The number a field holds. -/
def fieldValue (l : List Byte) (f : FieldRange) : Nat := numberBE ((l.drop f.offset).take f.size)

/-- A record with one field clamped to its range. -/
def clampField (l : List Byte) (f : FieldRange) : List Byte :=
  let v := fieldValue l f
  if v < f.lo then putBytes l f.offset (bytesBE f.size f.lo)
  else if f.hi < v then putBytes l f.offset (bytesBE f.size f.hi) else l

/-- The feeder count, clamped before the structural checks. -/
def feederCountRange : FieldRange := ⟨16, 1, 0, 4⟩

/-- The rating, clamped before the fields bounded by it. -/
def ratingRange : FieldRange := ⟨12, 2, 1, 20000⟩

/-- The fields whose ranges do not depend on others (the tables of the owning chapters). -/
def plainRanges : List FieldRange :=
  [⟨4, 2, 100, 15000⟩, ⟨6, 2, 1, 65535⟩, ⟨8, 2, 1, 65535⟩, ⟨10, 2, 1, 65535⟩, ⟨14, 1, 2, 20⟩, ⟨15, 1, 1, 10⟩, ⟨17, 1, 1, 32⟩,
   ⟨18, 2, 0, 20000⟩, ⟨20, 1, 0, 100⟩, ⟨21, 2, 0, 2000⟩, ⟨23, 2, 0, 2000⟩, ⟨25, 2, 0, 5000⟩] ++
  [⟨29, 1, 1, 60⟩, ⟨30, 2, 60, 1800⟩, ⟨32, 2, 200, 2000⟩, ⟨34, 1, 5, 60⟩, ⟨35, 1, 1, 15⟩, ⟨36, 1, 5, 30⟩, ⟨37, 1, 1, 5⟩,
   ⟨38, 1, 2, 60⟩, ⟨39, 2, 10, 500⟩, ⟨41, 2, 10, 300⟩, ⟨43, 1, 1, 20⟩, ⟨44, 1, 1, 16⟩, ⟨45, 2, 10, 300⟩, ⟨47, 2, 0, 500⟩,
   ⟨49, 2, 50, 1000⟩, ⟨51, 2, 50, 1000⟩, ⟨53, 1, 0, 100⟩, ⟨54, 1, 1, 200⟩, ⟨57, 2, 10, 300⟩, ⟨59, 2, 0, 600⟩] ++
  [⟨61, 2, 0, 500⟩, ⟨63, 1, 10, 100⟩, ⟨64, 1, 1, 100⟩, ⟨69, 2, 1, 65535⟩] ++
  [0, 7, 14, 21].flatMap (fun o : Nat =>
    [⟨73 + o, 1, 1, 255⟩, ⟨74 + o, 1, 0, 4⟩, ⟨75 + o, 1, 0, 1⟩, ⟨76 + o, 2, 100, 300⟩, ⟨78 + o, 2, 50, 1000⟩]) ++
  [0, 5, 10, 15].flatMap (fun o : Nat =>
    [⟨101 + o, 2, 100, 3000⟩, ⟨103 + o, 1, 1, 8⟩, ⟨104 + o, 2, 0, 500⟩]) ++
  [⟨121, 2, 50, 1000⟩, ⟨123, 1, 2, 120⟩, ⟨124, 1, 2, 120⟩, ⟨125, 1, 1, 30⟩, ⟨126, 1, 1, 30⟩, ⟨127, 1, 5, 120⟩, ⟨128, 1, 5, 120⟩,
   ⟨129, 1, 1, 30⟩, ⟨132, 2, 500, 10000⟩, ⟨134, 2, 50, 500⟩, ⟨136, 2, 500, 5000⟩, ⟨138, 1, 5, 60⟩, ⟨139, 1, 1, 16⟩, ⟨140, 1, 1, 16⟩]

/-- The fields bounded by the rating: minimum load, unload threshold, fallback cap, loss threshold. -/
def ratedRanges (rating : Nat) : List FieldRange :=
  [⟨27, 2, 0, rating⟩, ⟨55, 2, 0, rating⟩, ⟨65, 2, 0, rating⟩, ⟨71, 2, 0, rating⟩]

/-- A signed two-byte field. -/
def signedWordAt (l : List Byte) (i : Nat) : Int := (BitVec.ofNat 16 (wordAt l i)).toInt

/-- A record with the cap offset clamped to −512 to +511. -/
def clampCapOffset (l : List Byte) : List Byte :=
  let v := signedWordAt l 67
  let c := clamp (-512) 511 v
  if c = v then l else putBytes l 67 (bytesSigned 2 c)

/-- A valid record with every value clamped (R175): the feeder count, the rating, then the rest. -/
def clampRecord (l : List Byte) : List Byte :=
  let a := clampField (clampField l feederCountRange) ratingRange
  clampCapOffset ((plainRanges ++ ratedRanges (wordAt a 12)).foldl clampField a)

/-- The stored CRC of a record equals the CRC over its bytes 0 to 253. -/
def recordCrcOk (l : List Byte) : Bool := l.length == 256 && crcBytes (l.take 254) == l.drop 254

/-- The shed ranks of the configured ports of a record. -/
def configuredRanks (l : List Byte) (count : Nat) : List Nat := (List.range count).map fun k => byteAt l (73 + 7 * k)

/-- The structural checks (R175), on a record whose feeder count has been clamped. -/
def structureOk (l : List Byte) : Bool :=
  byteAt l 0 == 1 && byteAt l 1 ≤ 2 && (byteAt l 2 == 50 || byteAt l 2 == 60) && (byteAt l 3 == 1 || byteAt l 3 == 3) &&
    (byteAt l 1 != 1 || (1 ≤ byteAt l 17 && byteAt l 17 ≤ 32)) &&
    (configuredRanks l (byteAt l 16)).all (1 ≤ ·) &&
    (List.range (byteAt l 16)).all (fun k => byteAt l (74 + 7 * k) ≤ 4) &&
    decide (configuredRanks l (byteAt l 16)).Nodup &&
    byteAt l 130 ≤ 15 && byteAt l 131 ≤ 15 && byteAt l 130 < byteAt l 131

/-- A record that passes its CRC and every structural check (R175). -/
def recordValid (l : List Byte) : Bool := recordCrcOk l && structureOk (clampField l feederCountRange)

/-- The parameters of port number `k` (0 to 3) of a record. -/
def portParams (l : List Byte) (k : Nat) : PortParams :=
  ⟨byteAt l (73 + 7 * k), byteAt l (74 + 7 * k), byteAt l (75 + 7 * k) == 1, wordAt l (76 + 7 * k), wordAt l (78 + 7 * k)⟩

/-- The parameters of stage number `k` (0 to 3) of a record. -/
def stageParams (l : List Byte) (k : Nat) : StageParams :=
  ⟨wordAt l (101 + 5 * k), byteAt l (103 + 5 * k), wordAt l (104 + 5 * k)⟩

/-- The parameters that a record holds (R174). -/
def Params.ofRecord (l : List Byte) : Params where
  station :=
    { role := (Role.ofCode (byteAt l 1)).getD .noSource, nominalHz := byteAt l 2, phases := byteAt l 3, nominalV := wordAt l 4,
      kv := wordAt l 6, kiSrc := wordAt l 8, kiFdr := wordAt l 10, aScale := wordAt l 69, rating := wordAt l 12,
      statusInterval := byteAt l 14, balancePeriod := byteAt l 15, feederCount := byteAt l 16, breakerDebounce := byteAt l 139,
      otherDebounce := byteAt l 140 }
  balance :=
    { fixedReserve := wordAt l 18, pvCover := byteAt l 20, curtailMargin := wordAt l 21, deficitMargin := wordAt l 23,
      stopMargin := wordAt l 25 }
  diesel :=
    { startRank := byteAt l 17, minimumLoad := wordAt l 27, startDelay := byteAt l 29, stopDelay := wordAt l 30,
      intentWindow := wordAt l 32, holdoff := byteAt l 34, crankTime := byteAt l 35, restTime := byteAt l 36,
      attempts := byteAt l 37, spoolTime := byteAt l 38, slipWindow := wordAt l 39, phaseWindow := wordAt l 41,
      voltageWindow := byteAt l 43, syncCount := byteAt l 44, syncTimeout := wordAt l 45, breakerClose := wordAt l 47,
      confirmTime := wordAt l 49, pulse := wordAt l 51, ki := byteAt l 53, unloadRate := byteAt l 54,
      unloadThreshold := wordAt l 55, unloadTimeout := wordAt l 57, cooldown := wordAt l 59 }
  solar :=
    { fwDeadband := wordAt l 61, fwSlope := byteAt l 63, ramp := byteAt l 64, fallbackCap := wordAt l 65,
      capOffset := signedWordAt l 67, lossThreshold := wordAt l 71 }
  port := ⟨portParams l 0, portParams l 1, portParams l 2, portParams l 3⟩
  stage := ⟨stageParams l 0, stageParams l 1, stageParams l 2, stageParams l 3⟩
  restore :=
    { band := wordAt l 121, time := byteAt l 123, stepDwell := byteAt l 124, blackStepDwell := byteAt l 125,
      overloadTime := byteAt l 126, rotationSlot := byteAt l 127, minimumOn := byteAt l 128, recoverTimeout := byteAt l 129 }
  black :=
    { deadLevel := byteAt l 130, liveLevel := byteAt l 131, deadTime := wordAt l 132, guardTime := wordAt l 134,
      permitHold := wordAt l 136, permitTimeout := byteAt l 138 }

/-- The parameters while no set has been taken: every one 0, and the role NONE (log 16). -/
def Params.unset : Params := Params.ofRecord []

/-! ### The calibration sector (R176) -/

/-- The stored CRC of the calibration sector, most significant byte first (log 40), equals the CRC over its 24 bytes. -/
def calibrationCrcOk (l : List Byte) : Bool := l.length == 26 && crcBytes (l.take 24) == l.drop 24

/-- Offset and gain of channel `k`, clamped; the gain most significant byte first (log 40). -/
def calibrationAt (l : List Byte) (k : Nat) : Calibration :=
  ⟨clamp (-64) 63 (l.getD (3 * k) 0).toInt, clamp (-256) 255 (signedWordAt l (3 * k + 1))⟩

/-- The calibration that a good sector gives. -/
def CalibrationSet.ofSector (l : List Byte) : CalibrationSet :=
  ⟨calibrationAt l 0, calibrationAt l 1, calibrationAt l 2, calibrationAt l 3,
    ⟨calibrationAt l 4, calibrationAt l 5, calibrationAt l 6, calibrationAt l 7⟩⟩

end Sys2Proof.Machine
end

