-- ==== Sys2Proof/Machine/Ops.lean ====
section
/-! DEFINITION. The named operations over the station's state that every family of commands shares: timers, pulse channels and
confirmation windows, discrete inputs, the output lines, the ALARM cause set, retention, the transmit queue and the view. -/

namespace Sys2Proof.Machine

/-! ### Timers (R21) -/

/-- A timer counts at most this many ticks in one segment. -/
def segmentTicks : Nat := 1000000000

/-- The instant at which a timer expires: none while it is STOPPED or more than one segment remains. -/
def Timer.expiry : Timer → Option Tick
  | .running t d => if d ≤ segmentTicks then some (after t d) else none
  | .stopped => none

/-- The instant at which a timer completes a segment, and the timer that goes on: none while it is STOPPED or one segment or less
remains. -/
def Timer.segment : Timer → Option (Tick × Timer)
  | .running t d =>
    if segmentTicks < d then some (after t segmentTicks, .running (after t segmentTicks) (d - segmentTicks)) else none
  | .stopped => none

def Timer.isRunning : Timer → Bool
  | .running _ _ => true
  | .stopped => false

/-! ### Pulse channels, windows and inputs as parts of the TAC -/

def State.pulse (s : State) : PulseChannel → Pulse
  | .srcClose => s.tac.srcClose
  | .srcTrip => s.tac.srcTrip
  | .crank => s.tac.crank
  | .feederClose p => s.tac.feederClose.get p
  | .feederTrip p => s.tac.feederTrip.get p

def State.putPulse (s : State) (c : PulseChannel) (x : Pulse) : State :=
  { s with tac :=
    match c with
    | .srcClose => { s.tac with srcClose := x }
    | .srcTrip => { s.tac with srcTrip := x }
    | .crank => { s.tac with crank := x }
    | .feederClose p => { s.tac with feederClose := s.tac.feederClose.set p x }
    | .feederTrip p => { s.tac with feederTrip := s.tac.feederTrip.set p x } }

def State.window (s : State) : Breaker → Window
  | .source => s.tac.srcWindow
  | .feeder p => s.tac.feederWindow.get p

def State.putWindow (s : State) (b : Breaker) (w : Window) : State :=
  { s with tac :=
    match b with
    | .source => { s.tac with srcWindow := w }
    | .feeder p => { s.tac with feederWindow := s.tac.feederWindow.set p w } }

def Pulse.isActive : Pulse → Bool
  | .active _ _ => true
  | .idle => false

def Pulse.timer : Pulse → Timer
  | .active _ t => t
  | .idle => .stopped

def Pulse.withTimer : Pulse → Timer → Pulse
  | .active r _, t => .active r t
  | .idle, _ => .idle

def Window.timer : Window → Timer
  | .watching _ _ t => t
  | .closedOut => .stopped

def Window.withTimer : Window → Timer → Window
  | .watching r c _, t => .watching r c t
  | .closedOut, _ => .closedOut

def Window.isWatching : Window → Bool
  | .watching _ _ _ => true
  | .closedOut => false

def Qualifiers.get (q : Qualifiers) : InputLine → Qualifier
  | .srcCb => q.srcCb
  | .runFb => q.runFb
  | .inhibit => q.inhibit
  | .service => q.service
  | .feederCb p => q.cb.get p
  | .feederLocal p => q.loc.get p

def Qualifiers.set (q : Qualifiers) (i : InputLine) (x : Qualifier) : Qualifiers :=
  match i with
  | .srcCb => { q with srcCb := x }
  | .runFb => { q with runFb := x }
  | .inhibit => { q with inhibit := x }
  | .service => { q with service := x }
  | .feederCb p => { q with cb := q.cb.set p x }
  | .feederLocal p => { q with loc := q.loc.set p x }

/-- The qualified level of an input (R31). -/
def State.level (s : State) (i : InputLine) : InputLevel := (s.tac.inputs.get i).level

/-- An input is qualified as asserted. -/
def State.asserted (s : State) (i : InputLine) : Bool := s.level i == .asserted

/-- An input is qualified as released. -/
def State.released (s : State) (i : InputLine) : Bool := s.level i == .released

/-! ### Port records and entries as holders of timers -/

/-- The port record of a port, changed where there is one. -/
def Fl.modify (f : Fl) (p : Port) (g : PortRecord → PortRecord) : Fl :=
  { f with ports := f.ports.set p ((f.ports.get p).map g) }

/-- The port record of a port, changed where there is one. -/
def State.modifyPort (s : State) (p : Port) (g : PortRecord → PortRecord) : State := { s with fl := s.fl.modify p g }

/-- The record of a port, if the station has one (R137). -/
def State.port (s : State) (p : Port) : Option PortRecord := s.fl.ports.get p

/-- The state of a port, if it has one. -/
def State.portState (s : State) (p : Port) : Option PortState := (s.port p).map (·.state)

/-- The entry of an address, if the table holds one (R59). -/
def Pv.entry (v : Pv) (a : Nat) : Option Entry := v.table.find? (·.address == a)

/-- The table with the entry of an address changed. -/
def Pv.modify (v : Pv) (a : Nat) (g : Entry → Entry) : Pv :=
  { v with table := v.table.map fun e => if e.address == a then g e else e }

/-! ### Every timer by its name -/

def State.timer (s : State) : TimerId → Timer
  | .pulse c => (s.pulse c).timer
  | .confirm b => (s.window b).timer
  | .synthetic => s.mu.synthetic
  | .source => s.mu.srcTimeout
  | .status => s.ilc.status
  | .stale a => ((s.pv.entry a).map (·.staleTimer)).getD .stopped
  | .removal a => ((s.pv.entry a).map (·.removalTimer)).getD .stopped
  | .balance => s.be.timer
  | .window => s.ds.timers.window
  | .holdoff => s.ds.timers.holdoff
  | .stop => s.ds.timers.stop
  | .loss => s.ds.timers.loss
  | .rest => s.ds.timers.rest
  | .spool => s.ds.timers.spool
  | .sync => s.ds.timers.sync
  | .unload => s.ds.timers.unload
  | .cooldown => s.ds.timers.cooldown
  | .ripeness p => ((s.port p).map (·.ripeness)).getD .stopped
  | .restoreQual => s.fl.qualTimer
  | .stepSpacing => s.fl.spacing
  | .overload => s.fl.overload
  | .dead => s.bsc.dead
  | .recover => s.bsc.recover
  | .guard => s.bsc.session.guard
  | .stuck => s.bsc.session.stuck
  | .slot => s.bsc.session.slot
  | .hold => s.bsc.session.hold
  | .liveWait => s.bsc.session.liveWait
  | .integrity => s.cr.integrity

/-- The diesel timers with one of them replaced. -/
def State.putDieselTimers (s : State) (t : DieselTimers) : State := { s with ds := { s.ds with timers := t } }

/-- The session with its timers replaced as given. -/
def State.putSession (s : State) (x : Session) : State := { s with bsc := { s.bsc with session := x } }

def State.putTimer (s : State) (id : TimerId) (t : Timer) : State :=
  match id with
  | .pulse c => s.putPulse c ((s.pulse c).withTimer t)
  | .confirm b => s.putWindow b ((s.window b).withTimer t)
  | .synthetic => { s with mu := { s.mu with synthetic := t } }
  | .source => { s with mu := { s.mu with srcTimeout := t } }
  | .status => { s with ilc := { s.ilc with status := t } }
  | .stale a => { s with pv := s.pv.modify a fun e => { e with staleTimer := t } }
  | .removal a => { s with pv := s.pv.modify a fun e => { e with removalTimer := t } }
  | .balance => { s with be := { s.be with timer := t } }
  | .window => s.putDieselTimers { s.ds.timers with window := t }
  | .holdoff => s.putDieselTimers { s.ds.timers with holdoff := t }
  | .stop => s.putDieselTimers { s.ds.timers with stop := t }
  | .loss => s.putDieselTimers { s.ds.timers with loss := t }
  | .rest => s.putDieselTimers { s.ds.timers with rest := t }
  | .spool => s.putDieselTimers { s.ds.timers with spool := t }
  | .sync => s.putDieselTimers { s.ds.timers with sync := t }
  | .unload => s.putDieselTimers { s.ds.timers with unload := t }
  | .cooldown => s.putDieselTimers { s.ds.timers with cooldown := t }
  | .ripeness p => s.modifyPort p fun r => { r with ripeness := t }
  | .restoreQual => { s with fl := { s.fl with qualTimer := t } }
  | .stepSpacing => { s with fl := { s.fl with spacing := t } }
  | .overload => { s with fl := { s.fl with overload := t } }
  | .dead => { s with bsc := { s.bsc with dead := t } }
  | .recover => { s with bsc := { s.bsc with recover := t } }
  | .guard => s.putSession { s.bsc.session with guard := t }
  | .stuck => s.putSession { s.bsc.session with stuck := t }
  | .slot => s.putSession { s.bsc.session with slot := t }
  | .hold => s.putSession { s.bsc.session with hold := t }
  | .liveWait => s.putSession { s.bsc.session with liveWait := t }
  | .integrity => { s with cr := { s.cr with integrity := t } }

/-- The start or restart of a timer now, with a duration in ticks (R21). -/
def State.start (s : State) (id : TimerId) (d : Nat) : State := s.putTimer id (.running s.tb d)

/-- The cancel of a timer (R21): a STOPPED timer stays STOPPED. -/
def State.cancel (s : State) (id : TimerId) : State := s.putTimer id .stopped

/-- The time base at an instant. -/
def State.stamp (s : State) (t : Tick) : State := { s with tb := t }

/-- The expiry of a timer (R21), if it is due: the timer is STOPPED and the time base stands at the expiry instant. -/
def State.expire (s : State) (id : TimerId) : Option State :=
  (s.timer id).expiry.map fun t => (s.stamp t).cancel id

/-! ### Parameters and modes -/

/-- The parameter set of the blocks. -/
def State.par (s : State) : Params := s.cr.params.getD .unset

/-- The station runs: no reset holds it. -/
def State.runs (s : State) : Bool := s.phase == .running

/-- The time base at an instant, where no reset holds it (log 25). -/
def State.stampRunning (s : State) (t : Tick) : State := if s.runs then s.stamp t else s

/-- The blocks have taken their parameter set (R1, R75, R97, R123, R136, R157). -/
def State.started (s : State) : Bool := s.cr.params.isSome

/-- The station mode is COORDINATED or AUTONOMOUS. -/
def State.operating (s : State) : Bool := s.cr.mode == .coordinated || s.cr.mode == .autonomous

/-- The island state is LIVE or RECOVER. -/
def State.islandUp (s : State) : Bool := s.bsc.island == some .live || s.bsc.island == some .recover

/-- The nominal frequency in mHz. -/
def State.fNom (s : State) : Nat := s.par.station.nominalHz * 1000

/-- The balance period in ms (R76). -/
def State.periodMs (s : State) : Nat := s.par.station.balancePeriod * 50

/-! ### Output lines -/

/-- The bias written to the PWM channel, clamped (R29). -/
def State.writePwm (s : State) (v : Int) : State := { s with tac := { s.tac with pwm := clamp (-1000) 1000 v } }

/-- The cap code written to the cap output stage, clamped (R30). -/
def State.writeCapCode (s : State) (c : Int) : State := { s with tac := { s.tac with capCode := (clamp 0 4095 c).toNat } }

/-- The RUN latch written by the diesel sequencer (R33). -/
def State.writeRun (s : State) (b : Bool) : State := { s with ret := { s.ret with run := b } }

def AlarmSet.has (a : AlarmSet) : AlarmCause → Bool
  | .dieselFailed => a.dieselFailed
  | .portFaulted p => a.portFaulted.get p
  | .modeFault => a.modeFault
  | .addressConflict => a.addressConflict
  | .permitStuck => a.permitStuck

def AlarmSet.put (a : AlarmSet) (c : AlarmCause) (b : Bool) : AlarmSet :=
  match c with
  | .dieselFailed => { a with dieselFailed := b }
  | .portFaulted p => { a with portFaulted := a.portFaulted.set p b }
  | .modeFault => { a with modeFault := b }
  | .addressConflict => { a with addressConflict := b }
  | .permitStuck => { a with permitStuck := b }

/-- A cause added to the ALARM cause set or removed from it (R34). -/
def State.setAlarm (s : State) (c : AlarmCause) (b : Bool) : State :=
  { s with tac := { s.tac with alarm := s.tac.alarm.put c b } }

/-- PERMIT pulled or released (R35). -/
def State.drivePermit (s : State) (pull : Bool) : State := { s with tac := { s.tac with permitPull := pull } }

/-- Edge reports of PERMIT on or off (R35). -/
def State.setPermitEdges (s : State) (b : Bool) : State := { s with tac := { s.tac with permitEdges := b } }

/-- PERMIT reads low: the wired-OR of the own drive and the others' (R35). -/
def State.permitLow (s : State) : Bool := s.tac.permitPull || s.tac.permitOthers

/-! ### Retention (R181) -/

def State.writeLockout (s : State) (b : Bool) : State := { s with ret := { s.ret with lockout := b } }

def State.retainPort (s : State) (p : Port) (st : PortState) (cause : Option ShedCause) : State :=
  { s with ret := { s.ret with ports := s.ret.ports.set p (some (st, cause)) } }

/-! ### Pulse requests (R22 to R27) -/

/-- The answer of the TAC to a pulse request. -/
inductive PulseAnswer where
  | started | ignored | refused
deriving DecidableEq, Repr

/-- The answer to a request, with what came about in the same act: whether a close pulse was cut (its requester receives
SUPERSEDED), and whether the window opened reported CONFIRMED at once. -/
structure PulseReply where
  answer : PulseAnswer
  cutClose : Bool
  confirmed : Bool
deriving DecidableEq, Repr

/-- The width of a pulse in ticks, clamped to the channel's range. -/
def widthTicks (c : PulseChannel) (widthMs : Nat) : Nat :=
  match c with
  | .crank => ms (clamp 1000 15000 widthMs).toNat
  | _ => ms (clamp 50 1000 widthMs).toNat

/-- The close channel of a breaker. -/
def closeChannel : Breaker → PulseChannel
  | .source => .srcClose
  | .feeder p => .feederClose p

/-- The trip channel of a breaker. -/
def tripChannel : Breaker → PulseChannel
  | .source => .srcTrip
  | .feeder p => .feederTrip p

/-- The input on which a breaker's position is read (R26). -/
def positionInput : Breaker → InputLine
  | .source => .srcCb
  | .feeder p => .feederCb p

/-- The LOCAL rule (R25) refuses a request for a breaker. -/
def State.localRefuses (s : State) : Breaker → Bool
  | .source => false
  | .feeder p => s.asserted (.feederLocal p)

/-- A pulse begun on a channel. -/
def State.beginPulse (s : State) (c : PulseChannel) (r : Requester) (widthMs : Nat) : State :=
  s.putPulse c (.active r (.running s.tb (widthTicks c widthMs)))

/-- The confirmation window of a breaker opened for a position (R26): CONFIRMED at once where the input is qualified there. -/
def State.openWindow (s : State) (b : Breaker) (r : Requester) (closed : Bool) : Bool × State :=
  if s.level (positionInput b) = (if closed then .asserted else .released) then (true, s.putWindow b .closedOut)
  else (false, s.putWindow b (.watching r closed (.running s.tb (ms s.par.diesel.confirmTime))))

/-- The window opened where the requester asks for a confirmation. -/
def State.openWindowIf (s : State) (confirm : Bool) (b : Breaker) (r : Requester) (closed : Bool) : Bool × State :=
  if confirm then s.openWindow b r closed else (false, s)

/-- A close request on a breaker (R22, R24, R25, R26). -/
def State.requestClose (s : State) (b : Breaker) (r : Requester) (widthMs : Nat) (confirm : Bool) : PulseReply × State :=
  if s.localRefuses b then (⟨.refused, false, false⟩, s)
  else if (s.pulse (closeChannel b)).isActive then (⟨.ignored, false, false⟩, s)
  else if (s.pulse (tripChannel b)).isActive then (⟨.refused, false, false⟩, s)
  else
    let (confirmed, s) := (s.beginPulse (closeChannel b) r widthMs).openWindowIf confirm b r true
    (⟨.started, false, confirmed⟩, s)

/-- The close pulse of a breaker cut by a trip (R24), and the close's window ended (R27). -/
def State.cutCloseForTrip (s : State) (b : Breaker) : State :=
  let s := s.putPulse (closeChannel b) .idle
  match s.window b with
  | .watching _ true _ => s.putWindow b .closedOut
  | _ => s

/-- A trip request on a breaker (R22, R24, R25, R26, R27). -/
def State.requestTrip (s : State) (b : Breaker) (r : Requester) (widthMs : Nat) (confirm : Bool) : PulseReply × State :=
  if s.localRefuses b then (⟨.refused, false, false⟩, s)
  else if (s.pulse (tripChannel b)).isActive then (⟨.ignored, false, false⟩, s)
  else
    let cut := (s.pulse (closeChannel b)).isActive
    let s := if cut then s.cutCloseForTrip b else s
    let (confirmed, s) := (s.beginPulse (tripChannel b) r widthMs).openWindowIf confirm b r false
    (⟨.started, cut, confirmed⟩, s)

/-- A crank pulse request on P2 (R22). -/
def State.requestCrank (s : State) (widthMs : Nat) : State :=
  if (s.pulse .crank).isActive then s else s.beginPulse .crank .ds widthMs

/-- A channel cut: its line is released at once (R23). -/
def State.cut (s : State) (c : PulseChannel) : State := s.putPulse c .idle

/-- The LOCAL line of a port qualified as asserted: the port's pulses are cut and its window withdrawn (R25, R27). -/
def State.cutLocal (s : State) (p : Port) : State :=
  ((s.cut (.feederClose p)).cut (.feederTrip p)).putWindow (.feeder p) .closedOut

/-! ### The transmit queue (R46) -/

def Slots.get (q : Slots) : FrameKind → Slot
  | .status => q.status
  | .loss => q.loss
  | .intent => q.intent
  | .step => q.step

def Slots.set (q : Slots) (k : FrameKind) (x : Slot) : Slots :=
  match k with
  | .status => { q with status := x }
  | .loss => { q with loss := x }
  | .intent => { q with intent := x }
  | .step => { q with step := x }

def State.putSlot (s : State) (k : FrameKind) (x : Slot) : State :=
  { s with ilc := { s.ilc with slots := s.ilc.slots.set k x } }

/-- The transmitter is enabled: READY or SENDING. -/
def Transmitter.enabled : Transmitter → Bool
  | .disabled => false
  | .ready => true
  | .sending _ _ _ _ => true

/-- A frame placed in the slot of its kind, which keeps the slot's attempt state; discarded while the transmitter is DISABLED. -/
def State.placeFrame (s : State) (k : FrameKind) (payload : List Byte) : State :=
  if s.ilc.transmitter.enabled then s.putSlot k { s.ilc.slots.get k with frame := some payload } else s

/-- A draw of the random generator (R45). -/
def State.draw (s : State) : Nat × State :=
  match s.ilc.random with
  | some r => ((lfsrDraw r).toNat, { s with ilc := { s.ilc with random := some (lfsrDraw r) } })
  | none => (0, s)

def State.putCounters (s : State) (c : LinkCounters) : State := { s with ilc := { s.ilc with counters := c } }

/-! ### The view of the peer table (R69 to R71) -/

/-- The number of FRESH entries (R69). -/
def Pv.freshCount (v : Pv) : Nat := (v.table.filter (·.fresh)).length

/-- The view: the FRESH entries in ascending address order, none while the conflict indication is set. -/
def State.view (s : State) : List Entry := if s.pv.conflict then [] else s.pv.table.filter (·.fresh)

/-! ### The configuration sector (R180) -/

/-- What the `n`-th erase or program cut short leaves in the sector: free bytes whose CRC fails (log 8). -/
def brokenSector (n : Nat) : List Byte :=
  let body := (List.range 254).map (Config.brokenSectorByte n)
  let off := if Config.brokenSectorCrc n = 0 then 1 else Config.brokenSectorCrc n
  body ++ bytesBE 2 (crc16 body ^^^ off).toNat

/-- The configuration sector left partly erased or partly programmed. -/
def State.spoilSector (s : State) : State :=
  { s with cr := { s.cr with sector := brokenSector s.freeCount }, freeCount := s.freeCount + 1 }

end Sys2Proof.Machine
end

