-- ==== Sys2Proof/Machine/Flags.lean ====
section
/-! DEFINITION. What the station's state says of itself: voltage conditions, frequencies, summaries and flags, and the levels of
the output lines. -/

namespace Sys2Proof.Machine

/-! ### Voltage conditions and frequencies -/

/-- The condition of a voltage by its RMS value, the nominal voltage, the dead and live levels and the condition before (R12). -/
def nextCondition (before : Condition) (rms nominal dead live : Nat) : Condition :=
  if 32 * rms < (2 * dead + 1) * nominal then .dead
  else if 32 * rms < (2 * live + 1) * nominal then (if before = .live then .live else .dead)
  else .live

/-- A period lies in the valid band, 70 Hz down to 40 Hz (R5). -/
def periodInBand (p : Nat) : Bool := 142857 ≤ p && p ≤ 250000

/-- The frequency of a window of four periods in mHz; INVALID for fewer (R13, R14). -/
def windowFrequency (w : List Nat) : Option Nat :=
  if w.length = 4 then some (roundDiv 40000000000 (sumBy id w)).toNat else none

/-- The single-cycle frequency of a period in mHz (R13). -/
def cycleFrequency (p : Nat) : Nat := (roundDiv 10000000000 p).toNat

/-- A period appended to a window of at most four (R10). -/
def pushPeriod (w : List Nat) (p : Nat) : List Nat := (w ++ [p]).drop ((w ++ [p]).length - 4)

/-- The filtered frequency f (R13). -/
def Mu.f (m : Mu) : Option Nat := windowFrequency m.window

/-- The source frequency f_src (R14). -/
def Mu.fSrc (m : Mu) : Option Nat := windowFrequency m.srcWindow

/-! ### Summaries (R98, R123) -/

/-- The summary of a diesel state. -/
def DieselState.summary : DieselState → Summary
  | .off => .idle
  | .standby => .idle
  | .intent => .pending
  | .crank => .pending
  | .rest => .pending
  | .spool => .pending
  | .sync => .pending
  | .arbitrate => .pending
  | .closing => .pending
  | .online => .online
  | .stopIntent => .online
  | .unload => .leaving
  | .opening => .leaving
  | .cooldown => .idle
  | .failed => .failed

/-- The unavailable flag of a diesel state. -/
def DieselState.unavailable : DieselState → Bool
  | .off => true
  | .cooldown => true
  | .standby => false
  | .intent => false
  | .crank => false
  | .rest => false
  | .spool => false
  | .sync => false
  | .arbitrate => false
  | .closing => false
  | .online => false
  | .stopIntent => false
  | .unload => false
  | .opening => false
  | .failed => false

/-- The summary of a solar source state. -/
def SolarState.summary : SolarState → Summary
  | .offline => .idle
  | .online => .online

/-- The own summary as STATUS reports it and the balance engine takes it (R43, R78): ABSENT for role NONE. -/
def State.summary (s : State) : Summary :=
  match s.par.station.role with
  | .noSource => .absent
  | .genset => (s.ds.state.map (·.summary)).getD .absent
  | .solar => (s.sc.state.map (·.summary)).getD .absent

/-- The own unavailable flag, clear for the roles SOLAR and NONE (R43). -/
def State.unavailable (s : State) : Bool :=
  s.par.station.role == .genset && (s.ds.state.map (·.unavailable)).getD false

/-- The own output: the source power mean clamped (R43, R78); 0 for role NONE (log 34). -/
def State.ownOutput (s : State) : Nat := if s.par.station.role = .noSource then 0 else clamp16 s.mu.mean.src

/-- The own available power at a SOLAR station: raised to the output, then lowered to the rating (R43, R78); 0 at any other (log 34). -/
def State.ownAvailable (s : State) : Nat :=
  if s.par.station.role = .solar then min (max (clamp16 s.mu.mean.avail) s.ownOutput) s.par.station.rating else 0

/-! ### The output lines -/

/-- A pulse channel's line is asserted while it is ACTIVE (R22). -/
def State.lineAsserted (s : State) (c : PulseChannel) : Bool := (s.pulse c).isActive

/-- The RUN output is asserted while the latch is SET (R33). -/
def State.runAsserted (s : State) : Bool := s.ret.run

/-- The high time of BIAS in the PWM period in progress, in ticks (R29). -/
def State.biasHighTicks (s : State) : Int := 5000 + 5 * s.tac.pwmInUse

/-- A cause is in the ALARM cause set, so ALARM is asserted, which is low (R34). -/
def State.alarmAsserted (s : State) : Bool :=
  s.tac.alarm.dieselFailed || s.tac.alarm.portFaulted.toList.any id || s.tac.alarm.modeFault ||
    s.tac.alarm.addressConflict || s.tac.alarm.permitStuck

/-- The level of bit `k` of a character on the link: the start bit low, the eight data bits with the least significant first, the
stop bit high (R37). -/
def charLevel (c : Byte) (k : Nat) : Bool := if k = 0 then false else if k ≤ 8 then c.getLsbD (k - 1) else true

/-- The ten bits of a character as a receiver samples them (R37). -/
def charBits (c : Byte) : BitVec 10 := (1#1 ++ c) ++ 0#1

/-- The level at which the driver holds the line at an instant: bit by bit of 40 ticks, character after character of 400 without a gap
while an attempt is being sent, and to the end of the character being driven after a disabling. None where the driver is released and
the line is left to the others (R37, R47, R48, R56). -/
def State.linkLevel (s : State) (now : Tick) : Option Bool :=
  match s.ilc.transmitter, s.ilc.finishing with
  | .sending k payload start _, _ =>
    let d := elapsed now start
    (frameChars s.address k payload)[d / 400]?.map fun c => charLevel c (d % 400 / 40)
  | _, some release =>
    let d := elapsed release now
    if 0 < d && d ≤ 400 then some (charLevel s.ilc.finishingChar ((400 - d) / 40)) else none
  | _, none => none

/-- The link driver drives the line now. -/
def State.linkDriven (s : State) : Bool := (s.linkLevel s.tb).isSome

end Sys2Proof.Machine
end

