-- ==== Sys2Proof/Machine/Balance.lean ====
section
/-! DEFINITION. The balance figures: the island sums, the reserve, the restore candidate, the tests and the solar allowance
(chapter 05). -/

namespace Sys2Proof.Machine

/-! ### Stage 1: the island sums (R78 to R80) -/

/-- What one station adds into the sums. `minOrAvail` is the minimum load of a GENSET and the available power of a SOLAR station. -/
structure Contribution where
  role : Role
  summary : Summary
  rating : Nat
  output : Nat
  minOrAvail : Nat
deriving DecidableEq, Repr

/-- The own station as one station of the computation (R78). -/
def State.ownContribution (s : State) : Contribution where
  role := s.par.station.role
  summary := s.summary
  rating := s.par.station.rating
  output := s.ownOutput
  minOrAvail :=
    match s.par.station.role with
    | .genset => s.par.diesel.minimumLoad
    | .solar => s.ownAvailable
    | .noSource => 0

/-- An entry of the view as one station of the computation (R79). -/
def Entry.contribution (e : Entry) : Contribution := ⟨e.role, e.summary, e.rating, e.output, e.minOrAvail⟩

/-- The stations in the computation. -/
def State.contributions (s : State) : List Contribution := s.ownContribution :: s.view.map (·.contribution)

/-- The station is of a role with a summary. -/
def Contribution.is (c : Contribution) (role : Role) (summary : Summary) : Bool := c.role == role && c.summary == summary

/-- The sum of a figure over the stations that enter it. -/
def sumWhere (enters : Contribution → Bool) (term : Contribution → Nat) (l : List Contribution) : Nat :=
  sumBy (fun c => if enters c then term c else 0) l

/-- The six island sums (R80). -/
structure Sums where
  cOn : Nat
  pGen : Nat
  mMin : Nat
  cPend : Nat
  pPv : Nat
  aPv : Nat
deriving DecidableEq, Repr

/-- The island sums over the stations in the computation (R80). -/
def Sums.of (l : List Contribution) : Sums where
  cOn := sumWhere (·.is .genset .online) (·.rating) l
  pGen := sumWhere (fun c => c.is .genset .online || c.is .genset .leaving) (·.output) l
  mMin := sumWhere (·.is .genset .online) (·.minOrAvail) l
  cPend := sumWhere (·.is .genset .pending) (·.rating) l
  pPv := sumWhere (·.is .solar .online) (·.output) l
  aPv := sumWhere (·.is .solar .online) (·.minOrAvail) l

/-! ### Stage 2: the restore candidate (R82, R83) -/

/-- A port in this state is a candidate record. -/
def PortState.waits (st : PortState) : Bool := st == .blackOpen || st == .shed

/-- The order of the candidate records (R82): BLACK-OPEN first, shed rank descending, address ascending, port ascending. -/
def Candidate.before (a b : Candidate) : Bool :=
  if a.state ≠ b.state then a.state == .blackOpen
  else if a.shedRank ≠ b.shedRank then b.shedRank < a.shedRank
  else a.address < b.address || (a.address == b.address && a.port < b.port)

/-- The own candidate records (R82). -/
def State.ownCandidates (s : State) : List Candidate :=
  Port.all.filterMap fun p =>
    (s.port p).bind fun r =>
      if r.state.waits then
        some ⟨s.address, p.num, r.state, (s.par.port.get p).shedRank, r.load, (s.par.port.get p).coldLoad⟩
      else none

/-- The candidate records of the view, with the assumed cold-load of 150 % (R82). -/
def State.peerCandidates (s : State) : List Candidate :=
  s.view.flatMap fun e =>
    (e.feeders.filter (·.state.waits)).map fun r => ⟨e.address, r.port, r.state, r.shedRank, r.load, 150⟩

/-- The restore candidate (R82). -/
def State.restoreCandidate (s : State) : Option Candidate :=
  (sortBy Candidate.before (s.ownCandidates ++ s.peerCandidates)).head?

/-- The shed demand of a candidate (R83). -/
def shedDemand (c : Option Candidate) : Nat := (c.map fun c => c.coldLoad * c.load / 100).getD 0

/-! ### The figures (R81, R84 to R89) -/

/-- The own share of the solar allowance (R88). -/
def ownShare (own : Contribution) (allowance : Int) (aPv : Nat) : Int :=
  if own.is .solar .online && 0 < aPv then allowance * own.minOrAvail / aPv else 0

/-- The figures record of a computation (R77): the own station, the stations in it, the candidate, the balance parameters, and
what the record carries besides. -/
def figuresOf (p : BalanceParams) (own : Contribution) (l : List Contribution) (candidate : Option Candidate)
    (computedAt : Tick) (count viewSize : Nat) (f : Option Nat) (ownAvailable : Nat) : Figures :=
  let x := Sums.of l
  let reserve : Int := (x.cOn : Int) - x.pGen
  let load := x.pGen + x.pPv
  let requirement := max p.fixedReserve (p.pvCover * x.pPv / 100)
  let demand := shedDemand candidate
  let other := if own.summary = .pending then (x.cPend : Int) - own.rating else x.cPend
  let headroom := reserve - requirement
  let allowance := max 0 ((load : Int) - x.mMin - p.curtailMargin)
  { computedAt
    count
    viewSize
    f
    ownOutput := own.output
    ownAvailable
    cOn := x.cOn
    pGen := x.pGen
    mMin := x.mMin
    cPend := x.cPend
    pPv := x.pPv
    aPv := x.aPv
    reserve
    load
    requirement
    candidate
    shedDemand := demand
    startNeed := decide (reserve + x.cPend < (requirement : Int) + demand)
    startNeedOther := decide (reserve + other < (requirement : Int) + demand)
    stopPossible := own.is .genset .online &&
      decide ((requirement : Int) + p.stopMargin ≤ ((x.cOn : Int) - own.rating) - x.pGen) &&
      decide (0 < (x.cOn : Int) - own.rating)
    overload := decide (reserve < 0) && x.cPend == 0
    overloadDemand := if reserve < 0 then -reserve + p.deficitMargin else 0
    headroom
    candidateFits := candidate.isSome && decide ((demand : Int) ≤ headroom)
    allowance
    ownShare := ownShare own allowance x.aPv }

/-- The figures record that an expiry computes (R77). -/
def State.newFigures (s : State) : Figures :=
  figuresOf s.par.balance s.ownContribution s.contributions s.restoreCandidate s.tb ((s.be.figures.count + 1) % 65536)
    s.view.length s.mu.mean.f s.ownAvailable

/-- The figures record replaced whole (R77). -/
def beCompute (s : State) : State := { s with be := { s.be with figures := s.newFigures } }

/-- The balance period in ticks (R76). -/
def State.balanceTicks (s : State) : Nat := s.par.station.balancePeriod * 500000

/-- The BE starts its timer (R75, R76). -/
def beStart (s : State) : State := s.start .balance s.balanceTicks

end Sys2Proof.Machine
end

