-- ==== Sys2Proof/Machine/Measure.lean ====
section
/-! DEFINITION. The measurement unit: scans, measurement cycles and their records, the source frequency, the synchronising record
and the period means (chapter 01). -/

namespace Sys2Proof.Machine

/-! ### The crossing comparators (R28) -/

/-- The nominal voltage of the crossing comparators: 400 V until the start-up load supplies the configured one (R28). -/
def State.crossingV (s : State) : Nat := (s.cr.params.map (·.station.nominalV)).getD 400

/-- The wave falls through −1 % of the nominal peak, where a comparator's output goes low. -/
def fallsThrough (x : Swing) (nominal : Nat) : Bool :=
  decide (x.low < 0) && decide (((200 * (nominal * nominal) : Nat) : Int) < x.low * x.low)

/-- The wave rises through +1 % of the nominal peak, where a comparator's output goes high. -/
def risesThrough (x : Swing) (nominal : Nat) : Bool :=
  decide (0 < x.high) && decide (((200 * (nominal * nominal) : Nat) : Int) < x.high * x.high)

/-- A comparator's output after the fall of a swing. -/
def State.afterFall (s : State) (high : Bool) (x : Swing) : Bool := high && !fallsThrough x s.crossingV

/-- A rise with a swing changes a comparator's output from low to high: it is a capture. -/
def State.capturedFrom (s : State) (high : Bool) (x : Swing) : Bool := !s.afterFall high x && risesThrough x s.crossingV

/-- A rise of V_BUS with a swing is a capture. -/
def State.busCapture (s : State) (x : Swing) : Bool := s.capturedFrom s.tac.c0High x

/-- A rise of V_SRC with a swing is a capture. -/
def State.sourceCapture (s : State) (x : Swing) : Bool := s.capturedFrom s.tac.c1High x

/-! ### Scans (R3, R4) -/

/-- The synthetic timeout in ticks, one and a half nominal periods (R7). -/
def syntheticTicks (nominalHz : Nat) : Nat := if nominalHz = 60 then 250000 else 300000

/-- Whether a gap of the 24-scan pattern at 60 Hz is one of the four of 2605 ticks (R3, log 6). -/
def longGap (k : Nat) : Bool :=
  (List.range 24).countP (fun j => Config.scanGapKey j < Config.scanGapKey k ||
    (Config.scanGapKey j == Config.scanGapKey k && j < k)) < 4

/-- The gap after a scan in ticks (R3). -/
def scanGap (nominalHz phase : Nat) : Nat :=
  if nominalHz = 60 then (if longGap phase then 2605 else 2604) else 3125

/-- A port is configured (chapter 08, feeder count). -/
def State.configured (s : State) (p : Port) : Bool := p.num ≤ s.par.station.feederCount

/-- The open cycle with one scan's calibrated samples added (R4). -/
def Cycle.add (c : Cycle) (cal : CalibrationSet) (configured : Port → Bool) (x : AnalogLevels) : Cycle :=
  let vb := calibrated cal.vBus x.vBus
  let vs := calibrated cal.vSrc x.vSrc
  { n := c.n + 1
    vBus2 := c.vBus2 + vb * vb
    vSrc2 := c.vSrc2 + vs * vs
    srcVI := c.srcVI + vs * calibrated cal.iSrc x.iSrc
    feederVI := .of fun p =>
      c.feederVI.get p + (if configured p then vb * calibrated (cal.iF.get p) (x.iF.get p) else 0)
    avail := c.avail + calibrated cal.aAvail x.aAvail }

/-- A sample lies below −1 % of the nominal peak, where a capture comparator's output is low (R28, log 5). -/
def belowHysteresis (sample : Int) (kv nominal : Nat) : Bool :=
  decide (sample < 0) && decide ((200 * (nominal * nominal) : Nat) < sample * sample * ((kv * kv : Nat) : Int))

/-- A scan at its instant: the samples enter the open cycle, and the next scan instant is set (R3, R4). -/
def muScan (x : AnalogLevels) (s : State) : State :=
  let p := s.par.station
  let low (c : Calibration) (level : Int) := belowHysteresis (calibrated c level) p.kv p.nominalV
  { s with
    tb := s.mu.nextScan
    mu := { s.mu with
      cycle := s.mu.cycle.add s.mu.cal s.configured x
      nextScan := after s.mu.nextScan (scanGap p.nominalHz s.mu.scanPhase)
      scanPhase := (s.mu.scanPhase + 1) % 24 }
    tac := { s.tac with
      c0High := s.tac.c0High && !low s.mu.cal.vBus x.vBus
      c1High := s.tac.c1High && !low s.mu.cal.vSrc x.vSrc } }

/-! ### The synchronising record (R17, R18) -/

/-- An angle in tenths of a degree mapped into −1800 to 1799. -/
def wrapPhase (x : Int) : Int := (x + 1800) % 3600 - 1800

/-- The phase of the source wave against the bus wave. -/
def syncPhase (delta pBus : Nat) : Int :=
  let raw := (delta % pBus) * 3600 / pBus
  if raw ≤ 1799 then raw else (raw : Int) - 3600

/-- The synchronising record of a capture boundary at `t`, where f and f_src are valid. -/
def syncRecord (t tSrc : Tick) (pBus f fSrc closeMs : Nat) : SyncRecord :=
  let slip := (fSrc : Int) - f
  let phase := syncPhase (elapsed t tSrc) pBus
  { slip, phase, predicted := wrapPhase (phase + roundDiv (slip * closeMs * 3600) 1000000) }

/-- The synchronising record of a closing cycle, if it carries one. -/
def cycleSync (s : State) (t : Tick) (kind : BoundaryKind) (window : List Nat) : Option SyncRecord :=
  match kind, windowFrequency window, s.mu.fSrc, s.mu.lastSrc, window.getLast? with
  | .capture, some f, some fSrc, some tSrc, some pBus =>
    some (syncRecord t tSrc pBus f fSrc (if s.par.station.role = .genset then s.par.diesel.breakerClose else 0))
  | _, _, _, _, _ => none

/-! ### The cycle result record (R5 to R15) -/

/-- The RMS value of a channel in V (R9). -/
def rmsVolts (sumSquares : Int) (n kv : Nat) : Nat :=
  min 65535 (roundSqrt (sumSquares.toNat * (kv * kv)) (n * 1000000))

/-- A power in kW (R11). -/
def powerKw (phases : Nat) (vi : Int) (n kv ki : Nat) : Int :=
  clamp (-65535) 65535 (roundDiv (phases * vi * kv * ki) (n * 1000000000))

/-- The available power in kW (R11). -/
def availableKw (a : Int) (n scale : Nat) : Nat := clamp16 (roundDiv (a * scale) (n * 1000))

/-- The period of a closing cycle: from the capture reference to a capture (R5, R7). -/
def closingPeriod (kind : BoundaryKind) (reference : Option Tick) (t : Tick) : Option Nat :=
  match kind with
  | .capture => reference.map (elapsed t)
  | .synthetic => none

/-- The frequency window after a cycle is closed (R10). -/
def windowAfter (window : List Nat) (period : Option Nat) : List Nat :=
  match period with
  | some p => if periodInBand p then pushPeriod window p else []
  | none => []

/-- A cycle of fewer than 32 scans is short and forms no results (R8). -/
def Cycle.short (c : Cycle) : Bool := c.n < 32

/-- A result that a short cycle does not form. -/
def unlessShort {α : Type} (c : Cycle) (x : α) : Option α := if c.short then none else some x

/-- The record of the cycle closed at `t` (R15). -/
def cycleRecord (s : State) (t : Tick) (kind : BoundaryKind) : CycleRecord :=
  let p := s.par
  let c := s.mu.cycle
  let st := p.station
  let period := closingPeriod kind s.mu.capRef t
  let window := windowAfter s.mu.window period
  let valid := (period.map periodInBand).getD false
  let busRms := unlessShort c (rmsVolts c.vBus2 c.n st.kv)
  let srcRms := unlessShort c (rmsVolts c.vSrc2 c.n st.kv)
  let condition (before : Condition) (rms : Option Nat) : Condition :=
    match rms with
    | some v => nextCondition before v st.nominalV p.black.deadLevel p.black.liveLevel
    | none => before
  { endTime := t
    kind
    period
    periodValid := valid
    n := c.n
    busRms
    srcRms
    busCondition := condition s.mu.busCondition busRms
    srcCondition := condition s.mu.srcCondition srcRms
    srcPower := unlessShort c (powerKw st.phases c.srcVI c.n st.kv st.kiSrc)
    feederPower := .of fun q =>
      if s.configured q then unlessShort c (powerKw st.phases (c.feederVI.get q) c.n st.kv st.kiFdr) else none
    available := unlessShort c (availableKw c.avail c.n st.aScale)
    fCycle := if valid then period.map cycleFrequency else none
    f := windowFrequency window
    fSrc := s.mu.fSrc
    sync := cycleSync s t kind window }

/-- The period sums with a record's powers added; a short cycle adds nothing (R16). -/
def PeriodSums.add (x : PeriodSums) (r : CycleRecord) : PeriodSums :=
  match r.srcPower, r.available with
  | some src, some avail =>
    { count := x.count + 1, src := x.src + src, feeder := .of fun p => x.feeder.get p + (r.feederPower.get p).getD 0,
      avail := x.avail + avail }
  | _, _ => x

/-- The open cycle closed at `t` by a boundary of a kind, and a new one opened (R5, R7). The record becomes the latest. -/
def muCloseCycle (t : Tick) (kind : BoundaryKind) (s : State) : State :=
  let r := cycleRecord s t kind
  { s with
    tb := t
    mu := { s.mu with
      cycle := .empty
      capRef := (match kind with | .capture => some t | .synthetic => none)
      synthetic := .running t (syntheticTicks s.par.station.nominalHz)
      window := windowAfter s.mu.window r.period
      busCondition := r.busCondition
      srcCondition := r.srcCondition
      latest := some r
      sums := s.mu.sums.add r } }

/-! ### Source frequency (R14) -/

/-- A C1 capture at `t`. -/
def muSourceCapture (t : Tick) (s : State) : State :=
  { s with
    tb := t
    mu := { s.mu with
      srcWindow :=
        match s.mu.srcRef with
        | some r => if periodInBand (elapsed t r) then pushPeriod s.mu.srcWindow (elapsed t r) else []
        | none => s.mu.srcWindow
      srcRef := some t
      lastSrc := some t
      srcTimeout := .running t (syntheticTicks s.par.station.nominalHz) } }

/-- The source timeout's expiry: the window is emptied and the reference absent. -/
def muSourceTimeout (s : State) : State := { s with mu := { s.mu with srcWindow := [], srcRef := none } }

/-! ### Period means (R16) and the start of the unit (R1, R19) -/

/-- The period mean record that the end of a balance period hands over, and the sums emptied; with no cycle the means are held. -/
def muHandOver (s : State) : State :=
  let f := s.mu.latest.bind (·.f)
  let x := s.mu.sums
  if x.count = 0 then { s with mu := { s.mu with mean := { s.mu.mean with f := f } } }
  else
    { s with mu := { s.mu with
        mean := ⟨roundDiv x.src x.count, .of fun p => roundDiv (x.feeder.get p) x.count, roundDiv x.avail x.count, f⟩
        sums := .empty } }

/-- The unit starts at the instant the parameter set is taken: the first scan instant and both timeouts count from it. -/
def muStart (cal : CalibrationSet) (s : State) : State :=
  let d := syntheticTicks s.par.station.nominalHz
  { s with mu := { s.mu with
      started := true, cal, nextScan := s.tb, scanPhase := 0, synthetic := .running s.tb d, srcTimeout := .running s.tb d } }

end Sys2Proof.Machine
end

