-- ==== Sys2Proof/Machine/Permit.lean ====
section
/-! DEFINITION. The arbitration session of the black start coordinator as the diesel sequencer meets it: its request, its
withdrawal, its end and the reports of a dead-bus close (chapter 09). -/

namespace Sys2Proof.Machine

/-- A session with every timer of it STOPPED, its flag clear and its phase IDLE. -/
def Session.ended (x : Session) : Session :=
  { x with
    phase := .idle, stuckFlag := false, slot := .stopped, guard := .stopped, stuck := .stopped, hold := .stopped,
    liveWait := .stopped }

/-- The session ends (R166): PERMIT is released, every session timer cancelled, edge reports are turned off, the permit-stuck
cause and flag go, and the phase is IDLE. -/
def sessionEnd (s : State) : State :=
  (((s.drivePermit false).setPermitEdges false).setAlarm .permitStuck false).putSession s.bsc.session.ended

/-- The phase of the session. -/
def State.permitPhase (s : State) : PermitPhase := s.bsc.session.phase

/-- The session stands before a win: WAITING, START or BITS (R172). -/
def State.contending (s : State) : Bool :=
  s.permitPhase == .waiting || s.permitPhase == .start || s.permitPhase == .bits

/-- A withdrawal by the diesel sequencer ends the session in any phase before CLOSE (R172). -/
def bscWithdraw (s : State) : State := if s.contending then sessionEnd s else s

/-- The wait for a quiet line: the guard timer with an origin. -/
def startGuard (origin : GuardOrigin) (s : State) : State :=
  (s.putSession { s.bsc.session with guardOrigin := origin }).start .guard (ms s.par.black.guardTime)

/-- A request for arbitration, taken in IDLE (R167). True when LOST is reported at once. -/
def bscRequest (s : State) : Bool × State :=
  if s.permitPhase ≠ .idle then (false, s)
  else if s.ilc.conflict then (true, s)
  else
    let s := (s.putSession { s.bsc.session with phase := .waiting }).setPermitEdges true
    if s.permitLow then (false, s.start .stuck (sec s.par.black.permitTimeout)) else (false, startGuard .request s)

/-- The hold timer of HOLD (R171). -/
def startHold (s : State) : State := s.start .hold (ms s.par.black.permitHold)

/-- The dead-bus close is reported CONFIRMED (R171). -/
def bscConfirmed (s : State) : State :=
  if s.permitPhase = .close then
    let s := s.putSession { s.bsc.session with phase := .hold }
    if s.islandUp then startHold s else s.start .liveWait (sec s.par.black.permitTimeout)
  else s

/-- The dead-bus close is reported failed or NOT-CONFIRMED (R171). -/
def bscCloseFailed (s : State) : State := if s.permitPhase = .close then sessionEnd s else s

/-- In HOLD the island state has become RECOVER or LIVE while the live-wait timer runs (R171). -/
def bscHoldLive (s : State) : State :=
  if s.permitPhase = .hold && s.bsc.session.liveWait.isRunning && s.islandUp then startHold (s.cancel .liveWait) else s

end Sys2Proof.Machine
end

