-- ==== Sys2Proof/Machine/DieselOps.lean ====
section
/-! DEFINITION. The states of the diesel sequencer and how each is entered (chapter 06). -/

namespace Sys2Proof.Machine

/-- The diesel state is `st`. -/
def State.dieselIs (s : State) (st : DieselState) : Bool := s.ds.state == some st

/-- The bias, written to the PWM channel at once (R98, R112). -/
def setBias (v : Int) (s : State) : State := { s with ds := { s.ds with bias := v } }.writePwm v

/-- The diesel state of the record changes. Need-since is absent, and what a rule notes of CLOSING or of ONLINE lasts no longer
than those states do. -/
def Ds.enter (d : Ds) (st : DieselState) : Ds :=
  { d with
    state := some st
    needSince := none
    deadBusClose := d.deadBusClose && st == .closing
    closingInhibit := d.closingInhibit && st == .closing
    deadBusOnline := d.deadBusOnline && (st == .online || st == .stopIntent || st == .unload) }

/-- A change of diesel state. A session in HOLD ends when the state leaves ONLINE (R171). -/
def dsEnter (st : DieselState) (s : State) : State :=
  let s := if s.dieselIs .online && st != .online && s.permitPhase == .hold then sessionEnd s else s
  { s with ds := s.ds.enter st }

/-- The own intent made none. -/
def dropIntent (s : State) : State := { s with ds := { s.ds with intent := none } }

/-- The own intent opened now, and its INTENT notice requested (R102, R114). -/
def openIntent (k : IntentKind) (s : State) : State :=
  let p := s.par
  ({ s with ds := { s.ds with intent := some (k, s.tb) } }.placeFrame .intent
    (intentPayload k p.diesel.startRank p.station.rating)).start .window (ms p.diesel.intentWindow)

/-- A withdrawal reported to the BSC where the state is ARBITRATE. -/
def dsWithdraw (s : State) : State := if s.dieselIs .arbitrate then bscWithdraw s else s

/-- A trip of the source breaker with the close/trip pulse. -/
def dsTrip (confirm : Bool) (s : State) : PulseReply × State := s.requestTrip .source .ds s.par.diesel.pulse confirm

/-- FAILED (R119). -/
def dsEnterFailed (s : State) : State :=
  let s := ((dsEnter .failed s).cut .crank).writeRun false
  let s := { s with ds := { s.ds with
    timers := { DieselTimers.stopped with loss := s.ds.timers.loss }
    intent := none
    forcedStop := false
    inhibitSeen := s.asserted .inhibit } }
  (setBias 0 s |>.setAlarm .dieselFailed true).writeLockout true

/-- OFF; the bias is 0 (R112). -/
def dsEnterOff (s : State) : State := setBias 0 (dsEnter .off s)

/-- SPOOL (R107). -/
def dsEnterSpool (s : State) : State :=
  (setBias 0 (dsEnter .spool s)).start .spool (sec s.par.diesel.spoolTime)

/-- CRANK (R105): RUN is SET; with RUN_FB asserted the engine already runs, otherwise a crank pulse is counted and requested. -/
def dsEnterCrank (s : State) : State :=
  let s := (setBias 0 (dsEnter .crank s)).writeRun true
  if s.asserted .runFb then dsEnterSpool s
  else ({ s with ds := { s.ds with crankCount := s.ds.crankCount + 1 } }).requestCrank (s.par.diesel.crankTime * 1000)

/-- The start at DARK, with no notice and no deference (R120). -/
def dsStartAtDark (s : State) : State :=
  let s := s.cancel .holdoff
  dsEnterCrank { s with ds := { s.ds with crankCount := 0 } }

/-- STANDBY; while the island is DARK and the mode allows it, the set starts at once (R120). -/
def dsEnterStandby (s : State) : State :=
  let s := setBias 0 (dsEnter .standby s)
  if s.bsc.island = some .dark && s.operating then dsStartAtDark s else s

/-- INTENT (R102). -/
def dsEnterIntent (s : State) : State :=
  let s := dsEnter .intent s
  openIntent .start { s with ds := { s.ds with crankCount := 0 } }

/-- The start intent withdrawn (R103). -/
def dsWithdrawStart (s : State) : State :=
  (dsEnterStandby ((dropIntent s).cancel .window)).start .holdoff (sec s.par.diesel.holdoff)

/-- SYNC (R108). -/
def dsEnterSync (s : State) : State :=
  let s := dsEnter .sync s
  ({ s with ds := { s.ds with good := 0 } }).start .sync (sec s.par.diesel.syncTimeout)

/-- ARBITRATE (R110, R167): where the BSC reports LOST at once the set goes on to SYNC. -/
def dsEnterArbitrate (s : State) : State :=
  match bscRequest (setBias 0 (dsEnter .arbitrate s)) with
  | (true, s) => dsEnterSync s
  | (false, s) => s

/-- STOP-INTENT (R114). -/
def dsEnterStopIntent (s : State) : State := openIntent .stop ((dsEnter .stopIntent s).cancel .stop)

/-- The forced stop begins (R100). -/
def dsForcedStop (s : State) : State := dsEnterStopIntent { s with ds := { s.ds with forcedStop := true } }

/-- The return to ONLINE from STOP-INTENT (R99, R114, R121). -/
def dsBackOnline (s : State) : State := dropIntent ((dsEnter .online s).cancel .window)

/-- The return to ONLINE from UNLOAD, keeping the bias reached (R99, R115, R121). -/
def dsAbandonUnload (s : State) : State := (dsEnter .online s).cancel .unload

/-- The source window reports CONFIRMED (R111, R116). The forced stop begins where INHIBIT was asserted during CLOSING and the mode
allows it (R100, log 19), after the report of a dead-bus close to the BSC, whose HOLD it then ends (R171, log 47). -/
def dsConfirmed (s : State) : State :=
  match s.ds.state with
  | some .closing =>
    let forced := (s.ds.closingInhibit || s.asserted .inhibit) && s.operating
    let deadBus := s.ds.deadBusClose
    let s := dsEnter .online s
    let s := if deadBus then bscConfirmed { s with ds := { s.ds with deadBusOnline := true } } else s
    if forced then dsForcedStop s else s
  | some .opening => (dsEnter .cooldown s).start .cooldown (sec s.par.diesel.cooldown)
  | _ => s

/-- The close in CLOSING has failed (R111): the trip without confirmation, the report to the BSC, FAILED. -/
def dsClosingFailed (s : State) : State :=
  let deadBus := s.ds.deadBusClose
  let s := dsEnterFailed (dsTrip false s).2
  if deadBus then bscCloseFailed s else s

/-- The source window reports NOT-CONFIRMED (R111, R116). -/
def dsNotConfirmed (s : State) : State :=
  match s.ds.state with
  | some .closing => dsClosingFailed s
  | some .opening => dsEnterFailed s
  | _ => s

/-- CLOSING, entered when a close request is STARTED (R108, R110). -/
def dsEnterClosing (deadBus confirmed : Bool) (s : State) : State :=
  let s := dsEnter .closing (s.cancel .sync)
  let s := { s with ds := { s.ds with deadBusClose := deadBus, closingInhibit := false } }
  if confirmed then dsConfirmed s else s

/-- The close requested at the sync count (R108). -/
def dsCloseFromSync (s : State) : State :=
  match s.requestClose .source .ds s.par.diesel.pulse true with
  | (⟨.started, _, confirmed⟩, s) => dsEnterClosing false confirmed s
  | (_, s) => { s with ds := { s.ds with good := 0 } }

/-- WON is reported: the dead-bus close (R110). -/
def dsWon (s : State) : State :=
  if s.dieselIs .arbitrate then
    match s.requestClose .source .ds s.par.diesel.pulse true with
    | (⟨.started, _, confirmed⟩, s) => dsEnterClosing true confirmed s
    | (_, s) => dsEnterFailed (bscCloseFailed s)
  else s

/-- LOST or BUS-LIVE is reported (R110). -/
def dsLostOrLive (s : State) : State := if s.dieselIs .arbitrate then dsEnterSync s else s

/-- The trip into OPENING (R115). -/
def dsEnterOpening (s : State) : State :=
  let (r, s) := dsTrip true (s.cancel .unload)
  let s := dsEnter .opening s
  if r.confirmed then dsConfirmed s else s

/-- The latest cycle result record finds the source LIVE with f_src valid (R107). -/
def State.sourceReady (s : State) : Bool :=
  match s.mu.latest with
  | some r => r.srcCondition == .live && r.fSrc.isSome
  | none => false

/-- The judgement at the end of SPOOL (R107); in DEAD-WAIT the set stays in SPOOL without its timer. -/
def dsJudgeSpool (s : State) : State :=
  if s.sourceReady then
    match s.bsc.island with
    | some .live => dsEnterSync s
    | some .recover => dsEnterSync s
    | some .dark => dsEnterArbitrate s
    | _ => s
  else dsEnterFailed s

/-- The set taken off a dark bus (R120): the trip without confirmation, and FAILED. -/
def dsTripOffDark (s : State) : State := dsEnterFailed (dsTrip false s).2

/-- The DS acts on a change to DARK (R107, R109, R120). -/
def dsDark (s : State) : State :=
  let s := { s with ds := { s.ds with deadBusOnline := false } }
  match s.ds.state with
  | some .standby => if s.operating then dsStartAtDark s else s
  | some .intent => if s.operating then dsEnterCrank (dropIntent (s.cancel .window)) else s
  | some .online => if s.operating then dsTripOffDark s else s
  | some .stopIntent => if s.operating then dsTripOffDark s else s
  | some .unload => if s.operating then dsTripOffDark s else s
  | some .sync => dsEnterArbitrate (s.cancel .sync)
  | _ => s

/-- The DS acts on a change of island state (R101, R107, R109, R120), which the BSC has already made. -/
def dsIslandChange (s : State) : State :=
  let s := if s.islandUp then s else { s with ds := { s.ds with needSince := none } }
  let s := if s.bsc.island = some .dark then dsDark s else s
  if s.dieselIs .spool && !s.ds.timers.spool.isRunning then dsJudgeSpool s else s

/-- The lockout cleared (R119), where SRC_CB is qualified as released. -/
def dsClearLockout (s : State) : State :=
  let s := (s.setAlarm .dieselFailed false).writeLockout false
  let s := { s with ds := { s.ds with inhibitSeen := false } }
  if s.asserted .inhibit then dsEnterOff s else dsEnterStandby s

/-- INHIBIT qualified as asserted (R100). -/
def dsInhibitAsserted (s : State) : State :=
  match s.ds.state with
  | some .standby => if s.operating then dsEnterOff (s.cancel .holdoff) else s
  | some .intent => if s.operating then dsEnterOff (dropIntent (s.cancel .window)) else s
  | some .crank => if s.operating then dsEnterOff ((s.cut .crank).writeRun false) else s
  | some .rest => if s.operating then dsEnterOff ((s.cancel .rest).writeRun false) else s
  | some .spool => if s.operating then dsEnterOff ((s.cancel .spool).writeRun false) else s
  | some .sync => if s.operating then dsEnterOff ((s.cancel .sync).writeRun false) else s
  | some .arbitrate => if s.operating then dsEnterOff ((dsWithdraw s).writeRun false) else s
  | some .closing => { s with ds := { s.ds with closingInhibit := true } }
  | some .online => if s.operating then dsForcedStop s else s
  | some .stopIntent => if s.operating then { s with ds := { s.ds with forcedStop := true } } else s
  | some .unload => if s.operating then { s with ds := { s.ds with forcedStop := true } } else s
  | some .failed => { s with ds := { s.ds with inhibitSeen := true } }
  | _ => s

/-- INHIBIT qualified as released (R100, R119). -/
def dsInhibitReleased (s : State) : State :=
  match s.ds.state with
  | some .off => dsEnterStandby s
  | some .failed => if s.ds.inhibitSeen && s.released .srcCb then dsClearLockout s else s
  | _ => s

/-- A better (rank, address): a lower rank, or an equal rank and a lower address (R103). -/
def ranksBefore (rank address rank' address' : Nat) : Bool := rank < rank' || (rank == rank' && address < address')

/-- An INTENT notice delivered from a sender (R103, R114). -/
def dsIntentNotice (sender : Nat) (kind : IntentKind) (rank : Nat) (s : State) : State :=
  let own := s.par.diesel.startRank
  match s.ds.state, kind with
  | some .intent, .start => if ranksBefore rank sender own s.address then dsWithdrawStart s else s
  | some .stopIntent, .stop =>
    if !s.ds.forcedStop && ranksBefore own s.address rank sender then dsBackOnline s else s
  | _, _ => s

/-- A LOSS notice delivered to the DS restarts the loss timer (R101). -/
def dsLossNotice (s : State) : State := if s.ds.state.isSome then s.start .loss (sec 10) else s

/-! ### Mode changes (R99, R100, R120, R121) -/

/-- The entry to SERVICE or FAULT from COORDINATED or AUTONOMOUS (R121). -/
def dsHold (s : State) : State :=
  let s := { s with ds := { s.ds with needSince := none, forcedStop := false } }
  match s.ds.state with
  | some .intent => (dsEnterStandby (dropIntent (s.cancel .window))).writeRun false
  | some .crank => dsEnterStandby ((s.cut .crank).writeRun false)
  | some .rest => dsEnterStandby ((s.cancel .rest).writeRun false)
  | some .spool => dsEnterStandby ((s.cancel .spool).writeRun false)
  | some .sync => dsEnterStandby ((s.cancel .sync).writeRun false)
  | some .arbitrate => dsEnterStandby ((dsWithdraw s).writeRun false)
  | some .online => s.cancel .stop
  | some .stopIntent => dsBackOnline s
  | some .unload => dsAbandonUnload s
  | _ => s

/-- The passage from COORDINATED to AUTONOMOUS (R99). -/
def dsAlone (s : State) : State :=
  let s := s.cancel .stop
  match s.ds.state with
  | some .stopIntent => if s.ds.forcedStop then s else dsBackOnline s
  | some .unload => if s.ds.forcedStop then s else dsAbandonUnload s
  | _ => s

/-- The return to COORDINATED or AUTONOMOUS (R100, R120, R121). On a DARK island a set ONLINE is tripped before an INHIBIT
asserted is looked at, and a set in STANDBY with INHIBIT asserted is OFF and does not start (log 35). -/
def dsResume (s : State) : State :=
  let s := { s with ds := { s.ds with needSince := none } }.cancel .stop
  match s.ds.state with
  | some .standby =>
    if s.asserted .inhibit then dsEnterOff (s.cancel .holdoff)
    else if s.bsc.island = some .dark then dsStartAtDark s else s
  | some .online =>
    if s.bsc.island = some .dark && !s.ds.deadBusOnline then dsTripOffDark s
    else if s.asserted .inhibit then dsForcedStop s else s
  | _ => s

end Sys2Proof.Machine
end

