-- ==== Sys2Proof/Machine/IslandOps.lean ====
section
/-! DEFINITION. The entry to LIVE and the look at the own ports in RECOVER, on which every change of a port's state depends
(chapter 09). -/

namespace Sys2Proof.Machine

/-- The island state set to a value. -/
def State.setIsland (s : State) (i : Island) : State := { s with bsc := { s.bsc with island := some i } }

/-- The pre-dark record cleared (R161). -/
def clearPreDark (s : State) : State := { s with ret := { s.ret with darkTaken := false, wasClosed := .all false } }

/-- The entry to LIVE (R163). Of the readers only the DS and a session in HOLD act on it: no rule of the FL or of the SC acts on a
change to LIVE (R146, R147, R153, R132). -/
def bscEnterLive (s : State) : State :=
  bscHoldLive (dsIslandChange ((clearPreDark (s.cancel .recover)).setIsland .live))

/-- No own port is BLACK-OPEN (R162). -/
def State.noBlackOpen (s : State) : Bool := Port.all.all fun p => s.portState p != some .blackOpen

/-- The look at the own ports at a change of a port's state: in RECOVER with no port BLACK-OPEN the station enters LIVE (R162). -/
def bscLook (s : State) : State := if s.bsc.island = some .recover && s.noBlackOpen then bscEnterLive s else s

end Sys2Proof.Machine
end

