-- ==== Sys2Proof/Machine/Feeder.lean ====
section
/-! DEFINITION. The feeder ladder: port records and their changes, requests to the breakers, the stages, shedding, restoration and
rotation (chapter 08). -/

namespace Sys2Proof.Machine

/-- The feeder ladder operates: it has taken its parameter set at a station of at least one port (R136). -/
def State.feeders (s : State) : Bool := s.started && 1 ≤ s.par.station.feederCount

/-- A port is configured as rotating. -/
def State.rotating (s : State) (p : Port) : Bool := s.configured p && (s.par.port.get p).rotating

/-! ### Changes of a port's state (R137, R150, R151, R153) -/

/-- How long a rotating port waits to be ripe in a state (R151): none where its timer does not run. -/
def ripenessTicks (r : RestoreParams) (st : PortState) (cause : Option ShedCause) : Option Nat :=
  match st, cause with
  | .closed, _ => some (minutes r.minimumOn)
  | .shed, some .frequency => none
  | .shed, some _ => some (minutes r.rotationSlot)
  | _, _ => none

/-- The ripeness timer of a port that enters a state now. -/
def State.ripenessOf (s : State) (p : Port) (st : PortState) (cause : Option ShedCause) : Timer :=
  if s.rotating p then
    match ripenessTicks s.par.restore st cause with
    | some d => .running s.tb d
    | none => .stopped
  else .stopped

/-- A rotating port moved to the tail of the rotation queue (R150). Ports changed in one act come in the order in which the act takes
them (log 37). -/
def requeue (q : List Port) (p : Port) : List Port := q.filter (· != p) ++ [p]

/-- What a change of one port's state makes of a swap in flight (R152, R153): it is completed or abandoned where the change says so. -/
def Swap.onChange (w : Swap) (p : Port) (st : PortState) : Option Swap :=
  if st = .held && (p = w.openPort || p = w.closePort) then none
  else if p = w.closePort then
    match w.step with
    | .opening => if st = .shed then some w else none
    | .closing => if st = .closing then some w else none
  else if p = w.openPort && w.step = .opening && st = .faulted then none
  else some w

/-- A port enters a state: the record, the retention record, the rotation queue, the ALARM cause, the swap in flight, and the look
of the BSC (R137, R139, R150, R151, R153, R162). -/
def flEnter (p : Port) (st : PortState) (dest : Option Destination) (cause : Option ShedCause) (s : State) : State :=
  let ripeness := s.ripenessOf p st cause
  let s := s.modifyPort p fun r =>
    { r with state := st, destination := dest, shedCause := cause, lastChange := s.tb, ripe := false, ripeness := ripeness }
  let s := (s.retainPort p st cause).setAlarm (.portFaulted p) (st == .faulted)
  let s := { s with fl := { s.fl with
    queue := if s.rotating p then requeue s.fl.queue p else s.fl.queue
    swap := s.fl.swap.bind fun w => w.onChange p st } }
  bscLook s

/-- A swap in flight abandoned (R153). -/
def flAbandonSwap (s : State) : State := { s with fl := { s.fl with swap := none } }

/-! ### Closing a port (R138, R148, R149) -/

/-- An own port is CLOSING or has close active set (R149, condition 6). -/
def State.closeInFlight (s : State) : Bool :=
  Port.all.any fun p => ((s.port p).map fun r => r.state == .closing || r.closeActive).getD false

/-- A close may be requested for a port (R138, R149): it is SHED or BLACK-OPEN and not LOCAL-held, the mode and the island state
allow a close, and no other close is in flight. -/
def State.mayClose (s : State) (p : Port) : Bool :=
  s.operating && s.islandUp && !s.closeInFlight &&
    ((s.port p).map fun r => (r.state == .shed || r.state == .blackOpen) && !r.localHeld).getD false

/-- A closing is CONFIRMED (R139). -/
def flCloseConfirmed (p : Port) (s : State) : State := flEnter p .closed none none s

/-- A close requested for a port; true when it is STARTED (R138). -/
def flClose (p : Port) (s : State) : Bool × State :=
  if s.mayClose p then
    match s.requestClose (.feeder p) .fl (s.par.port.get p).pulseWidth true with
    | (⟨.started, _, confirmed⟩, s) =>
      let s := flEnter p .closing none none (s.modifyPort p fun r => { r with closeActive := true })
      (true, if confirmed then flCloseConfirmed p s else s)
    | (_, s) => (false, s)
  else (false, s)

/-- The cold-load figure of an own port (R149). -/
def State.coldLoadKw (s : State) (p : Port) : Nat :=
  (s.par.port.get p).coldLoad * ((s.port p).map (·.load)).getD 0 / 100

/-- The step spacing timer started or restarted with the dwell for the island state (R148). -/
def flRestartSpacing (s : State) : State :=
  s.start .stepSpacing
    (sec (if s.bsc.island = some .recover then s.par.restore.blackStepDwell else s.par.restore.stepDwell))

/-- The STEP notice of a close that has STARTED, and the step spacing timer, with the dwell of the island state that the change of the
port has left (R149, R152, log 42). -/
def flAnnounceStep (p : Port) (s : State) : State :=
  flRestartSpacing (s.placeFrame .step (stepPayload p.num (s.par.port.get p).shedRank (s.coldLoadKw p)))

/-- The close of a swap (R152): where it is not STARTED the swap is abandoned. -/
def flSwapClose (w : Swap) (s : State) : State :=
  let s := { s with fl := { s.fl with swap := some { w with step := .closing } } }
  match flClose w.closePort s with
  | (true, s) => flAnnounceStep w.closePort s
  | (false, s) => flAbandonSwap s

/-! ### Opening a port (R138, R139) -/

/-- An opening is CONFIRMED: the port becomes its destination, and a swap goes on to its close (R139, R152). -/
def flOpenConfirmed (p : Port) (s : State) : State :=
  match (s.port p).bind (·.destination) with
  | some (.shed cause) =>
    let s := flEnter p .shed none (some cause) s
    match s.fl.swap with
    | some w => if w.openPort = p && w.step = .opening && cause = .rotation then flSwapClose w s else s
    | none => s
  | some .blackOpen => flEnter p .blackOpen none none s
  | none => s

/-- A port's state is CLOSED or CLOSING. -/
def State.isClosedOrClosing (s : State) (p : Port) : Bool :=
  s.portState p == some .closed || s.portState p == some .closing

/-- A trip requested for a port with a destination; true when it is STARTED (R138). -/
def flTrip (p : Port) (dest : Destination) (s : State) : Bool × State :=
  if s.isClosedOrClosing p && !((s.port p).map (·.localHeld)).getD true then
    match s.requestTrip (.feeder p) .fl (s.par.port.get p).pulseWidth true with
    | (⟨.started, cut, confirmed⟩, s) =>
      let s := flEnter p .opening (some dest) none
        (s.modifyPort p fun r => { r with closeActive := r.closeActive && !cut })
      (true, if confirmed then flOpenConfirmed p s else s)
    | (⟨.ignored, _, _⟩, s) => (false, s.modifyPort p fun r => { r with tripOwed := some dest })
    | (⟨.refused, _, _⟩, s) => (false, s)
  else (false, s)

/-- Trips requested for ports in turn; their order is the model's choice (log 37). -/
def flTripAll (dest : Destination) (ports : List Port) (s : State) : State :=
  ports.foldl (fun s p => (flTrip p dest s).2) s

/-! ### Outcomes of pulses and windows (R138, R139) -/

/-- A port's window reports CONFIRMED. -/
def flConfirmed (p : Port) (s : State) : State :=
  match s.portState p with
  | some .closing => flCloseConfirmed p s
  | some .opening => flOpenConfirmed p s
  | _ => s

/-- A port's window reports NOT-CONFIRMED. -/
def flNotConfirmed (p : Port) (s : State) : State :=
  match s.portState p with
  | some .closing => flEnter p .faulted none none s
  | some .opening => flEnter p .faulted none none s
  | _ => s

/-- A port's close pulse reports ENDED. -/
def flCloseEnded (p : Port) (s : State) : State := s.modifyPort p fun r => { r with closeActive := false }

/-- A port's trip pulse reports ENDED: an owed trip is requested again, and then no longer owed. -/
def flTripEnded (p : Port) (s : State) : State :=
  match (s.port p).bind (·.tripOwed) with
  | some dest => ((flTrip p dest s).2).modifyPort p fun r => { r with tripOwed := none }
  | none => s

/-! ### Breakers and LOCAL (R140, R141) -/

/-- A qualified change of a port's breaker that confirms no window (R140). -/
def flBreakerChange (p : Port) (assertedNow : Bool) (s : State) : State :=
  match s.portState p, assertedNow with
  | some .closed, false => flEnter p .faulted none none s
  | some .shed, true => flEnter p .closed none none s
  | some .blackOpen, true => flEnter p .closed none none s
  | _, _ => s

/-- LOCAL qualified as asserted at a port: HELD (R141). -/
def flLocalAsserted (p : Port) (s : State) : State :=
  if (s.port p).isSome then
    flEnter p .held none none
      (s.modifyPort p fun r => { r with localHeld := true, closeActive := false, tripOwed := none })
  else s

/-- LOCAL qualified as released at a port: out of HELD by the breaker's position (R141). -/
def flLocalReleased (p : Port) (s : State) : State :=
  let s := s.modifyPort p fun r => { r with localHeld := false }
  if s.portState p = some .held then
    if s.asserted (.feederCb p) then flEnter p .closed none none s else flEnter p .shed none (some .deficit) s
  else s

/-! ### Under-frequency stages (R142, R143) -/

/-- A stage's record after a cycle result record, and whether the stage trips (R142). -/
def Stage.eval (x : Stage) (f : Option Nat) (pickup release : Int) (count : Nat) : Stage × Bool :=
  match f with
  | none => (x, false)
  | some f =>
    if x.latch then (if release ≤ f then (⟨0, false⟩, false) else (x, false))
    else if (f : Int) < pickup then
      (if count ≤ x.count + 1 then (⟨0, true⟩, true) else (⟨x.count + 1, false⟩, false))
    else (⟨0, false⟩, false)

/-- The pickup of a stage in mHz. -/
def State.stagePickup (s : State) (k : Port) : Int := (s.fNom : Int) - (s.par.stage.get k).threshold

/-- The ports assigned to a stage that are CLOSED or CLOSING, in ascending order. -/
def State.stagePorts (s : State) (k : Port) : List Port :=
  Port.all.filter fun p => (s.par.port.get p).ufStage == k.num && s.isClosedOrClosing p

/-- One stage on a cycle result record's f; stages are named by the port of the same number. -/
def flStage (f : Option Nat) (s : State) (k : Port) : State :=
  let pickup := s.stagePickup k
  let (x, trips) := (s.fl.stages.get k).eval f pickup (pickup + (s.par.stage.get k).hysteresis) (s.par.stage.get k).count
  let s := { s with fl := { s.fl with stages := s.fl.stages.set k x } }
  if trips then flTripAll (.shed .frequency) (s.stagePorts k) (flAbandonSwap s) else s

/-- A stage latch is set. -/
def State.latched (s : State) : Bool := s.fl.stages.toList.any (·.latch)

/-- The restore qualification on a record's f (R147). -/
def flQualify (f : Option Nat) (s : State) : State :=
  if s.operating && s.islandUp then
    let healthy := match f with
      | some f => decide ((s.fNom : Int) - s.par.restore.band ≤ f)
      | none => false
    if healthy then
      if !s.fl.qualTimer.isRunning && !s.fl.qualified then
        s.start .restoreQual (sec (s.par.restore.time * (if s.cr.mode = .autonomous then 3 else 1)))
      else s
    else { s with fl := { s.fl with qualTimer := .stopped, qualified := false } }
  else s

/-- The FL on a cycle result record (R142, R143, R147); stages that trip on one record are taken from 1 to 4 (log 37). -/
def flRecord (f : Option Nat) (s : State) : State :=
  if s.feeders then flQualify f (if s.operating then Port.all.foldl (flStage f) s else s) else s

/-! ### Deficit and overload shedding (R144 to R146) -/

/-- A record of the island ranking (R145); `own` names the own port it stands for. -/
structure RankRow where
  shedRank : Nat
  address : Nat
  port : Nat
  load : Nat
  own : Option Port
deriving DecidableEq, Repr

/-- The order of the island ranking: shed rank, address, port, each ascending. -/
def RankRow.before (a b : RankRow) : Bool :=
  a.shedRank < b.shedRank || (a.shedRank == b.shedRank &&
    (a.address < b.address || (a.address == b.address && a.port < b.port)))

/-- The own CLOSED and CLOSING ports as ranking records. -/
def State.ownRankRows (s : State) : List RankRow :=
  Port.all.filterMap fun p =>
    if s.isClosedOrClosing p then
      some ⟨(s.par.port.get p).shedRank, s.address, p.num, ((s.port p).map (·.load)).getD 0, some p⟩
    else none

/-- The CLOSED and CLOSING feeder records of the view as ranking records. -/
def State.peerRankRows (s : State) : List RankRow :=
  s.view.flatMap fun e =>
    (e.feeders.filter fun r => r.state == .closed || r.state == .closing).map fun r =>
      ⟨r.shedRank, e.address, r.port, r.load, none⟩

/-- The island ranking (R145). -/
def State.ranking (s : State) : List RankRow := sortBy RankRow.before (s.ownRankRows ++ s.peerRankRows)

/-- The shortest leading part of a ranking whose loads reach a demand; the whole of it where they do not (R145). -/
def rankPrefix (demand : Int) : List RankRow → List RankRow
  | [] => []
  | r :: l => if demand ≤ 0 then [] else r :: rankPrefix (demand - r.load) l

/-- The own ports in the prefix for a demand. -/
def State.ownPrefix (s : State) (demand : Int) : List Port := (rankPrefix demand s.ranking).filterMap (·.own)

/-- The own ports in the prefix for a demand tripped to SHED with a cause. -/
def flShed (demand : Int) (cause : ShedCause) (s : State) : State := flTripAll (.shed cause) (s.ownPrefix demand) s

/-- The reserve after a loss (R144). -/
def reserveAfterLoss (f : Figures) (role : Role) (lostOutput lostRating : Nat) : Int :=
  match role with
  | .genset => ((f.cOn : Int) - lostRating) - f.pGen
  | _ => f.reserve - lostOutput

/-- A LOSS notice delivered, or the loss of the own source reported (R144, R153). -/
def flLoss (role : Role) (lostOutput lostRating : Nat) (s : State) : State :=
  if s.feeders then
    let s := flAbandonSwap s
    if s.cr.mode = .coordinated && s.islandUp then
      let r := reserveAfterLoss s.be.figures role lostOutput lostRating
      if r < 0 then flShed (-r + s.par.balance.deficitMargin) .deficit s else s
    else s
  else s

/-- The overload judgement at a report of figures (R146). -/
def flJudgeOverload (s : State) : State :=
  if s.operating && s.islandUp then
    if s.be.figures.overload then
      if s.fl.overload.isRunning then s else s.start .overload (sec s.par.restore.overloadTime)
    else s.cancel .overload
  else s

/-- The overload timer's expiry: the prefix for D_ov is shed (R146). -/
def flOverloadExpired (s : State) : State := flShed s.be.figures.overloadDemand .overload s

/-! ### Restoration and rotation (R149, R152) -/

/-- The candidate of the figures is an own port: the port. -/
def State.ownCandidate (s : State) : Option Port :=
  s.be.figures.candidate.bind fun c => if c.address = s.address then Port.ofNum c.port else none

/-- The conditions of a restore step but those on the candidate (R149, conditions 1 to 6). -/
def State.restoreReady (s : State) : Bool :=
  s.islandUp && s.operating && !s.latched && s.fl.qualified && !s.fl.spacing.isRunning && !s.closeInFlight && s.fl.swap.isNone

/-- The restore step at a report of figures (R149). -/
def flRestore (s : State) : State :=
  match s.ownCandidate with
  | some p =>
    if s.restoreReady && (s.cr.mode != .coordinated || s.be.figures.candidateFits) then
      match flClose p s with
      | (true, s) => flAnnounceStep p s
      | (false, s) => s
    else s
  | none => s

/-- The oldest rotating port in a state (R150). -/
def State.oldestRotating (s : State) (st : PortState) : Option Port :=
  s.fl.queue.find? fun p => s.portState p == some st

/-- A port is ripe. -/
def State.isRipe (s : State) (p : Port) : Bool := ((s.port p).map (·.ripe)).getD false

/-- The start of a swap at a report of figures (R152). -/
def flStartSwap (s : State) : State :=
  match s.oldestRotating .shed, s.oldestRotating .closed with
  | some c, some o =>
    if s.fl.swap.isNone && s.cr.mode = .coordinated && s.bsc.island = some .live && !s.latched && s.fl.qualified &&
        !s.fl.spacing.isRunning && !s.closeInFlight && !s.be.figures.candidateFits && s.isRipe c &&
        !((s.port c).map (·.localHeld)).getD true && s.isRipe o then
      match flTrip o (.shed .rotation) { s with fl := { s.fl with swap := some ⟨o, c, .opening⟩ } } with
      | (true, s) => s
      | (false, s) => flAbandonSwap s
    else s
  | _, _ => s

/-- The recorded loads of the CLOSED ports set from the feeder means (R137). -/
def flRecordLoads (s : State) : State :=
  Port.all.foldl (fun s p => s.modifyPort p fun r =>
    if r.state = .closed then { r with load := clamp16 (s.mu.mean.feeder.get p) } else r) s

/-- The FL on a report of new figures (R137, R146, R149, R152). -/
def flFigures (s : State) : State :=
  if s.feeders then flStartSwap (flRestore (flJudgeOverload (flRecordLoads s))) else s

/-- A STEP notice delivered to the FL restarts the step spacing timer (R148). -/
def flStepNotice (s : State) : State := if s.feeders then flRestartSpacing s else s

/-! ### The dead island and the station modes (R146, R147, R153 to R155) -/

/-- One port at DARK: CLOSED and CLOSING ports are tripped to BLACK-OPEN, OPENING ports redirected there (R154). -/
def flDarkPort (s : State) (p : Port) : State :=
  match s.portState p with
  | some .closed => (flTrip p .blackOpen s).2
  | some .closing => (flTrip p .blackOpen s).2
  | some .opening => s.modifyPort p fun r => { r with destination := some .blackOpen }
  | _ => s

/-- The FL at a change to DARK, or at the mode's return while the island is DARK (R154). -/
def flDark (s : State) : State := Port.all.foldl flDarkPort s

/-- The restore qualification cancelled and its flag cleared (R147). -/
def flUnqualify (s : State) : State := { s with fl := { s.fl with qualTimer := .stopped, qualified := false } }

/-- The FL on a change of island state, which the BSC has already made. -/
def flIslandChange (s : State) : State :=
  let s := if s.bsc.island = some .live then s else flAbandonSwap s
  let s := if s.islandUp then s else (flUnqualify s).cancel .overload
  if s.bsc.island = some .dark && s.operating then flDark s else s

/-- Every owed trip dropped (R155). -/
def flDropOwed (s : State) : State :=
  Port.all.foldl (fun s p => s.modifyPort p fun r => { r with tripOwed := none }) s

/-- The FL on a change of station mode from `old`, which the CR has already made. -/
def flModeChange (old : Mode) (s : State) : State :=
  let s := if s.cr.mode = .coordinated then s else flAbandonSwap s
  let s := if s.cr.mode = .coordinated then s else flUnqualify s
  if s.operating then
    if (old = .service || old = .fault) && s.bsc.island = some .dark then flDark s else s
  else flDropOwed (s.cancel .overload)

/-- The recover timeout has expired: every BLACK-OPEN port becomes SHED with cause DEFICIT (R154). -/
def flRecoverExpired (s : State) : State :=
  Port.all.foldl (fun s p => if s.portState p = some .blackOpen then flEnter p .shed none (some .deficit) s else s) s

/-! ### Reconstruction (R156, R182) -/

/-- A port record before its first state. -/
def PortRecord.fresh (t : Tick) (localHeld : Bool) : PortRecord where
  state := .shed
  destination := none
  shedCause := none
  lastChange := t
  load := 0
  localHeld := localHeld
  closeActive := false
  tripOwed := none
  ripe := false
  ripeness := .stopped

/-- The first state of a port from its lines and the retention record (R182). -/
def State.reconstructedPort (s : State) (p : Port) : PortState × Option ShedCause :=
  if s.asserted (.feederLocal p) then (.held, none)
  else if (s.ret.ports.get p).map (·.1) = some .faulted then (.faulted, none)
  else if s.asserted (.feederCb p) then (.closed, none)
  else match s.ret.ports.get p with
    | some (.shed, some cause) => (.shed, some cause)
    | _ => (.shed, some .deficit)

/-- One configured port reconstructed, with the actions of its entry (R182). -/
def flReconstructPort (s : State) (p : Port) : State :=
  if s.configured p then
    let first := s.reconstructedPort p
    flEnter p first.1 none first.2
      { s with fl := { s.fl with ports := s.fl.ports.set p (some (.fresh s.tb (s.asserted (.feederLocal p)))) } }
  else s

/-- The ports reconstructed in ascending order, with the rotation queue formed first (R150, R156, R182). -/
def flReconstruct (s : State) : State :=
  Port.all.foldl flReconstructPort { s with fl := { s.fl with queue := Port.all.filter s.rotating } }

end Sys2Proof.Machine
end

