-- ==== Sys2Proof/Machine/Diesel.lean ====
section
/-! DEFINITION. What the diesel sequencer makes of its lines, of a cycle result record, of new figures, of its timers and of
start-up (chapter 06). -/

namespace Sys2Proof.Machine

/-! ### The lines (R105 to R111, R117, R118) -/

/-- The set is lost (R117); `engineStop` where the breaker is still closed. -/
def dsLost (engineStop : Bool) (s : State) : State :=
  let output := clamp16 s.mu.mean.src
  let rating := s.par.station.rating
  let s := flLoss .genset output rating (s.placeFrame .loss (lossPayload .genset output rating))
  dsEnterFailed (if engineStop then (dsTrip false s).2 else s)

/-- The breaker is found closed where no close was requested: the trip, the withdrawal, and FAILED (R118). -/
def dsUnexpectedClose (s : State) : State := dsEnterFailed (dsTrip true (dsWithdraw s)).2

/-- SRC_CB qualified as asserted (R111, R118). -/
def dsSrcAsserted (s : State) : State :=
  match s.ds.state with
  | some .closing => dsConfirmed s
  | some .sync => if s.asserted .runFb then dsEnter .online (s.cancel .sync) else dsUnexpectedClose s
  | some .standby => dsUnexpectedClose s
  | some .intent => dsUnexpectedClose s
  | some .crank => dsUnexpectedClose s
  | some .rest => dsUnexpectedClose s
  | some .spool => dsUnexpectedClose s
  | some .arbitrate => dsUnexpectedClose s
  | some .cooldown => dsUnexpectedClose s
  | _ => s

/-- SRC_CB qualified as released (R116, R117). -/
def dsSrcReleased (s : State) : State :=
  match s.ds.state with
  | some .opening => dsConfirmed s
  | some .online => dsLost false s
  | some .stopIntent => dsLost false s
  | some .unload => dsLost false s
  | _ => s

/-- RUN_FB qualified as asserted (R105, R106). -/
def dsRunAsserted (s : State) : State :=
  match s.ds.state with
  | some .crank => dsEnterSpool (s.cut .crank)
  | some .rest => dsEnterSpool (s.cancel .rest)
  | _ => s

/-- RUN_FB qualified as released (R107, R109, R110, R111, R117). -/
def dsRunReleased (s : State) : State :=
  match s.ds.state with
  | some .spool => dsEnterFailed s
  | some .sync => dsEnterFailed s
  | some .arbitrate => dsEnterFailed (dsWithdraw s)
  | some .closing => dsClosingFailed s
  | some .online => if s.asserted .srcCb then dsLost true s else s
  | some .stopIntent => if s.asserted .srcCb then dsLost true s else s
  | some .unload => if s.asserted .srcCb then dsLost true s else s
  | _ => s

/-- The crank pulse reports ENDED (R105). -/
def dsCrankEnded (s : State) : State :=
  if s.dieselIs .crank then (dsEnter .rest s).start .rest (sec s.par.diesel.restTime) else s

/-! ### Cycle result records (R107 to R111) -/

/-- A cycle is good for synchronising (R108). -/
def syncGood (p : Params) (r : CycleRecord) : Bool :=
  match r.sync, r.busRms, r.srcRms with
  | some x, some bus, some src =>
    decide ((2 * p.black.liveLevel + 1) * p.station.nominalV ≤ 32 * bus) && r.srcCondition == .live &&
      decide (x.slip.natAbs ≤ p.diesel.slipWindow) && decide (x.predicted.natAbs ≤ p.diesel.phaseWindow) &&
      decide (100 * ((src : Int) - bus).natAbs ≤ p.diesel.voltageWindow * p.station.nominalV)
  | _, _, _ => false

/-- The judgement of a record in SYNC (R108). -/
def dsJudgeSync (r : CycleRecord) (s : State) : State :=
  if syncGood s.par r then
    let s := { s with ds := { s.ds with good := s.ds.good + 1 } }
    if s.par.diesel.syncCount ≤ s.ds.good then dsCloseFromSync s else s
  else { s with ds := { s.ds with good := 0 } }

/-- The DS on a cycle result record. -/
def dsRecord (r : CycleRecord) (s : State) : State :=
  let dead := r.srcCondition == .dead
  match s.ds.state with
  | some .spool => if dead && !s.ds.timers.spool.isRunning then dsEnterFailed s else s
  | some .sync => if dead || s.released .runFb then dsEnterFailed s else dsJudgeSync r s
  | some .arbitrate => if dead then dsEnterFailed (dsWithdraw s) else s
  | some .closing => if dead then dsClosingFailed s else s
  | _ => s

/-! ### New figures: the bias step (R112) -/

/-- One step of the integrator against an error in mHz. -/
def biasStep (bias error : Int) (ki : Nat) : Int := clamp (-1000) 1000 (bias + truncDiv (-error * ki) 1000)

/-- The bias step of an online set. -/
def dsBiasOnline (s : State) : State :=
  match s.be.figures.f with
  | some f => setBias (biasStep s.ds.bias ((f : Int) - s.fNom) s.par.diesel.ki) s
  | none => s

/-- The bias step in SYNC, on the slip of the latest record. -/
def dsBiasSync (s : State) : State :=
  match s.mu.latest.bind (·.sync) with
  | some x => setBias (biasStep s.ds.bias x.slip s.par.diesel.ki) s
  | none => s

/-- The bias step by state (R112). -/
def dsBiasStep (s : State) : State :=
  match s.ds.state with
  | some .online => dsBiasOnline s
  | some .stopIntent => dsBiasOnline s
  | some .sync => dsBiasSync s
  | some .unload => setBias (max (-1000) (s.ds.bias - (s.par.diesel.unloadRate * s.periodMs / 1000 : Nat))) s
  | some .closing => s
  | some .opening => s
  | some .cooldown => s
  | some .crank => setBias 0 s
  | some .rest => setBias 0 s
  | some .spool => setBias 0 s
  | some .arbitrate => setBias 0 s
  | some .off => setBias 0 s
  | some .standby => setBias 0 s
  | some .intent => setBias 0 s
  | some .failed => setBias 0 s
  | none => s

/-! ### New figures: the judgements (R101, R103, R113 to R115) -/

/-- The position of the own set among the sets that could start (R101). -/
def State.startPosition (s : State) : Nat :=
  s.view.countP fun e =>
    e.role == .genset && e.summary == .idle && !e.unavailable &&
      ranksBefore e.startRank e.address s.par.diesel.startRank s.address

/-- The start delay at a position in ticks (R101). -/
def State.startDelayTicks (s : State) : Nat :=
  (if s.ds.timers.loss.isRunning then 0 else sec s.par.diesel.startDelay) + s.startPosition * ms s.par.diesel.intentWindow

/-- The start judgement in STANDBY (R101). -/
def dsJudgeStart (s : State) : State :=
  if s.islandUp && !s.ds.timers.holdoff.isRunning && s.be.figures.startNeed then
    let since := s.ds.needSince.getD s.tb
    if s.startDelayTicks ≤ elapsed s.tb since then dsEnterIntent s
    else { s with ds := { s.ds with needSince := some since } }
  else { s with ds := { s.ds with needSince := none } }

/-- An entry of the view holds a better start intent (R103). -/
def State.betterStartInView (s : State) : Bool :=
  s.view.any fun e =>
    match e.intent with
    | some r => r.kind == .start && ranksBefore r.rank e.address s.par.diesel.startRank s.address
    | none => false

/-- An entry of the view holds a worse stop intent (R114). -/
def State.worseStopInView (s : State) : Bool :=
  s.view.any fun e =>
    match e.intent with
    | some r => r.kind == .stop && ranksBefore s.par.diesel.startRank s.address r.rank e.address
    | none => false

/-- The own station is the worst-ranked ONLINE set (R113). -/
def State.worstOnline (s : State) : Bool :=
  s.view.all fun e =>
    !(e.role == .genset && e.summary == .online) ||
      ranksBefore e.startRank e.address s.par.diesel.startRank s.address

/-- The stop judgement in ONLINE (R113). -/
def dsJudgeStop (s : State) : State :=
  if s.cr.mode = .coordinated && !s.ds.forcedStop then
    if s.be.figures.stopPossible && s.worstOnline then
      if s.ds.timers.stop.isRunning then s else s.start .stop (sec s.par.diesel.stopDelay)
    else s.cancel .stop
  else s

/-- The withdrawal of a stop intent at new figures (R114). -/
def dsJudgeStopIntent (s : State) : State :=
  if !s.ds.forcedStop && (s.worseStopInView || !s.be.figures.stopPossible) then dsBackOnline s else s

/-- The unload at new figures (R115). -/
def dsJudgeUnload (s : State) : State :=
  if !s.ds.forcedStop && s.be.figures.startNeed then dsAbandonUnload s
  else if s.be.figures.ownOutput ≤ s.par.diesel.unloadThreshold then dsEnterOpening s else s

/-- The judgement of new figures by state. -/
def dsJudge (s : State) : State :=
  match s.ds.state with
  | some .standby => dsJudgeStart s
  | some .intent => if s.betterStartInView || !s.be.figures.startNeedOther then dsWithdrawStart s else s
  | some .online => dsJudgeStop s
  | some .stopIntent => dsJudgeStopIntent s
  | some .unload => dsJudgeUnload s
  | _ => s

/-- The DS on a report of new figures: the bias step, then the judgement, in COORDINATED and AUTONOMOUS (R99, R112). -/
def dsFigures (s : State) : State := if s.operating then dsJudge (dsBiasStep s) else s

/-! ### Timers -/

/-- The window timer's expiry (R104, R114). -/
def dsWindowExpired (s : State) : State :=
  match s.ds.state with
  | some .intent => dsEnterCrank (dropIntent s)
  | some .stopIntent => (dsEnter .unload (dropIntent s)).start .unload (sec s.par.diesel.unloadTimeout)
  | _ => s

/-- The stop timer's expiry (R113). -/
def dsStopExpired (s : State) : State := if s.dieselIs .online then dsEnterStopIntent s else s

/-- The rest timer's expiry (R106). -/
def dsRestExpired (s : State) : State :=
  if s.dieselIs .rest then (if s.ds.crankCount < s.par.diesel.attempts then dsEnterCrank s else dsEnterFailed s) else s

/-- The spool timer's expiry (R107). -/
def dsSpoolExpired (s : State) : State := if s.dieselIs .spool then dsJudgeSpool s else s

/-- The sync timeout's expiry (R109). -/
def dsSyncExpired (s : State) : State := if s.dieselIs .sync then dsEnterFailed s else s

/-- The unload timer's expiry (R115). -/
def dsUnloadExpired (s : State) : State := if s.dieselIs .unload then dsEnterOpening s else s

/-- The cooldown timer's expiry (R116). -/
def dsCooldownExpired (s : State) : State :=
  if s.dieselIs .cooldown then
    let s := { s.writeRun false with ds := { s.ds with forcedStop := false } }
    if s.asserted .inhibit then dsEnterOff s else dsEnterStandby s
  else s

/-! ### Reconstruction (R182) -/

/-- STANDBY with the RUN latch CLEAR, given as OFF where INHIBIT is asserted (R182). -/
def dsRest (s : State) : State :=
  let s := s.writeRun false
  if s.asserted .inhibit then dsEnterOff s else dsEnterStandby s

/-- A source breaker found closed without a running set (R182, R118). -/
def dsFoundClosed (s : State) : State :=
  if s.asserted .inhibit then dsEnterOff (s.writeRun false) else dsEnterFailed (dsTrip true s).2

/-- ONLINE as found, with the forced stop where INHIBIT is asserted and the mode allows it (R182, R100). -/
def dsFoundOnline (s : State) : State :=
  let s := dsEnter .online s
  if s.asserted .inhibit && s.operating then dsForcedStop s else s

/-- A running set with its breaker open: SYNC, but in SERVICE or with INHIBIT asserted at rest (R182, R100, log 31). -/
def dsFoundRunning (s : State) : State :=
  if s.operating && !s.asserted .inhibit then dsEnterSync s else dsRest s

/-- The first state of the DS from its lines and the retention record (R182). At a role other than GENSET the RUN latch is never SET
(R33), so one that a station reset kept is written CLEAR here, where the role is first known (log 41). -/
def dsReconstruct (s : State) : State :=
  if s.par.station.role = .genset then
    if s.ret.lockout then dsEnterFailed s
    else if s.ret.run && s.asserted .runFb then
      (if s.asserted .srcCb then dsFoundOnline s else dsFoundRunning s)
    else if s.asserted .srcCb then dsFoundClosed s
    else dsRest s
  else s.writeRun false

end Sys2Proof.Machine
end

