-- ==== Sys2Proof/Machine/Solar.lean ====
section
/-! DEFINITION. The solar cap unit: source states, loss of the source, the trip at DARK, the cap chain and the cap code
(chapter 07). -/

namespace Sys2Proof.Machine

/-- The source state of the solar record changes. -/
def scEnter (st : SolarState) (s : State) : State := { s with sc := { s.sc with state := some st } }

/-- The solar source state is `st`. -/
def State.solarIs (s : State) (st : SolarState) : Bool := s.sc.state == some st

/-! ### The cap code (R133) -/

/-- The cap code of a cap in kW: the quotient rounded, the offset added, and the sum clamped. -/
def capCode (cap : Int) (rating : Nat) (offset : Int) : Nat := (clamp 0 4095 (roundDiv (cap * 4095) rating + offset)).toNat

/-- The cap commanded, with its code formed and written to the TAC. -/
def scCommand (cap : Int) (override : CapOverride) (s : State) : State :=
  let code := capCode cap s.par.station.rating s.par.solar.capOffset
  { s with sc := { s.sc with finalCap := cap, lastCap := cap, override, code } }.writeCapCode code

/-! ### The cap chain (R128 to R131) -/

/-- The frequency-watt cap (R129). -/
def fwCap (f : Option Nat) (nominal : Nat) (p : SolarParams) (rating : Nat) : Int :=
  match f with
  | some f =>
    if (nominal : Int) + p.fwDeadband < f then
      max 0 ((rating : Int) - (rating * p.fwSlope * (f - nominal - p.fwDeadband) / 100000 : Nat))
    else rating
  | none => rating

/-- The ramp step in kW (R130). -/
def rampStep (rating ramp periodMs : Nat) : Nat := max 1 (rating * ramp * periodMs / 6000000)

/-- A target cap, ramp-limited when it rises above the last cap (R130). -/
def rampLimit (target last : Int) (step : Nat) : Int := if last < target then min target (last + step) else target

/-- The override and the final cap (R131), tested in the order of the table. -/
def capOverride (island : Option Island) (mode : Mode) (limited fallback : Int) : CapOverride × Int :=
  if island = some .deadWait ∨ island = some .dark then (.dark, 0)
  else if mode = .startup ∨ mode = .fault then (.fault, 0)
  else if mode = .service ∨ mode = .autonomous then (.fallback, fallback)
  else (.plain, limited)

/-- One run of the cap chain on the figures record (R128). -/
def scRun (s : State) : State :=
  let rating := s.par.station.rating
  let step := rampStep rating s.par.solar.ramp s.periodMs
  let share := min s.be.figures.ownShare rating
  let fw := fwCap s.be.figures.f s.fNom s.par.solar rating
  let raw := min share fw
  let limited := rampLimit raw s.sc.lastCap step
  let o := capOverride s.bsc.island s.cr.mode limited (rampLimit s.par.solar.fallbackCap s.sc.lastCap step)
  scCommand o.2 o.1
    { s with sc := { s.sc with
        runCount := (s.sc.runCount + 1) % 65536, shareCap := share, fwCap := fw, rawCap := raw, limitedCap := limited } }

/-- The SC on a report of new figures (R128). -/
def scFigures (s : State) : State := if s.sc.state.isSome then scRun s else s

/-! ### Overrides at a change (R132) and the trip at DARK (R127) -/

/-- The cap made 0 at the instant of a change. -/
def scZero (override : CapOverride) (s : State) : State := if s.sc.state.isSome then scCommand 0 override s else s

/-- A trip's window reports CONFIRMED while the trip flag is set. -/
def scConfirmed (s : State) : State :=
  if s.sc.trip then scEnter .offline { s with sc := { s.sc with trip := false } } else s

/-- A trip's window reports NOT-CONFIRMED. -/
def scNotConfirmed (s : State) : State := { s with sc := { s.sc with trip := false } }

/-- The trip of an ONLINE inverter at DARK, in a mode that allows it. A request not STARTED leaves the trip flag as it stands (log 36). -/
def scTripAtDark (s : State) : State :=
  if s.solarIs .online && s.operating then
    match s.requestTrip .source .sc s.par.diesel.pulse true with
    | (⟨.started, _, confirmed⟩, s) =>
      let s := { s with sc := { s.sc with trip := true } }
      if confirmed then scConfirmed s else s
    | (_, s) => s
  else s

/-- The SC on a change of island state, which the BSC has already made. -/
def scIslandChange (s : State) : State :=
  match s.bsc.island with
  | some .deadWait => scZero .dark s
  | some .dark => scTripAtDark (scZero .dark s)
  | _ => s

/-! ### The source breaker (R124 to R126) -/

/-- SRC_CB qualified as asserted (R124). -/
def scAsserted (s : State) : State := if s.solarIs .offline then scEnter .online s else s

/-- A loss of the source: the LOSS notice, the report to the FL, and OFFLINE (R126). -/
def scLost (output : Nat) (s : State) : State :=
  let rating := s.par.station.rating
  scEnter .offline (flLoss .solar output rating (s.placeFrame .loss (lossPayload .solar output rating)))

/-- SRC_CB qualified as released where it confirms no window (R126). -/
def scReleased (s : State) : State :=
  if s.solarIs .online && !s.sc.trip then
    if s.islandUp && s.par.solar.lossThreshold < clamp16 s.mu.mean.src then scLost (clamp16 s.mu.mean.src) s
    else scEnter .offline s
  else s

/-- The SC starts and takes its source state (R123, R125). -/
def scStart (s : State) : State :=
  if s.par.station.role = .solar then scEnter (if s.asserted .srcCb then .online else .offline) s else s

end Sys2Proof.Machine
end

