-- ==== Sys2Proof/Machine/Island.lean ====
section
/-! DEFINITION. The black start coordinator: the island state and its entries, reconstruction, and the arbitration on PERMIT
(chapter 09). -/

namespace Sys2Proof.Machine

/-! ### The island state (R158 to R163) -/

/-- A port is in CLOSED, CLOSING or OPENING. -/
def State.isDrawing (s : State) (p : Port) : Bool :=
  s.portState p == some .closed || s.portState p == some .closing || s.portState p == some .opening

/-- The was-closed flags of the ports in CLOSED, CLOSING or OPENING set, beside those already set (R161). -/
def markWasClosed (s : State) : State :=
  { s with ret := { s.ret with wasClosed := .of fun p => s.ret.wasClosed.get p || s.isDrawing p } }

/-- The pre-dark record written at an entry to DARK (R161). -/
def writePreDark (s : State) : State :=
  let s := markWasClosed s
  { s with ret := { s.ret with darkTaken := true } }

/-- A change of island state reported to the FL, the SC and the DS, in that order (R160, log 10). -/
def reportIsland (s : State) : State := dsIslandChange (scIslandChange (flIslandChange s))

/-- The entry to DARK (R160). -/
def bscEnterDark (s : State) : State := reportIsland ((writePreDark s).setIsland .dark)

/-- The entry to DEAD-WAIT from LIVE or RECOVER (R158). -/
def bscEnterDeadWait (origin : Origin) (s : State) : State :=
  let s := (s.cancel .recover).start .dead (ms s.par.black.deadTime)
  reportIsland ({ s with bsc := { s.bsc with origin } }.setIsland .deadWait)

/-- The entry to RECOVER (R162). -/
def bscEnterRecover (s : State) : State :=
  let s := s.start .recover (minutes s.par.restore.recoverTimeout)
  bscLook (bscHoldLive (reportIsland (s.setIsland .recover)))

/-- The BSC follows a bus condition (R158). -/
def bscFollow (c : Condition) (s : State) : State :=
  match s.bsc.island, c with
  | some .live, .dead => bscEnterDeadWait .live s
  | some .deadWait, .live =>
    let s := s.cancel .dead
    (match s.bsc.origin with
     | .live => bscEnterLive s
     | .recover => bscEnterRecover s)
  | some .dark, .live => bscEnterRecover s
  | some .recover, .dead => bscEnterDeadWait .recover s
  | _, _ => s

/-- The dead timer's expiry (R159). -/
def bscDeadExpired (s : State) : State := if s.bsc.island = some .deadWait then bscEnterDark s else s

/-- The recover timer's expiry (R162): the FL makes its BLACK-OPEN ports SHED, and the station enters LIVE. -/
def bscRecoverExpired (s : State) : State :=
  if s.bsc.island = some .recover then
    let s := flRecoverExpired s
    if s.bsc.island = some .recover then bscEnterLive s else s
  else s

/-- A bus found LIVE before a win ends the session and is reported to the DS (R172). -/
def bscBusLive (c : Condition) (s : State) : State :=
  if c = .live && s.contending then dsLostOrLive (sessionEnd s) else s

/-! ### Reconstruction (R165, R183) -/

/-- A port that the reconstruction makes BLACK-OPEN: it is SHED, and its was-closed flag is set or the retention record is
invalid. -/
def State.returnsBlack (s : State) (live : Bool) (p : Port) : Bool :=
  s.portState p == some .shed &&
    (if s.ret.valid then s.ret.darkTaken && s.ret.wasClosed.get p else !live)

/-- The ports that the reconstruction makes BLACK-OPEN, in ascending order. -/
def State.blackPorts (s : State) (live : Bool) : List Port := Port.all.filter (s.returnsBlack live)

/-- The first island state, taken at the fourth cycle result record (R183). -/
def bscReconstruct (c : Condition) (s : State) : State :=
  let live := c == .live
  let s := { s with bsc := { s.bsc with reconstructed := true } }
  let s := (s.blackPorts live).foldl (fun s p => flEnter p .blackOpen none none s) s
  if live then (if s.ret.valid && s.ret.darkTaken then bscEnterRecover s else bscEnterLive s) else bscEnterDark s

/-- The BSC on a cycle result record's bus condition (R158, R165, R172). -/
def bscRecord (c : Condition) (s : State) : State :=
  if s.bsc.reconstructed then bscFollow c (bscBusLive c s)
  else
    let s := { s with bsc := { s.bsc with records := s.bsc.records + 1 } }
    if 4 ≤ s.bsc.records then bscReconstruct c s else s

/-! ### The session's timers and edges (R167 to R171) -/

/-- Start rank and address as the arbitration word (R166). -/
def arbitrationWord (rank address : Nat) : Nat := ((rank - 1) * 32 + (address - 1)) % 1024

/-- The BSC starts with its parameter set: DEAD-WAIT with origin LIVE and the dead timer STOPPED, and the own word (R165, R166). It is no
change of island state on which the SC acts (log 45). -/
def bscStart (s : State) : State :=
  { s with bsc := { s.bsc with
      island := some .deadWait, origin := .live, ownWord := arbitrationWord s.par.diesel.startRank s.address } }

/-- Bit `i` of the own word, most significant first. -/
def State.wordBit (s : State) (i : Nat) : Bool := s.bsc.ownWord.testBit (9 - i)

/-- START: the line is pulled and the contest counts from now (R167), with the bit index at 0 already (log 38). -/
def bscJoin (s : State) : State :=
  let s := (s.drivePermit true).putSession
    { s.bsc.session with phase := .start, slotStart := s.tb, bit := 0, sampleNext := false, guard := .stopped, stuck := .stopped }
  s.start .slot (ms 20)

/-- The guard timer's expiry (R167). -/
def bscGuardExpired (s : State) : State := if s.permitPhase = .waiting then bscJoin s else s

/-- Another station's pull makes PERMIT fall while edge reports are on: the station joins where the guard runs since its request, and
also, whatever the origin, where the fall comes at the very instant at which the guard expires, so that the two may be taken in either
order (R167, log 43). -/
def bscFall (s : State) : State :=
  if s.permitPhase = .waiting && s.bsc.session.guard.isRunning then
    if s.bsc.session.guardOrigin = .request ∨ s.bsc.session.guard.expiry = some s.tb then bscJoin s
    else (s.cancel .guard).start .stuck (sec s.par.black.permitTimeout)
  else s

/-- PERMIT rises (R167, R168). -/
def bscRise (s : State) : State :=
  if s.permitPhase = .waiting then
    let s := (s.cancel .stuck).setAlarm .permitStuck false
    startGuard .edge (s.putSession { s.bsc.session with stuckFlag := false })
  else s

/-- The stuck timer's expiry (R168). -/
def bscStuckExpired (s : State) : State :=
  if s.permitPhase = .waiting then
    (s.putSession { s.bsc.session with stuckFlag := true }).setAlarm .permitStuck true
  else s

/-- The drive of a bit slot, and the wait for its sample (R169). -/
def bscDriveBit (i : Nat) (s : State) : State :=
  let s := s.putSession { s.bsc.session with phase := .bits, bit := i, sampleNext := true }
  (s.drivePermit (!s.wordBit i)).start .slot (ms 5)

/-- The win after the sample of bit 9 (R170): on a bus that is not LIVE the dead-bus close is asked for (log 12). -/
def bscWin (s : State) : State :=
  let s := s.drivePermit true
  if s.mu.latest.map (·.busCondition) = some .live then dsLostOrLive (sessionEnd s)
  else dsWon (s.putSession { s.bsc.session with phase := .close })

/-- The sample of the current bit (R169). -/
def bscSample (s : State) : State :=
  let i := s.bsc.session.bit
  if s.wordBit i && s.permitLow then dsLostOrLive (sessionEnd s)
  else if 9 ≤ i then bscWin s
  else (s.putSession { s.bsc.session with sampleNext := false }).start .slot (ms 5)

/-- A slot point of the contest (R169). -/
def bscSlotExpired (s : State) : State :=
  match s.permitPhase with
  | .start => bscDriveBit 0 s
  | .bits => if s.bsc.session.sampleNext then bscSample s else bscDriveBit (s.bsc.session.bit + 1) s
  | _ => s

/-- The hold timer's expiry, and the live-wait timer's (R171). -/
def bscHoldExpired (s : State) : State := if s.permitPhase = .hold then sessionEnd s else s

/-- At an entry to SERVICE or FAULT the session ends in whatever phase it holds (R172). -/
def bscHold (s : State) : State := if s.permitPhase = .idle then s else sessionEnd s

end Sys2Proof.Machine
end

