-- ==== Sys2Proof/Machine/Link.lean ====
section
/-! DEFINITION. The island link controller: the transmitter and its attempts, the status schedule, the receiver, and the enabling
by station mode (chapter 03). -/

namespace Sys2Proof.Machine

/-! ### Line idle (R37, R38) -/

/-- The ticks of one link character (R37). -/
def charTicks : Nat := 400

/-- The end idle of the receiver (R38). -/
def endIdleTicks : Nat := 800

/-- The line idle measure (R38), taken modulo 2^32 (R20): 0 while the last character still runs to its end. -/
def State.lineIdle (s : State) (since : Tick) : Nat := if elapsed since s.tb ≤ charTicks then 0 else elapsed s.tb since

/-! ### Enabling and disabling (R44, R56) -/

/-- The status interval in ticks (R44). -/
def State.statusTicks (s : State) : Nat := s.par.station.statusInterval * 500000

/-- The mode and the conflict flag let the transmitter run (R56). -/
def State.maySend (s : State) : Bool := (s.cr.mode == .service || s.operating) && !s.ilc.conflict

/-- The transmitter enabled: READY, an empty queue, and the first status due instant drawn (R44, R56). -/
def ilcEnable (s : State) : State :=
  let (r, s) := { s with ilc := { s.ilc with transmitter := .ready, slots := .empty } }.draw
  s.start .status (r * s.statusTicks / 65536)

/-- The character that the driver drives at an instant of an attempt, with the instant of its end; none once the frame is out (R37,
R47). -/
def drivenChar (sent : List Byte) (start now : Tick) : Option (Byte × Tick) :=
  let i := elapsed now start / charTicks
  sent[i]?.map fun c => (c, after start (charTicks * (i + 1)))

/-- What the driver finishes at a disabling: the character being driven while SENDING, and what it was finishing already otherwise
(R56). -/
def State.toFinish (s : State) : Option (Byte × Tick) :=
  match s.ilc.transmitter with
  | .sending k payload start _ => drivenChar (frameChars s.address k payload) start s.tb
  | _ => s.ilc.finishing.map fun t => (s.ilc.finishingChar, t)

/-- The transmitter disabled (R56). -/
def ilcDisable (s : State) : State :=
  { s with ilc := { s.ilc with
      finishing := s.toFinish.map (·.2)
      finishingChar := (s.toFinish.map (·.1)).getD s.ilc.finishingChar
      transmitter := .disabled
      slots := .empty
      status := .stopped } }

/-- The transmitter follows the station mode and the conflict flag (R56). -/
def ilcFollow (s : State) : State :=
  if s.ilc.started then
    if s.maySend && !s.ilc.transmitter.enabled then ilcEnable s
    else if !s.maySend && s.ilc.transmitter.enabled then ilcDisable s else s
  else s

/-- The ILC starts: the receiver waits for its first end idle, the idle measure begins, the generator is seeded, and the
transmitter takes the state the mode calls for (R38, R45, R51, R56). -/
def ilcStart (s : State) : State :=
  ilcFollow { s with ilc := { s.ilc with
    started := true, receiver := .ignoring, idleSince := some s.tb, endIdle := false, random := some (lfsrSeed s.address s.tb) } }

/-! ### STATUS frames (R43, R44) -/

/-- The feeder records of the own STATUS (R43). -/
def State.ownFeeders (s : State) : List FeederRecord :=
  Port.all.filterMap fun p =>
    if s.configured p then
      (s.port p).map fun r => ⟨p.num, r.state, (s.par.port.get p).shedRank, clamp16 r.load⟩
    else none

/-- What the own STATUS says at a build instant (R43). -/
def State.ownStatus (s : State) : StatusMsg where
  role := s.par.station.role
  summary := s.summary
  service := s.cr.mode == .service
  noFreshPeers := s.pv.freshCount == 0
  unavailable := s.unavailable
  island := s.bsc.island.getD .deadWait
  interval := s.par.station.statusInterval
  rating := if s.par.station.role = .noSource then 0 else s.par.station.rating
  output := s.ownOutput
  minOrAvail :=
    match s.par.station.role with
    | .genset => s.par.diesel.minimumLoad
    | .solar => s.ownAvailable
    | .noSource => 0
  startRank := if s.par.station.role = .genset then s.par.diesel.startRank else 0
  intent := s.ds.intent.map (·.1)
  feeders := s.ownFeeders

/-- A status due instant: the frame is built and placed, and the timer runs to the next (R43, R44). -/
def ilcStatusDue (s : State) : State :=
  let (r, s) := (s.placeFrame .status (statusPayload s.ownStatus)).draw
  s.start .status (s.statusTicks + r * s.statusTicks / 524288)

/-! ### Attempts (R47 to R50) -/

/-- The frame kinds by priority (R47). -/
def FrameKind.byPriority : List FrameKind := [.loss, .intent, .step, .status]

/-- The required idle of the frame waiting in a slot; none where no frame waits (R47). -/
def State.requiredIdle (s : State) (k : FrameKind) : Option Nat :=
  let x := s.ilc.slots.get k
  x.frame.map fun _ => 1200 + (if k = .status then 800 else 0) + x.backoff * 1600

/-- The least of a list of numbers. -/
def least : List Nat → Option Nat
  | [] => none
  | n :: l => some ((least l).elim n (min n))

/-- The idle at which the next attempt begins: the idle now, or the least required idle where that is not yet reached. -/
def State.attemptIdle (s : State) (since : Tick) : Option Nat :=
  (least (FrameKind.byPriority.filterMap s.requiredIdle)).map (max (s.lineIdle since))

/-- The kind of highest priority that is eligible at a line idle (R47). -/
def State.eligible (s : State) (idle : Nat) : Option FrameKind :=
  FrameKind.byPriority.find? fun k => (s.requiredIdle k).elim false (· ≤ idle)

/-- The frame of a kind taken out of its slot and driven from `t` on (R47). -/
def ilcBegin (k : FrameKind) (payload : List Byte) (t : Tick) (s : State) : State :=
  let x := s.ilc.slots.get k
  let s := (s.stamp t).putSlot k ⟨none, x.attempts + 1, 0⟩
  { s with ilc := { s.ilc with transmitter := .sending k payload t [] } }

/-- The start of an attempt at the first instant at which a frame is eligible (R47). -/
def ilcAttempt (s : State) : State :=
  match s.ilc.transmitter, s.ilc.receiver, s.ilc.idleSince with
  | .ready, .waiting, some since =>
    match s.attemptIdle since with
    | some idle =>
      match s.eligible idle with
      | some k =>
        match (s.ilc.slots.get k).frame with
        | some payload => ilcBegin k payload (if s.lineIdle since < idle then after since idle else s.tb) s
        | none => s
      | none => s
    | none => s
  | _, _, _ => s

/-- An echo matches the character sent (R48). -/
def echoMatches (sent : Byte) (echo : LinkChar) : Bool := echo.byte == sent && !echo.framing

/-- The latest echo mismatches the character sent (R48). -/
def lastMismatches (sent : List Byte) (echoes : List LinkChar) : Bool :=
  match echoes.getLast?, sent[echoes.length - 1]? with
  | some e, some c => !echoMatches c e
  | some _, none => true
  | none, _ => false

/-- Every character has echoed without mismatch (R48). -/
def allMatch : List Byte → List LinkChar → Bool
  | [], [] => true
  | c :: cs, e :: es => echoMatches c e && allMatch cs es
  | _, _ => false

/-- What a failed attempt makes of the frame in flight and of its slot (R49). -/
def ilcFail (k : FrameKind) (payload : List Byte) (s : State) : State :=
  let x := s.ilc.slots.get k
  if x.attempts < 4 then
    let (r, s) := s.draw
    s.putSlot k ⟨some (x.frame.getD payload), x.attempts, r * 2 ^ x.attempts / 65536⟩
  else
    (s.putSlot k ⟨x.frame, 0, 0⟩).putCounters { s.ilc.counters with drops := saturate s.ilc.counters.drops }

/-- The receiver goes on from the echoes of a failed attempt (R55); an attempt without an echo leaves it as it is (log 33). -/
def ilcCollectEchoes (echoes : List LinkChar) (s : State) : State :=
  if echoes.isEmpty then s else { s with ilc := { s.ilc with receiver := .collecting echoes false } }

/-- A collision ends the attempt in flight at `t` (R48, R49, R55). -/
def ilcCollide (k : FrameKind) (payload : List Byte) (echoes : List LinkChar) (t : Tick) (s : State) : State :=
  let s := { s.stamp t with ilc := { s.ilc with transmitter := .ready } }
  let s := s.putCounters { s.ilc.counters with collisions := saturate s.ilc.counters.collisions }
  ilcCollectEchoes echoes (ilcFail k payload s)

/-- A collision, where one is found: at the echo's stop-bit sample, or in the middle of a start bit without an echo (R48, log 15). -/
def ilcCollision (noEcho : Bool) (s : State) : State :=
  match s.ilc.transmitter with
  | .sending k payload start echoes =>
    let sent := frameChars s.address k payload
    if noEcho then
      (if echoes.length < sent.length then ilcCollide k payload echoes (after start (charTicks * echoes.length + 20)) s else s)
    else if lastMismatches sent echoes then ilcCollide k payload echoes s.tb s else s
  | _ => s

/-- The end of an attempt that succeeds (R48, R50); the last character ends where the idle measure begins. -/
def ilcSucceed (s : State) : State :=
  match s.ilc.transmitter with
  | .sending k payload _ echoes =>
    if allMatch (frameChars s.address k payload) echoes then
      let s := (s.stamp (s.ilc.idleSince.getD s.tb)).putSlot k ⟨(s.ilc.slots.get k).frame, 0, 0⟩
      let s := { s with ilc := { s.ilc with transmitter := .ready } }
      s.putCounters { s.ilc.counters with sent := saturate s.ilc.counters.sent }
    else s
  | _ => s

/-- The driver released after a disabling (R56). -/
def ilcRelease (s : State) : State :=
  match s.ilc.finishing with
  | some t => { s.stamp t with ilc := { s.ilc with finishing := none } }
  | none => s

/-! ### The receiver (R37, R48, R51) -/

/-- A character appended to a burst, up to 35 (R51). -/
def appendChar (burst : List LinkChar) (overlong : Bool) (c : LinkChar) : Receiver :=
  if burst.length < 35 then .collecting (burst ++ [c]) overlong else .collecting burst true

/-- An end idle has passed on the line at a fall: 800 ticks lie between the end of the last character and it (R38). The fall may come
up to 20 ticks before that end (R37), when no idle has passed at all. -/
def idleBefore (fall since : Tick) : Bool := charTicks < elapsed since fall && endIdleTicks ≤ elapsed fall since

/-- What a character formed at a fall makes of the transmitter and the receiver (R48, R51). -/
def ilcTake (fall : Tick) (c : LinkChar) (x : Ilc) : Ilc :=
  match x.transmitter, x.finishing, x.receiver with
  | .sending k payload start echoes, _, _ => { x with transmitter := .sending k payload start (echoes ++ [c]) }
  | _, some _, _ => x
  | _, none, .collecting burst overlong => { x with receiver := appendChar burst overlong c }
  | _, none, .waiting =>
    let quiet := x.endIdle || (x.idleSince.map (idleBefore fall)).getD false
    if quiet then { x with receiver := .collecting [c] false } else x
  | _, none, _ => x

/-- A fall of the line at `fall` with its ten mid-bit samples (R37, R38). -/
def ilcCharacter (fall : Tick) (samples : BitVec 10) (s : State) : State :=
  match linkChar samples with
  | some c =>
    let s := s.stamp (after fall 380)
    if s.ilc.started then
      { s with ilc := { ilcTake fall c s.ilc with idleSince := some (after fall charTicks), endIdle := false } }
    else s
  | none => s.stamp (after fall 20)

/-- The first end idle after the start: the receiver is ready for a burst (R51). -/
def ilcFirstEndIdle (s : State) : State :=
  match s.ilc.receiver, s.ilc.idleSince with
  | .ignoring, some since => { s.stamp (after since endIdleTicks) with ilc := { s.ilc with receiver := .waiting, endIdle := true } }
  | _, _ => s

/-- A burst that fails its checks is counted once (R52). -/
def ilcDiscard (s : State) : State :=
  s.putCounters { s.ilc.counters with receiveErrors := saturate s.ilc.counters.receiveErrors }

/-- A good frame delivered is counted (R53). -/
def ilcCountReceived (s : State) : State :=
  s.putCounters { s.ilc.counters with received := saturate s.ilc.counters.received }

/-- A notice from an address without an entry is counted (R53). -/
def ilcCountUnknown (s : State) : State :=
  s.putCounters { s.ilc.counters with unknownSender := saturate s.ilc.counters.unknownSender }

/-- A good frame that bears the own address is counted (R54). -/
def ilcCountOwn (s : State) : State :=
  s.putCounters { s.ilc.counters with ownAddress := saturate s.ilc.counters.ownAddress }

end Sys2Proof.Machine
end

