-- ==== Sys2Proof/Machine/Peers.lean ====
section
/-! DEFINITION. The peer view: the peer table and what STATUS frames, notices and freshness timers make of it (chapter 04). -/

namespace Sys2Proof.Machine

/-- The intent record after a STATUS (R62). Its rank is the start rank of the frame also where that is 0, as at a sender that is no GENSET
(log 46). -/
def nextIntent (before : Option IntentRecord) (m : StatusMsg) (t : Tick) : Option IntentRecord :=
  m.intent.map fun k =>
    { kind := k, rank := m.startRank, rating := m.rating
      receipt :=
        match before with
        | some r => if r.kind = k then r.receipt else t
        | none => t }

/-- An interval in units of 50 ms, in ticks (R63). -/
def intervalTicks (units : Nat) : Nat := units * 500000

/-- The entry that a STATUS closed at `t` makes, given the intent record the address had (R62, R63). -/
def entryOf (address : Nat) (before : Option IntentRecord) (m : StatusMsg) (t : Tick) : Entry where
  address := address
  role := m.role
  summary := m.summary
  service := m.service
  noFreshPeers := m.noFreshPeers
  unavailable := m.unavailable
  island := m.island
  interval := m.interval
  rating := m.rating
  output := m.output
  minOrAvail := m.minOrAvail
  startRank := m.startRank
  intent := nextIntent before m t
  feeders := m.feeders
  receipt := t
  fresh := true
  staleTimer := .running t (3 * intervalTicks m.interval + 1)
  removalTimer := .running t (10 * intervalTicks m.interval)

/-- An entry put into the table at the place of its address, replacing the one that stands there. -/
def putEntry (e : Entry) : List Entry → List Entry
  | [] => [e]
  | x :: l => if e.address < x.address then e :: x :: l else if e.address = x.address then e :: l else x :: putEntry e l

/-- A STATUS applied to the table (R61, R62). -/
def Pv.status (v : Pv) (sender : Nat) (m : StatusMsg) (t : Tick) : Pv :=
  match v.entry sender with
  | some e => { v with table := putEntry (entryOf sender e.intent m t) v.table }
  | none =>
    if v.table.length < 31 then { v with table := putEntry (entryOf sender none m t) v.table }
    else { v with tableFull := saturate v.tableFull }

/-- A LOSS notice applied to an entry (R65). -/
def Entry.loss (e : Entry) : Entry :=
  { e with
    output := 0
    intent := none
    summary :=
      match e.role with
      | .genset => .failed
      | .solar => .idle
      | .noSource => e.summary }

/-- An INTENT notice applied to an entry (R66). -/
def Entry.announce (e : Entry) (kind : IntentKind) (rank rating : Nat) (t : Tick) : Entry :=
  { e with
    intent := some ⟨kind, rank, rating, t⟩
    summary :=
      match kind with
      | .start => .pending
      | .stop => .leaving }

/-- A feeder record put into a list at the place of its port, replacing the one that stands there (R67). -/
def putFeeder (r : FeederRecord) : List FeederRecord → List FeederRecord
  | [] => [r]
  | x :: l => if r.port < x.port then r :: x :: l else if r.port = x.port then r :: l else x :: putFeeder r l

/-- A STEP notice applied to an entry (R67). -/
def Entry.step (e : Entry) (port shedRank load : Nat) : Entry :=
  { e with feeders := putFeeder ⟨port, .closed, shedRank, load⟩ e.feeders }

/-- A stale timer's expiry (R63). -/
def Pv.stale (v : Pv) (address : Nat) : Pv := v.modify address fun e => { e with fresh := false }

/-- A removal timer's expiry (R63): the entry, STALE by then, leaves the table. -/
def Pv.remove (v : Pv) (address : Nat) : Pv := { v with table := v.table.filter fun e => e.address != address || e.fresh }

/-- The mode that the fresh count and the conflict indication call for (R72). -/
def Pv.calledMode (v : Pv) : Mode := if v.conflict || v.freshCount = 0 then .autonomous else .coordinated

end Sys2Proof.Machine
end

