-- ==== Sys2Proof/Machine/Mode.lean ====
section
/-! DEFINITION. Configuration and retention: changes of the station mode, the start-up load, the integrity check, the commit, and
the two resets (chapter 10). -/

namespace Sys2Proof.Machine

/-! ### Changes of the station mode (R72, R177, R179) -/

/-- A mode in which the jobs are held. -/
def Mode.held (m : Mode) : Bool := m == .service || m == .fault

/-- A mode of operation. -/
def Mode.operates (m : Mode) : Bool := m == .coordinated || m == .autonomous

/-- The BSC on a change of mode from `old` (R161, R172). -/
def bscModeChange (old : Mode) (s : State) : State :=
  if s.cr.mode.held then bscHold s
  else if old.held && s.bsc.island = some .dark then markWasClosed s else s

/-- The DS on a change of mode from `old` (R99, R100, R120, R121). -/
def dsModeChange (old : Mode) (s : State) : State :=
  if s.operating then
    if old.held then dsResume s else if s.cr.mode = .autonomous then dsAlone s else s
  else if old.operates then dsHold s else s

/-- The SC on a change of mode from `old` (R127, R132). The override recorded at a change to FAULT is FAULT, also while the island is
DEAD-WAIT or DARK (log 44). -/
def scModeChange (old : Mode) (s : State) : State :=
  if s.cr.mode = .fault then scZero .fault s
  else if old.held && s.operating && s.bsc.island = some .dark then scTripAtDark s else s

/-- The station mode changes, and every block acts on the change (R177, R179, log 10). -/
def crSetMode (new : Mode) (s : State) : State :=
  let old := s.cr.mode
  if old = new then s
  else
    let s := { s with cr := { s.cr with mode := new } }
    let s := if new = .fault then s.setAlarm .modeFault true else s
    ilcFollow (flModeChange old (scModeChange old (dsModeChange old (bscModeChange old s))))

/-- The CR holds an operating mode at the one that the PV's reports call for (R72). -/
def crFollow (s : State) : State := if s.operating then crSetMode s.pv.calledMode s else s

/-- A change of the fresh count from `before` between 0 and above is reported to the CR (R69, R72). -/
def crReport (before : Nat) (s : State) : State := if (before == 0) != (s.pv.freshCount == 0) then crFollow s else s

/-- An address conflict found (R54, R70, R72). -/
def crConflict (s : State) : State :=
  let s := ilcCountOwn s
  if s.ilc.conflict then s
  else
    let s := { s with ilc := { s.ilc with conflict := true }, pv := { s.pv with conflict := true } }
    ilcFollow (crFollow (s.setAlarm .addressConflict true))

/-! ### The start-up load (R175 to R177) -/

/-- The calibration the MU takes: the sector's, or zeros where its CRC is bad (R176). -/
def State.calibrationTaken (s : State) : CalibrationSet :=
  if calibrationCrcOk s.cr.calSector then .ofSector s.cr.calSector else .zero

/-- The working copy and the parameter set taken from a valid record (R1, R174, R175, R176, R177). -/
def crTake (record : List Byte) (s : State) : State :=
  let working := clampRecord record
  let p := Params.ofRecord working
  { s with
    cr := { s.cr with
      working := some working
      workingCrc := crc16 (working.take 254)
      params := some p
      clamped := working != record
      calFault := !calibrationCrcOk s.cr.calSector
      mode := if s.asserted .service then .service else .autonomous }
    tac := { s.tac with breakerDebounce := p.station.breakerDebounce, otherDebounce := p.station.otherDebounce } }

/-- The blocks start, and the DS and the FL take their first states (R1, R75, R125, R165, R178, R182, log 22). -/
def crStartBlocks (s : State) : State :=
  let s := (beStart (muStart s.calibrationTaken s)).start .integrity (sec 10)
  flReconstruct (dsReconstruct (scStart (ilcStart (bscStart s))))

/-- The start-up load completes now (R177, R185). An invalid record leaves the clamped flag as it stands (R175, log 39). -/
def crLoad (s : State) : State :=
  let s := { s with cr := { s.cr with loaded := true }, mp := { s.mp with staging := s.cr.sector } }
  if recordValid s.cr.sector then crStartBlocks (crTake s.cr.sector s)
  else ilcStart ({ s with cr := { s.cr with mode := .fault } }.setAlarm .modeFault true)

/-- Every input of the qualification table has settled (R177). -/
def State.allSettled (s : State) : Bool :=
  let q := s.tac.inputs
  ([q.srcCb, q.runFb, q.inhibit, q.service] ++ q.cb.toList ++ q.loc.toList).all (·.level != .unsettled)

/-- The station waits for its start-up load. -/
def State.awaitsLoad (s : State) : Bool := s.cr.mode == .startup && !s.cr.loaded

/-! ### The integrity check and the commit (R178, R180) -/

/-- A reload of the working copy from the configuration sector (R178); an invalid record leaves the clamped flag (log 39). -/
def crReload (s : State) : State :=
  let s := { s with cr := { s.cr with reloadDue := false } }
  if recordValid s.cr.sector then
    let working := clampRecord s.cr.sector
    { s with cr := { s.cr with
        working := some working, workingCrc := crc16 (working.take 254), clamped := s.cr.clamped || working != s.cr.sector } }
  else crSetMode .fault s

/-- A reload that fell due during the commit, taken at its end (R178). -/
def crReloadIfDue (s : State) : State := if s.cr.reloadDue then crReload s else s

/-- The working copy with cells found disturbed. -/
def disturb (w : List Byte) (upset : List (Fin 256 × Byte)) : List Byte := upset.foldl (fun w c => w.set c.1.val c.2) w

/-- The integrity check of the working copy (R178). -/
def crIntegrity (upset : List (Fin 256 × Byte)) (s : State) : State :=
  match s.cr.working with
  | some w =>
    let w := disturb w upset
    let s := { s with cr := { s.cr with working := some w } }
    if crc16 (w.take 254) = s.cr.workingCrc then s
    else if s.cr.commit = .running then { s with cr := { s.cr with reloadDue := true } }
    else crReload s
  | none => s

/-- The commit's end (R180). -/
def crCommitEnd (programmed : Bool) (s : State) : State :=
  let s := if programmed then { s with cr := { s.cr with sector := s.mp.staging } } else s.spoilSector
  crReloadIfDue
    { s with cr := { s.cr with commit := if recordCrcOk s.cr.sector then .completed else .failed } }

/-- A RUNNING commit abandoned by the release of SERVICE (R180, log 27). -/
def crAbandonCommit (s : State) : State :=
  if s.cr.commit = .running then
    let s := s.spoilSector
    crReloadIfDue { s with cr := { s.cr with commit := .failed } }
  else s

/-- SERVICE qualified as asserted (R177). -/
def crServiceAsserted (s : State) : State := if s.operating then crSetMode .service s else s

/-- SERVICE qualified as released (R177, R180). -/
def crServiceReleased (s : State) : State :=
  let s := crAbandonCommit s
  if s.cr.mode = .service then crSetMode s.pv.calledMode s else s

/-- The mode and the SERVICE line let the staging buffer be written and committed (R180). -/
def State.mayConfigure (s : State) : Bool := s.cr.mode == .service || (s.cr.mode == .fault && s.asserted .service)

/-! ### The two resets (R36, R181) -/

/-- The retention record after a reset that finds the standby flag INTACT or LOST (R181). -/
def retentionAfter (powerOn : Bool) (r : Retention) : Retention :=
  if r.intact then { r with valid := true, run := r.run && !powerOn } else .cleared

/-- The station right after a reset begins: every block at its reset values, the two sectors and retention as they are kept. The time
base and the address keep their values until the end of the reset, which is the model's choice (log 25). -/
def resetAll (powerOn : Bool) (s : State) : State :=
  let s := if s.cr.commit = .running then s.spoilSector else s
  { State.reset with
    phase := s.phase
    tb := s.tb
    address := s.address
    tac := { Tac.reset with permitOthers := s.tac.permitOthers }
    ret := retentionAfter powerOn s.ret
    cr := .reset s.cr.sector s.cr.calSector
    freeCount := s.freeCount
    pending := s.pending }

/-- The end of a reset: the time base starts from 0, and the straps are read (R20, R32, R36). -/
def resetEnd (straps : BitVec 5) (s : State) : State :=
  { s with phase := .running, tb := 0, address := straps.toNat + 1 }

/-- A station reset begins (R36). -/
def stationReset (by_ : ResetPhase) (s : State) : State := { resetAll false s with phase := by_ }

end Sys2Proof.Machine
end

