-- ==== Sys2Proof/Machine/Delivery.lean ====
section
/-! DEFINITION. What one event carries from block to block: the reports of a qualified input, of a pulse and of a window, a closed
cycle handed to its readers, new figures handed to theirs, and a good frame delivered. -/

namespace Sys2Proof.Machine

/-! ### Samples and qualification (R31) -/

/-- The level of a sample. -/
def sampleLevel (x : Bool) : InputLevel := if x then .asserted else .released

/-- A qualifier after a sample, with its debounce (R31, log 7). -/
def Qualifier.take (q : Qualifier) (debounce : Nat) (x : Bool) : Qualifier :=
  let run := if q.sample = some x then min 16 (q.run + 1) else 1
  { q with sample := some x, run, due := debounce ≤ run && q.level != sampleLevel x }

/-- Every qualifier after a sample of its line (R31). -/
def Qualifiers.take (q : Qualifiers) (breaker other : Nat) (x : InputLevels) : Qualifiers where
  srcCb := q.srcCb.take breaker x.srcCb
  runFb := q.runFb.take other x.runFb
  inhibit := q.inhibit.take other x.inhibit
  service := q.service.take other x.service
  cb := .of fun p => (q.cb.get p).take breaker (x.cb.get p)
  loc := .of fun p => (q.loc.get p).take other (x.loc.get p)

/-- The samples of every input at the next sample instant (R31). -/
def tacSample (x : InputLevels) (s : State) : State :=
  { s with
    tb := s.tac.nextSample
    tac := { s.tac with
      inputs := s.tac.inputs.take s.tac.breakerDebounce s.tac.otherDebounce x
      nextSample := after s.tac.nextSample 10000 } }

/-- The qualified level of an input replaced by its latest sample (R31). -/
def State.qualify (s : State) (i : InputLine) (x : Bool) : State :=
  { s with tac := { s.tac with inputs := s.tac.inputs.set i { s.tac.inputs.get i with level := sampleLevel x, due := false } } }

/-! ### Confirmation windows (R26, R139) -/

/-- CONFIRMED reported to the requester of a window. -/
def reportConfirmed (r : Requester) (b : Breaker) (s : State) : State :=
  match r, b with
  | .ds, _ => dsConfirmed s
  | .sc, _ => scConfirmed s
  | .fl, .feeder p => flConfirmed p s
  | .fl, .source => s

/-- NOT-CONFIRMED reported to the requester of a window. -/
def reportNotConfirmed (r : Requester) (b : Breaker) (s : State) : State :=
  match r, b with
  | .ds, _ => dsNotConfirmed s
  | .sc, _ => scNotConfirmed s
  | .fl, .feeder p => flNotConfirmed p s
  | .fl, .source => s

/-- ENDED reported to the requester of a pulse (R22). -/
def reportEnded (c : PulseChannel) (s : State) : State :=
  match c with
  | .srcClose => s
  | .srcTrip => s
  | .crank => dsCrankEnded s
  | .feederClose p => flCloseEnded p s
  | .feederTrip p => flTripEnded p s

/-- A qualified position of the source breaker that confirms no window (R117, R118, R124, R126). -/
def sourceChanged (x : Bool) (s : State) : State :=
  if x then scAsserted (dsSrcAsserted s) else scReleased (dsSrcReleased s)

/-- A qualified position of a breaker: a confirmation of its window where it watches for that position, and an ordinary change
otherwise (R26). -/
def breakerQualified (b : Breaker) (x : Bool) (s : State) : State :=
  match s.window b with
  | .watching r closed _ =>
    if closed = x then reportConfirmed r b (s.putWindow b .closedOut)
    else match b with
      | .source => sourceChanged x s
      | .feeder p => flBreakerChange p x s
  | .closedOut =>
    match b with
    | .source => sourceChanged x s
    | .feeder p => flBreakerChange p x s

/-- A qualified level of an input reported to its readers (chapter 02, qualification table). -/
def reportQualified (i : InputLine) (x : Bool) (s : State) : State :=
  match i with
  | .srcCb => breakerQualified .source x s
  | .feederCb p => breakerQualified (.feeder p) x s
  | .runFb => if x then dsRunAsserted s else dsRunReleased s
  | .inhibit => if x then dsInhibitAsserted s else dsInhibitReleased s
  | .service => if x then crServiceAsserted s else crServiceReleased s
  | .feederLocal p => if x then flLocalAsserted p (s.cutLocal p) else flLocalReleased p s

/-- The qualification of an input that the latest sample made due (R31). -/
def tacQualify (i : InputLine) (s : State) : State :=
  match (s.tac.inputs.get i).due, (s.tac.inputs.get i).sample with
  | true, some x => reportQualified i x (s.qualify i x)
  | _, _ => s

/-- A pulse timer has expired: the channel is IDLE, and ENDED is reported (R22). -/
def tacPulseEnded (c : PulseChannel) (s : State) : State := reportEnded c (s.putPulse c .idle)

/-- A confirm timer has expired: the window is CLOSED-OUT, and NOT-CONFIRMED is reported (R26). -/
def tacNotConfirmed (b : Breaker) (s : State) : State :=
  match s.window b with
  | .watching r _ _ => reportNotConfirmed r b (s.putWindow b .closedOut)
  | .closedOut => s

/-- The next PWM period begins: the value written is taken into use (R29). -/
def tacPwmPeriod (s : State) : State :=
  let t := after s.tac.pwmStart 10000
  { s with tb := t, tac := { s.tac with pwmStart := t, pwmInUse := s.tac.pwm } }

/-! ### Cycle result records (R15) and figures (R89) -/

/-- The latest cycle result record handed to the FL, the BSC and the DS (R15, log 10). -/
def handRecord (s : State) : State :=
  match s.mu.latest with
  | some r => dsRecord r (bscRecord r.busCondition (flRecord r.f s))
  | none => s

/-- A closed cycle handed to its readers. -/
def muBoundary (t : Tick) (kind : BoundaryKind) (s : State) : State := handRecord (muCloseCycle t kind s)

/-- The end of a balance period: the timer restarts, the MU hands over, the BE computes, and its readers take the report
(R76, R77, R89). -/
def beExpired (s : State) : State :=
  flFigures (scFigures (dsFigures (beCompute (muHandOver (s.start .balance s.balanceTicks)))))

/-! ### Frames (R53, R54) -/

/-- A STATUS delivered to the peer view (R53, R69). -/
def deliverStatus (sender : Nat) (m : StatusMsg) (s : State) : State :=
  crReport s.pv.freshCount { ilcCountReceived s with pv := s.pv.status sender m s.tb }

/-- A notice applied to its sender's entry (R65 to R67). -/
def Entry.notice (e : Entry) (m : Msg) (t : Tick) : Entry :=
  match m with
  | .status _ => e
  | .loss _ _ _ => e.loss
  | .intent kind rank rating => e.announce kind rank rating t
  | .step port shedRank load => e.step port shedRank load

/-- A notice passed on to the jobs that act on its kind (R53). -/
def jobsNotice (sender : Nat) (m : Msg) (s : State) : State :=
  match m with
  | .status _ => s
  | .loss role output rating => dsLossNotice (flLoss role output rating s)
  | .intent kind rank _ => dsIntentNotice sender kind rank s
  | .step _ _ _ => flStepNotice s

/-- A notice delivered (R53): to the sender's entry and then to the jobs, or counted as from an unknown sender. -/
def deliverNotice (sender : Nat) (m : Msg) (s : State) : State :=
  if (s.pv.entry sender).isSome then
    jobsNotice sender m { ilcCountReceived s with pv := s.pv.modify sender fun e => e.notice m s.tb }
  else ilcCountUnknown s

/-- A good frame (R53, R54). -/
def deliver (g : GoodFrame) (s : State) : State :=
  if g.sender = s.address then crConflict s
  else match g.msg with
    | .status m => deliverStatus g.sender m s
    | m => deliverNotice g.sender m s

/-- A burst closed by an end idle is judged (R51, R52). -/
def ilcBurstClose (s : State) : State :=
  match s.ilc.receiver, s.ilc.idleSince with
  | .collecting burst overlong, some since =>
    let s := { s.stamp (after since endIdleTicks) with ilc := { s.ilc with receiver := .waiting, endIdle := true } }
    match judgeBurst burst overlong with
    | some g => deliver g s
    | none => ilcDiscard s
  | _, _ => s

/-- A stale timer has expired (R63, R69). -/
def pvStaleExpired (address : Nat) (s : State) : State := crReport s.pv.freshCount { s with pv := s.pv.stale address }

end Sys2Proof.Machine
end

