-- ==== Sys2Proof/Machine/Port.lean ====
section
/-! DEFINITION. The maintenance port: the layout of its responses, the reads, the staging buffer, the commit, the lockout and the
restart (chapter 11). Each layout takes the fields in the order of the table that defines them (R184, log 16). -/

namespace Sys2Proof.Machine

/-! ### Codes numbered from 0 in the order of their defining tables (R184) -/

def Mode.code : Mode → Nat
  | .startup => 0
  | .fault => 1
  | .service => 2
  | .autonomous => 3
  | .coordinated => 4

def DieselState.code : DieselState → Nat
  | .off => 0
  | .standby => 1
  | .intent => 2
  | .crank => 3
  | .rest => 4
  | .spool => 5
  | .sync => 6
  | .arbitrate => 7
  | .closing => 8
  | .online => 9
  | .stopIntent => 10
  | .unload => 11
  | .opening => 12
  | .cooldown => 13
  | .failed => 14

def IntentKind.code : IntentKind → Nat
  | .start => 0
  | .stop => 1

def SolarState.code : SolarState → Nat
  | .offline => 0
  | .online => 1

def CapOverride.code : CapOverride → Nat
  | .plain => 0
  | .dark => 1
  | .fault => 2
  | .fallback => 3

def Origin.code : Origin → Nat
  | .live => 0
  | .recover => 1

def PermitPhase.code : PermitPhase → Nat
  | .idle => 0
  | .waiting => 1
  | .start => 2
  | .bits => 3
  | .close => 4
  | .hold => 5

def CommitStatus.code : CommitStatus → Nat
  | .idle => 0
  | .running => 1
  | .completed => 2
  | .failed => 3

def Condition.code : Condition → Nat
  | .unknown => 0
  | .dead => 1
  | .live => 2

def BoundaryKind.code : BoundaryKind → Nat
  | .capture => 0
  | .synthetic => 1

def ShedCause.code : ShedCause → Nat
  | .frequency => 0
  | .deficit => 1
  | .overload => 2
  | .rotation => 3

def SwapStep.code : SwapStep → Nat
  | .opening => 0
  | .closing => 1

/-- The ALARM causes in the order of R34's table, FAULTED port by port. -/
def AlarmCause.all : List AlarmCause :=
  [.dieselFailed, .portFaulted .f1, .portFaulted .f2, .portFaulted .f3, .portFaulted .f4, .modeFault, .addressConflict,
   .permitStuck]

def AlarmCause.code : AlarmCause → Nat
  | .dieselFailed => 0
  | .portFaulted p => p.num
  | .modeFault => 5
  | .addressConflict => 6
  | .permitStuck => 7

/-! ### Fields -/

/-- A time base value. -/
def tickBytes (t : Tick) : List Byte := bytesBE 4 t.toNat

/-- RUNNING or STOPPED. -/
def timerByte (t : Timer) : List Byte := flagByte t.isRunning

/-- A list: its length, then its members. -/
def listBytes (l : List (List Byte)) : List Byte := byte l.length :: l.flatten

/-- Members of four ports in ascending order. -/
def quadBytes {α : Type} (enc : α → List Byte) (q : Quad α) : List Byte := (q.toList.map enc).flatten

/-! ### READ-STATION -/

/-- The diesel record (R98). -/
def dieselBytes (d : Ds) : List Byte :=
  let t := d.timers
  [byte ((d.state.map (·.code)).getD 0), byte d.crankCount] ++ bytesSigned 2 d.bias ++
    optBytes 5 (fun x : IntentKind × Tick => byte x.1.code :: tickBytes x.2) d.intent ++ flagByte d.forcedStop ++
    optBytes 4 tickBytes d.needSince ++ [byte d.good] ++ flagByte d.inhibitSeen ++
    [t.window, t.holdoff, t.stop, t.loss, t.rest, t.spool, t.sync, t.unload, t.cooldown].flatMap timerByte

/-- The solar source state, the trip flag and the cap record (R134). -/
def solarBytes (x : Sc) : List Byte :=
  [byte ((x.state.map (·.code)).getD 0)] ++ flagByte x.trip ++ bytesBE 2 x.runCount ++ bytesSigned 2 x.shareCap ++
    bytesSigned 2 x.fwCap ++ bytesSigned 2 x.rawCap ++ bytesSigned 2 x.limitedCap ++ [byte x.override.code] ++
    bytesSigned 2 x.finalCap ++ bytesSigned 2 x.lastCap ++ bytesBE 2 x.code

/-- The source's record by role; none at role NONE, nor before a parameter set is taken, when no role is known (log 16). -/
def sourceBytes (s : State) : List Byte :=
  match s.par.station.role with
  | .genset => dieselBytes s.ds
  | .solar => solarBytes s.sc
  | .noSource => []

/-- How many entries of the view give an island state (R164). -/
def State.peersIn (s : State) (i : Island) : Nat := s.view.countP (·.island == i)

/-- The state of the BSC (R164). -/
def islandBytes (s : State) : List Byte :=
  let x := s.bsc.session
  optBytes 1 (fun i : Island => [byte i.code]) s.bsc.island ++
    optBytes 1 (fun o : Origin => [byte o.code]) (if s.bsc.island = some .deadWait then some s.bsc.origin else none) ++
    timerByte s.bsc.dead ++ timerByte s.bsc.recover ++ flagByte s.ret.darkTaken ++ quadBytes flagByte s.ret.wasClosed ++
    [byte x.phase.code] ++ tickBytes x.slotStart ++ [byte x.bit] ++ bytesBE 2 s.bsc.ownWord ++ flagByte x.stuckFlag ++
    [byte (s.peersIn .live), byte (s.peersIn .deadWait), byte (s.peersIn .dark), byte (s.peersIn .recover)]

/-- The ALARM cause set (R34). -/
def alarmBytes (a : AlarmSet) : List Byte := listBytes ((AlarmCause.all.filter a.has).map fun c => [byte c.code])

/-- The seven link counters (R57). -/
def counterBytes (c : LinkCounters) : List Byte :=
  [c.sent, c.received, c.collisions, c.drops, c.receiveErrors, c.unknownSender, c.ownAddress].flatMap (bytesBE 2)

/-- The payload of READ-STATION (R186). Before a parameter set is taken the role is sent as NONE (log 16). -/
def stationPayload (s : State) : List Byte :=
  tickBytes s.tb ++ [byte s.cr.mode.code, byte s.par.station.role.code, byte s.address] ++ sourceBytes s ++ islandBytes s ++
    alarmBytes s.tac.alarm ++ counterBytes s.ilc.counters ++ bytesBE 2 s.pv.tableFull ++ flagByte s.cr.clamped ++
    flagByte s.cr.calFault ++ [byte s.cr.commit.code]

/-! ### READ-PEER -/

/-- The intent record of an entry (R60). -/
def intentBytes : Option IntentRecord → List Byte :=
  optBytes 8 fun r => [byte r.kind.code, byte r.rank] ++ bytesBE 2 r.rating ++ tickBytes r.receipt

/-- A feeder record of an entry (R60). -/
def feederRecordBytes (r : FeederRecord) : List Byte :=
  [byte r.port, byte r.state.code, byte r.shedRank] ++ bytesBE 2 r.load

/-- Every field of an entry (R60), and its age and the age of its intent record at `now`. The freshness, which R186 names again after the
fields of R60, is sent once, at its place among them (log 16). -/
def entryBytes (now : Tick) (e : Entry) : List Byte :=
  [byte e.address, byte e.role.code, byte e.summary.code] ++ flagByte e.service ++ flagByte e.noFreshPeers ++
    flagByte e.unavailable ++ [byte e.island.code, byte e.interval] ++ bytesBE 2 e.rating ++ bytesBE 2 e.output ++
    bytesBE 2 e.minOrAvail ++ [byte e.startRank] ++ intentBytes e.intent ++ listBytes (e.feeders.map feederRecordBytes) ++
    tickBytes e.receipt ++ [if e.fresh then 0 else 1] ++ timerByte e.staleTimer ++ timerByte e.removalTimer ++
    bytesBE 4 (elapsed now e.receipt) ++
    optBytes 4 (fun r : IntentRecord => bytesBE 4 (elapsed now r.receipt)) e.intent

/-- The payload of READ-PEER (R186). -/
def peerPayload (s : State) (address : Nat) : List Byte :=
  match s.pv.entry address with
  | some e => 1 :: entryBytes s.tb e
  | none => [0]

/-! ### READ-FIGURES -/

/-- A frequency that may be INVALID or absent. -/
def freqBytes : Option Nat → List Byte := optBytes 3 (bytesBE 3)

/-- The restore candidate (R89). -/
def candidateBytes : Option Candidate → List Byte :=
  optBytes 8 fun c =>
    [byte c.address, byte c.port, byte c.state.code, byte c.shedRank] ++ bytesBE 2 c.load ++ bytesBE 2 c.coldLoad

/-- The figures record (R89). -/
def figuresBytes (x : Figures) : List Byte :=
  tickBytes x.computedAt ++ bytesBE 2 x.count ++ [byte x.viewSize] ++ freqBytes x.f ++ bytesBE 2 x.ownOutput ++
    bytesBE 2 x.ownAvailable ++ [x.cOn, x.pGen, x.mMin, x.cPend, x.pPv, x.aPv].flatMap (bytesBE 3) ++
    bytesSigned 3 x.reserve ++ bytesBE 3 x.load ++ bytesBE 3 x.requirement ++ candidateBytes x.candidate ++
    bytesBE 3 x.shedDemand ++ flagByte x.startNeed ++ flagByte x.startNeedOther ++ flagByte x.stopPossible ++
    flagByte x.overload ++ bytesSigned 3 x.overloadDemand ++ bytesSigned 3 x.headroom ++ flagByte x.candidateFits ++
    bytesSigned 3 x.allowance ++ bytesSigned 3 x.ownShare

/-- The period mean record (R16) with the means of the configured feeders, which no count precedes (log 16). -/
def meanBytes (s : State) : List Byte :=
  let m := s.mu.mean
  bytesSigned 3 m.src ++ (Port.all.filter s.configured).flatMap (fun p => bytesSigned 3 (m.feeder.get p)) ++
    bytesBE 2 (clamp16 m.avail) ++ freqBytes m.f

/-- A power that may be absent. -/
def powerBytes : Option Int → List Byte := optBytes 3 (bytesSigned 3)

/-- A voltage or an available power that may be absent. -/
def wordBytes : Option Nat → List Byte := optBytes 2 (bytesBE 2)

/-- The period of a cycle result record where it is present and valid (R15, R184). -/
def CycleRecord.validPeriod (r : CycleRecord) : Option Nat := if r.periodValid then r.period else none

/-- A cycle result record (R15). -/
def recordBytes (r : CycleRecord) : List Byte :=
  tickBytes r.endTime ++ [byte r.kind.code] ++ optBytes 3 (bytesBE 3) r.validPeriod ++ [byte r.n] ++
    wordBytes r.busRms ++ wordBytes r.srcRms ++ [byte r.busCondition.code, byte r.srcCondition.code] ++
    powerBytes r.srcPower ++ quadBytes powerBytes r.feederPower ++ wordBytes r.available ++ freqBytes r.fCycle ++
    freqBytes r.f ++ freqBytes r.fSrc ++
    optBytes 6 (fun x : SyncRecord => bytesSigned 2 x.slip ++ bytesSigned 2 x.phase ++ bytesSigned 2 x.predicted) r.sync

/-- How many bytes a cycle result record takes. -/
def recordSize : Nat := 60

/-- The payload of READ-FIGURES (R186). -/
def figuresPayload (s : State) : List Byte :=
  figuresBytes s.be.figures ++ meanBytes s ++ optBytes recordSize recordBytes s.mu.latest

/-! ### READ-PORTS -/

/-- A shed cause that may be absent. -/
def causeBytes : Option ShedCause → List Byte := optBytes 1 fun c => [byte c.code]

/-- A destination: SHED with its cause, or BLACK-OPEN. -/
def destinationBytes : Destination → List Byte
  | .shed c => 0 :: causeBytes (some c)
  | .blackOpen => 1 :: causeBytes none

/-- A port record (R137). -/
def portBytes (r : PortRecord) : List Byte :=
  [byte r.state.code] ++ optBytes 3 destinationBytes r.destination ++ causeBytes r.shedCause ++ tickBytes r.lastChange ++
    bytesBE 2 r.load ++ flagByte r.localHeld ++ flagByte r.closeActive ++ optBytes 3 destinationBytes r.tripOwed ++
    flagByte r.ripe ++ timerByte r.ripeness

/-- A stage record (R142). -/
def stageBytes (x : Stage) : List Byte := byte x.count :: flagByte x.latch

/-- The payload of READ-PORTS (R186); no count precedes the port records (log 16). -/
def portsPayload (s : State) : List Byte :=
  (Port.all.filterMap fun p => (s.port p).map portBytes).flatten ++ quadBytes stageBytes s.fl.stages ++
    listBytes (s.fl.queue.map fun p => [byte p.num]) ++
    optBytes 3 (fun w : Swap => [byte w.openPort.num, byte w.closePort.num, byte w.step.code]) s.fl.swap ++
    flagByte s.fl.qualified ++ timerByte s.fl.spacing ++ timerByte s.fl.overload

/-! ### READ-CONFIG -/

/-- The bytes of a sector as READ-CONFIG names it: the working copy, zeros where there is none, the staging buffer, the calibration
sector (R186). -/
def State.sectorBytes (s : State) : Nat → Option (List Byte)
  | 0 => some (s.cr.working.getD (List.replicate 256 0))
  | 1 => some s.mp.staging
  | 2 => some s.cr.calSector
  | _ => none

/-- The size of a sector (R186). -/
def sectorSize : Nat → Nat
  | 2 => 26
  | _ => 256

/-- The bytes that READ-CONFIG asks for; none where a range check fails (R186). -/
def configBytes (s : State) (sector offset length : Nat) : Option (List Byte) :=
  if 1 ≤ length && length ≤ 64 && offset + length ≤ sectorSize sector then
    (s.sectorBytes sector).map fun l => (l.drop offset).take length
  else none

/-! ### Responses (R184) -/

/-- The result codes (R184). -/
inductive Result where
  | done | refusedService | busy | badRequest | badRange
deriving DecidableEq, Repr

def Result.code : Result → Nat
  | .done => 0
  | .refusedService => 1
  | .busy => 2
  | .badRequest => 3
  | .badRange => 4

/-- The request code (R184); a malformed request keeps the one it came with. -/
def Request.code : Request → Byte
  | .readStation => 1
  | .readPeer _ => 2
  | .readFigures => 3
  | .readPorts => 4
  | .readConfig _ _ _ => 5
  | .writeConfig _ _ _ => 6
  | .commit => 7
  | .clearLockout => 8
  | .restart => 9
  | .malformed code => code

/-- A WRITE-CONFIG whose payload does not fit its code is malformed (R184, R185, log 17). -/
def writeRequest (offset length : Byte) (data : List Byte) : Request :=
  if writePayloadFits length data then .writeConfig offset length data else .malformed 6

/-- The request that a code and a payload spell; malformed where the code is unknown or the payload does not fit it (R184, R185). -/
def requestOf (code : Byte) (payload : List Byte) : Request :=
  match code.toNat, payload with
  | 1, [] => .readStation
  | 2, [a] => .readPeer a
  | 3, [] => .readFigures
  | 4, [] => .readPorts
  | 5, [sector, offset, length] => .readConfig sector offset length
  | 6, offset :: length :: data => writeRequest offset length data
  | 7, [] => .commit
  | 8, [] => .clearLockout
  | 9, [] => .restart
  | _, _ => .malformed code

/-- The payload of a request (R184). -/
def Request.payload : Request → List Byte
  | .readPeer a => [a]
  | .readConfig sector offset length => [sector, offset, length]
  | .writeConfig offset length data => offset :: length :: data
  | _ => []

/-- The characters of a request (R184). -/
def requestChars (r : Request) : List Byte :=
  let body := r.code :: byte r.payload.length :: r.payload
  0xA3 :: body ++ crcBytes body

/-- A character is the 0xA3 that begins a request; one with a framing error begins none (R185, log 17). -/
def beginsRequest (c : LinkChar) : Bool := c.byte == 0xA3 && !c.framing

/-- The first request that characters on the port spell, with the characters that come after its close (R184, R185). What comes before
0xA3 is ignored, and without one there is no request. The request closes with its CRC, or early, where a character carries a framing
error or the characters end; it is malformed, with its code as received or 0, where it closes early or its CRC fails. -/
def readRequest (chars : List LinkChar) : Option (Request × List LinkChar) :=
  match chars.dropWhile (!beginsRequest ·) with
  | [] => none
  | _ :: l =>
    let bytes := (l.takeWhile (!·.framing)).map (·.byte)
    let code := bytes.getD 0 0
    let size := (bytes.getD 1 0).toNat
    let body := bytes.take (size + 2)
    if bytes.length < size + 4 then some (.malformed code, l.drop (bytes.length + 1))
    else if crcBytes body = (bytes.drop (size + 2)).take 2 then some (requestOf code (body.drop 2), l.drop (size + 4))
    else some (.malformed code, l.drop (size + 4))

/-- The characters of a response (R184). -/
def responseChars (code : Byte) (result : Result) (payload : List Byte) : List Byte :=
  let body := code :: byte result.code :: bytesBE 2 payload.length ++ payload
  0xA3 :: body ++ crcBytes body

/-- The answer to a request: its result and payload, and the state it leaves. -/
structure Answer where
  result : Result
  payload : List Byte
  state : State

/-- An answer without a payload. -/
def Answer.of (result : Result) (s : State) : Answer := ⟨result, [], s⟩

/-- WRITE-CONFIG judged (R187). -/
def answerWrite (offset length : Nat) (data : List Byte) (s : State) : Answer :=
  if !s.mayConfigure then .of .refusedService s
  else if s.cr.commit = .running then .of .busy s
  else if length = 0 ∨ 32 < length ∨ 256 < offset + length then .of .badRange s
  else .of .done { s with mp := { s.mp with staging := putBytes s.mp.staging offset data } }

/-- COMMIT judged (R180, R187). -/
def answerCommit (s : State) : Answer :=
  if !s.mayConfigure then .of .refusedService s
  else if s.cr.commit = .running then .of .busy s
  else if !recordValid s.mp.staging then .of .badRequest s
  else .of .done { s with cr := { s.cr with commit := .running } }

/-- CLEAR-LOCKOUT judged (R188). -/
def answerClearLockout (s : State) : Answer :=
  if s.par.station.role ≠ .genset ∨ s.ds.state ≠ some .failed then .of .badRequest s
  else if s.released .srcCb then .of .done (dsClearLockout s)
  else .of .busy s

/-- RESTART judged (R188). -/
def answerRestart (s : State) : Answer :=
  if s.cr.commit = .running then .of .busy s
  else .of .done { s with mp := { s.mp with restartAfter := true } }

/-- A request judged (R186 to R188). -/
def answer (r : Request) (s : State) : Answer :=
  match r with
  | .readStation => ⟨.done, stationPayload s, s⟩
  | .readPeer a =>
    if a = 0 ∨ 32 < a.toNat ∨ a.toNat = s.address then .of .badRange s else ⟨.done, peerPayload s a.toNat, s⟩
  | .readFigures => ⟨.done, figuresPayload s, s⟩
  | .readPorts => ⟨.done, portsPayload s, s⟩
  | .readConfig sector offset length =>
    match configBytes s sector.toNat offset.toNat length.toNat with
    | some l => ⟨.done, l, s⟩
    | none => .of .badRange s
  | .writeConfig offset length data => answerWrite offset.toNat length.toNat data s
  | .commit => answerCommit s
  | .clearLockout => answerClearLockout s
  | .restart => answerRestart s
  | .malformed _ => .of .badRequest s

/-- A request judged, with its response formed whole and begun in the same act (R185). -/
def mpJudge (r : Request) (s : State) : State :=
  let a := answer r s
  { a.state with mp := { a.state.mp with response := some (responseChars r.code a.result a.payload) } }

/-- A request that closes at `t`: judged at once, or kept waiting while a response is being sent, or discarded where it began while the
buffer was occupied (R185). One that finds the buffer occupied at its close began after the request that occupies it. -/
def mpRequest (t : Tick) (r : Request) (s : State) : State :=
  let s := s.stamp t
  if s.mp.discarding then { s with mp := { s.mp with discarding := false } }
  else if s.mp.response.isNone then mpJudge r s
  else if s.mp.waiting.isNone then { s with mp := { s.mp with waiting := some r } } else s

/-- The response in sending ends: a station reset begins where a RESTART was answered, and a request that waits is judged, which frees
the buffer; a further request that is coming in by then began while it was occupied (R185, R188). -/
def mpSent (inRequest : Bool) (s : State) : State :=
  if s.mp.response.isNone then s
  else if s.mp.restartAfter then stationReset .heldByRestart s
  else
    let s := { s with mp := { s.mp with response := none } }
    match s.mp.waiting with
    | some r => mpJudge r { s with mp := { s.mp with waiting := none, discarding := inRequest } }
    | none => s

end Sys2Proof.Machine
end

