-- ==== Sys2Proof/Machine/Command.lean ====
section
/-! DEFINITION. How a command is taken: while the station runs, or at the expiry of a timer. A command that cannot occur in the
state held leaves the state as it is (R21, log 2). -/

namespace Sys2Proof.Machine

/-- What a command answers. -/
abbrev CommandResult := Host.Outcome State Fault Refusal

/-- An effect taken while no reset holds the station (R36). -/
def whileRunning (f : State → State) (s : State) : CommandResult := .next (if s.runs then f s else s)

/-- An effect taken at the expiry of a timer, from the state in which the timer is STOPPED and the time base stands at the expiry
instant (R21). -/
def atExpiry (id : TimerId) (f : State → State) (s : State) : State :=
  match s.expire id with
  | some s' => f s'
  | none => s

/-- A timer's expiry as a command. -/
def onExpiry (id : TimerId) (f : State → State) (s : State) : CommandResult := whileRunning (atExpiry id f) s

end Sys2Proof.Machine
end

