-- ==== Sys2Proof/Machine/ChannelCommands.lean ====
section
/-! DEFINITION. The commands of the time base and action channels (R21, R22, R26, R29, R31). -/

namespace Sys2Proof.Machine

/-- TIMER_SEGMENT_COMPLETE: the remaining duration falls by one segment (R21). -/
def execTimerSegmentComplete (id : TimerId) (s : State) : CommandResult :=
  whileRunning (fun s =>
    match (s.timer id).segment with
    | some (t, rest) => (s.stamp t).putTimer id rest
    | none => s) s

/-- PULSE_TIMER_EXPIRY (R22). -/
def execPulseTimerExpiry (c : PulseChannel) (s : State) : CommandResult := onExpiry (.pulse c) (tacPulseEnded c) s

/-- CONFIRM_TIMER_EXPIRY (R26). -/
def execConfirmTimerExpiry (b : Breaker) (s : State) : CommandResult := onExpiry (.confirm b) (tacNotConfirmed b) s

/-- PWM_PERIOD_START (R29). -/
def execPwmPeriodStart (s : State) : CommandResult := whileRunning tacPwmPeriod s

/-- INPUT_SAMPLE (R31). -/
def execInputSample (levels : InputLevels) (s : State) : CommandResult := whileRunning (tacSample levels) s

/-- INPUT_QUALIFIED (R31). -/
def execInputQualified (i : InputLine) (s : State) : CommandResult := whileRunning (tacQualify i) s

end Sys2Proof.Machine
end

