-- ==== Sys2Proof/Machine/ConfigCommands.lean ====
section
/-! DEFINITION. The commands of configuration and retention (R177, R178, R180). -/

namespace Sys2Proof.Machine

/-- START_UP_LOAD_COMPLETE at `t`, once every input has settled (R177). -/
def execStartUpLoadComplete (t : Tick) (s : State) : CommandResult :=
  whileRunning (fun s => if s.awaitsLoad && s.allSettled then crLoad (s.stamp t) else s) s

/-- SETTLE_LIMIT_EXPIRY: 100 ms after the end of the reset, with an input still UNSETTLED (R177). -/
def execSettleLimitExpiry (s : State) : CommandResult :=
  whileRunning (fun s => if s.awaitsLoad && !s.allSettled then crLoad (s.stamp 1000000) else s) s

/-- INTEGRITY_TIMER_EXPIRY: the timer restarts, and the working copy is checked (R178, log 18). -/
def execIntegrityTimerExpiry (upset : List (Fin 256 × Byte)) (s : State) : CommandResult :=
  onExpiry .integrity (fun s => crIntegrity upset (s.start .integrity (sec 10))) s

/-- COMMIT_COMPLETE at `t`, while a commit is RUNNING (R180). -/
def execCommitComplete (t : Tick) (programmed : Bool) (s : State) : CommandResult :=
  whileRunning (fun s => if s.cr.commit = .running then crCommitEnd programmed (s.stamp t) else s) s

end Sys2Proof.Machine
end

