-- ==== Sys2Proof/Machine/DieselCommands.lean ====
section
/-! DEFINITION. The commands of the balance engine and of the diesel sequencer: the expiries of their timers (R76, R101, R103, R104,
R106, R107, R109, R113, R115, R116). -/

namespace Sys2Proof.Machine

/-- BALANCE_PERIOD_EXPIRY (R76, R77). -/
def execBalancePeriodExpiry (s : State) : CommandResult := onExpiry .balance beExpired s

/-- WINDOW_TIMER_EXPIRY (R104, R114). -/
def execWindowTimerExpiry (s : State) : CommandResult := onExpiry .window dsWindowExpired s

/-- HOLDOFF_TIMER_EXPIRY: the timer is STOPPED, and the start judgement resumes at the next figures (R103). -/
def execHoldoffTimerExpiry (s : State) : CommandResult :=
  onExpiry .holdoff (fun s => { s with ds := { s.ds with needSince := none } }) s

/-- LOSS_TIMER_EXPIRY: the timer is STOPPED, and the start delay counts again (R101). -/
def execLossTimerExpiry (s : State) : CommandResult := onExpiry .loss id s

/-- STOP_TIMER_EXPIRY (R113). -/
def execStopTimerExpiry (s : State) : CommandResult := onExpiry .stop dsStopExpired s

/-- REST_TIMER_EXPIRY (R106). -/
def execRestTimerExpiry (s : State) : CommandResult := onExpiry .rest dsRestExpired s

/-- SPOOL_TIMER_EXPIRY (R107). -/
def execSpoolTimerExpiry (s : State) : CommandResult := onExpiry .spool dsSpoolExpired s

/-- SYNC_TIMEOUT_EXPIRY (R109). -/
def execSyncTimeoutExpiry (s : State) : CommandResult := onExpiry .sync dsSyncExpired s

/-- UNLOAD_TIMER_EXPIRY (R115). -/
def execUnloadTimerExpiry (s : State) : CommandResult := onExpiry .unload dsUnloadExpired s

/-- COOLDOWN_TIMER_EXPIRY (R116). -/
def execCooldownTimerExpiry (s : State) : CommandResult := onExpiry .cooldown dsCooldownExpired s

end Sys2Proof.Machine
end

