-- ==== Sys2Proof/Machine/FeederCommands.lean ====
section
/-! DEFINITION. The commands of the feeder ladder: the expiries of its timers (R146, R147, R148, R151). -/

namespace Sys2Proof.Machine

/-- RIPENESS_TIMER_EXPIRY (R151). -/
def execRipenessTimerExpiry (p : Port) (s : State) : CommandResult :=
  onExpiry (.ripeness p) (fun s => s.modifyPort p fun r => { r with ripe := true }) s

/-- RESTORE_QUALIFICATION_TIMER_EXPIRY (R147). -/
def execRestoreQualificationTimerExpiry (s : State) : CommandResult :=
  onExpiry .restoreQual (fun s => { s with fl := { s.fl with qualified := true } }) s

/-- STEP_SPACING_TIMER_EXPIRY: the timer is STOPPED (R148). -/
def execStepSpacingTimerExpiry (s : State) : CommandResult := onExpiry .stepSpacing id s

/-- OVERLOAD_TIMER_EXPIRY (R146). -/
def execOverloadTimerExpiry (s : State) : CommandResult := onExpiry .overload flOverloadExpired s

end Sys2Proof.Machine
end

