-- ==== Sys2Proof/Machine/IslandCommands.lean ====
section
/-! DEFINITION. The commands of the black start coordinator: the expiries of its timers and the edges of PERMIT (R35, R159, R162,
R167 to R171). -/

namespace Sys2Proof.Machine

/-- The pin PERMIT with the others' drive of it from `t` on; the pin has its level within a reset too (R35, log 9). -/
def State.othersDrive (s : State) (t : Tick) (pulled : Bool) : State :=
  { s.stampRunning t with tac := { s.tac with permitOthers := pulled } }

/-- PERMIT_FALLING_EDGE (R35, R167, log 9). The fall that the own PULL makes is reported after the session has left WAITING, and the
BSC does not act on it. -/
def execPermitFallingEdge (t : Tick) (own : Bool) (s : State) : CommandResult :=
  .next (
    if own then s.stampRunning t
    else if s.runs && !s.permitLow && s.tac.permitEdges then bscFall (s.othersDrive t true)
    else s.othersDrive t true)

/-- PERMIT_RISING_EDGE (R167, R168, log 9). -/
def execPermitRisingEdge (t : Tick) (s : State) : CommandResult :=
  let u := s.othersDrive t false
  .next (if s.runs && s.permitLow && !u.permitLow then bscRise u else u)

/-- DEAD_TIMER_EXPIRY (R159). -/
def execDeadTimerExpiry (s : State) : CommandResult := onExpiry .dead bscDeadExpired s

/-- RECOVER_TIMER_EXPIRY (R162). -/
def execRecoverTimerExpiry (s : State) : CommandResult := onExpiry .recover bscRecoverExpired s

/-- GUARD_TIMER_EXPIRY (R167). -/
def execGuardTimerExpiry (s : State) : CommandResult := onExpiry .guard bscGuardExpired s

/-- STUCK_TIMER_EXPIRY (R168). -/
def execStuckTimerExpiry (s : State) : CommandResult := onExpiry .stuck bscStuckExpired s

/-- SLOT_TIMER_EXPIRY, with what the others do to the line at that instant (R169, R170). -/
def execSlotTimerExpiry (othersLow : Bool) (s : State) : CommandResult :=
  onExpiry .slot (fun s => bscSlotExpired { s with tac := { s.tac with permitOthers := othersLow } }) s

/-- HOLD_TIMER_EXPIRY (R171). -/
def execHoldTimerExpiry (s : State) : CommandResult := onExpiry .hold bscHoldExpired s

/-- LIVE_WAIT_TIMER_EXPIRY (R171). -/
def execLiveWaitTimerExpiry (s : State) : CommandResult := onExpiry .liveWait bscHoldExpired s

end Sys2Proof.Machine
end

