-- ==== Sys2Proof/Machine/LinkCommands.lean ====
section
/-! DEFINITION. The commands of the island link and of the peer view (R37, R44, R47 to R51, R56, R63). -/

namespace Sys2Proof.Machine

/-- CHARACTER_RECEIVED (R37, R38, R48, R51). -/
def execCharacterReceived (fall : Tick) (samples : BitVec 10) (s : State) : CommandResult :=
  whileRunning (ilcCharacter fall samples) s

/-- FIRST_END_IDLE (R51). -/
def execFirstEndIdle (s : State) : CommandResult := whileRunning ilcFirstEndIdle s

/-- BURST_CLOSE (R51 to R54). -/
def execBurstClose (s : State) : CommandResult := whileRunning ilcBurstClose s

/-- STATUS_TIMER_EXPIRY (R43, R44). -/
def execStatusTimerExpiry (s : State) : CommandResult := onExpiry .status ilcStatusDue s

/-- ATTEMPT_START (R47). -/
def execAttemptStart (s : State) : CommandResult := whileRunning ilcAttempt s

/-- COLLISION (R48, R49, R55). -/
def execCollision (noEcho : Bool) (s : State) : CommandResult := whileRunning (ilcCollision noEcho) s

/-- ATTEMPT_SUCCESS (R50). -/
def execAttemptSuccess (s : State) : CommandResult := whileRunning ilcSucceed s

/-- DISABLE_DRIVER_RELEASE (R56). -/
def execDisableDriverRelease (s : State) : CommandResult := whileRunning ilcRelease s

/-- STALE_TIMER_EXPIRY (R63, R69). -/
def execStaleTimerExpiry (address : Nat) (s : State) : CommandResult := onExpiry (.stale address) (pvStaleExpired address) s

/-- An entry of the address stands in the table and is STALE. -/
def State.staleEntry (s : State) (address : Nat) : Bool := ((s.pv.entry address).map (!·.fresh)).getD false

/-- REMOVAL_TIMER_EXPIRY: the entry, STALE by then, is removed (R63). -/
def execRemovalTimerExpiry (address : Nat) (s : State) : CommandResult :=
  whileRunning (fun s =>
    if s.staleEntry address then atExpiry (.removal address) (fun s => { s with pv := s.pv.remove address }) s else s) s

end Sys2Proof.Machine
end

