-- ==== Sys2Proof/Machine/MeasureCommands.lean ====
section
/-! DEFINITION. The commands of the measurement unit (R1, R4, R5, R7, R14). -/

namespace Sys2Proof.Machine

/-- SCAN (R3, R4). -/
def execScan (levels : AnalogLevels) (s : State) : CommandResult :=
  whileRunning (fun s => if s.mu.started then muScan levels s else s) s

/-- C0_CAPTURE: a capture is a boundary, discarded before the unit has started (R1, R5, R28). A rise that is no capture leaves what
the swing made of the comparator's output. -/
def execC0Capture (rise : Rise) (s : State) : CommandResult :=
  whileRunning (fun s =>
    if s.busCapture rise.swing then
      let s := { s.stamp rise.time with tac := { s.tac with c0High := true } }
      if s.mu.started then muBoundary rise.time .capture s else s
    else { s with tac := { s.tac with c0High := s.afterFall s.tac.c0High rise.swing } }) s

/-- SYNTHETIC_TIMEOUT_EXPIRY: a synthetic boundary (R7). -/
def execSyntheticTimeoutExpiry (s : State) : CommandResult :=
  onExpiry .synthetic (fun s => muBoundary s.tb .synthetic s) s

/-- C1_CAPTURE: a capture acts on the source window (R14) and is discarded before the unit has started (R1); a rise that is no capture
leaves what the swing made of the comparator's output (R28). -/
def execC1Capture (rise : Rise) (s : State) : CommandResult :=
  whileRunning (fun s =>
    if s.sourceCapture rise.swing then
      let s := { s.stamp rise.time with tac := { s.tac with c1High := true } }
      if s.mu.started then muSourceCapture rise.time s else s
    else { s with tac := { s.tac with c1High := s.afterFall s.tac.c1High rise.swing } }) s

/-- SOURCE_TIMEOUT_EXPIRY (R14). -/
def execSourceTimeoutExpiry (s : State) : CommandResult := onExpiry .source muSourceTimeout s

end Sys2Proof.Machine
end

