-- ==== Sys2Proof/Machine/PortCommands.lean ====
section
/-! DEFINITION. The commands of the maintenance port (R184 to R188). -/

namespace Sys2Proof.Machine

/-- READ_STATION (R186). -/
def execReadStation (t : Tick) (s : State) : CommandResult := whileRunning (mpRequest t .readStation) s

/-- READ_PEER (R186). -/
def execReadPeer (t : Tick) (address : Byte) (s : State) : CommandResult := whileRunning (mpRequest t (.readPeer address)) s

/-- READ_FIGURES (R186). -/
def execReadFigures (t : Tick) (s : State) : CommandResult := whileRunning (mpRequest t .readFigures) s

/-- READ_PORTS (R186). -/
def execReadPorts (t : Tick) (s : State) : CommandResult := whileRunning (mpRequest t .readPorts) s

/-- READ_CONFIG (R186). -/
def execReadConfig (t : Tick) (sector offset length : Byte) (s : State) : CommandResult :=
  whileRunning (mpRequest t (.readConfig sector offset length)) s

/-- WRITE_CONFIG (R187). -/
def execWriteConfig (t : Tick) (offset length : Byte) (data : List Byte) (s : State) : CommandResult :=
  whileRunning (mpRequest t (writeRequest offset length data)) s

/-- COMMIT (R180, R187). -/
def execCommit (t : Tick) (s : State) : CommandResult := whileRunning (mpRequest t .commit) s

/-- CLEAR_LOCKOUT (R188). -/
def execClearLockout (t : Tick) (s : State) : CommandResult := whileRunning (mpRequest t .clearLockout) s

/-- RESTART (R188). -/
def execRestart (t : Tick) (s : State) : CommandResult := whileRunning (mpRequest t .restart) s

/-- MALFORMED_REQUEST (R185). -/
def execMalformedRequest (t : Tick) (code : Byte) (s : State) : CommandResult := whileRunning (mpRequest t (.malformed code)) s

/-- REQUEST_GAP_TIMEOUT: a request closed early by 5 ms without a character (R185). -/
def execRequestGapTimeout (t : Tick) (code : Byte) (s : State) : CommandResult := whileRunning (mpRequest t (.malformed code)) s

/-- RESPONSE_SENT (R185, R188). -/
def execResponseSent (sent : ResponseEnd) (s : State) : CommandResult :=
  whileRunning (fun s => if s.mp.response.isSome then mpSent sent.inRequest (s.stamp sent.time) else s) s

end Sys2Proof.Machine
end

