-- ==== Sys2Proof/Machine/ResetCommands.lean ====
section
/-! DEFINITION. The commands of the resets and the standby supply (R20, R32, R36, R181, R188). -/

namespace Sys2Proof.Machine

/-- POWER_ON_RESET: a whole power-on reset, to its end (R36, R181, log 3). -/
def execPowerOnReset (straps : BitVec 5) (s : State) : CommandResult := .next (resetEnd straps (resetAll true s))

/-- STATION_RESET: the RESET line is asserted (R36, R181). -/
def execStationReset (t : Tick) (s : State) : CommandResult :=
  .next (if s.phase = .heldByLine then s else stationReset .heldByLine (s.stamp t))

/-- RESET_RELEASE: the station reset of the RESET line ends (R20, R32, R36). -/
def execResetRelease (straps : BitVec 5) (s : State) : CommandResult :=
  .next (if s.phase = .heldByLine then resetEnd straps s else s)

/-- RESTART_RESET_END: the 1 ms reset of a RESTART request ends (R20, R32, R36). -/
def execRestartResetEnd (straps : BitVec 5) (s : State) : CommandResult :=
  .next (if s.phase = .heldByRestart then resetEnd straps s else s)

/-- STANDBY_SUPPLY_LOST: the standby flag becomes LOST (R181). -/
def execStandbySupplyLost (t : Tick) (s : State) : CommandResult :=
  .next { s.stampRunning t with ret := { s.ret with intact := false } }

end Sys2Proof.Machine
end

