-- ==== Sys2Proof/Machine/Dispatch.lean ====
section
/-! DEFINITION. The meaning of every command: one arm a constructor of `Instr`. -/

namespace Sys2Proof.Machine

def exec (i : Instr) (s : State) : Host.Outcome State Fault Refusal :=
  match i with
  | .powerOnReset straps => Sys2Proof.Machine.execPowerOnReset straps s
  | .stationReset t => Sys2Proof.Machine.execStationReset t s
  | .resetRelease straps => Sys2Proof.Machine.execResetRelease straps s
  | .restartResetEnd straps => Sys2Proof.Machine.execRestartResetEnd straps s
  | .standbySupplyLost t => Sys2Proof.Machine.execStandbySupplyLost t s
  | .timerSegmentComplete id => Sys2Proof.Machine.execTimerSegmentComplete id s
  | .startUpLoadComplete t => Sys2Proof.Machine.execStartUpLoadComplete t s
  | .settleLimitExpiry => Sys2Proof.Machine.execSettleLimitExpiry s
  | .scan levels => Sys2Proof.Machine.execScan levels s
  | .c0Capture rise => Sys2Proof.Machine.execC0Capture rise s
  | .syntheticTimeoutExpiry => Sys2Proof.Machine.execSyntheticTimeoutExpiry s
  | .c1Capture rise => Sys2Proof.Machine.execC1Capture rise s
  | .sourceTimeoutExpiry => Sys2Proof.Machine.execSourceTimeoutExpiry s
  | .pulseTimerExpiry c => Sys2Proof.Machine.execPulseTimerExpiry c s
  | .confirmTimerExpiry b => Sys2Proof.Machine.execConfirmTimerExpiry b s
  | .pwmPeriodStart => Sys2Proof.Machine.execPwmPeriodStart s
  | .inputQualified line => Sys2Proof.Machine.execInputQualified line s
  | .permitFallingEdge t own => Sys2Proof.Machine.execPermitFallingEdge t own s
  | .permitRisingEdge t => Sys2Proof.Machine.execPermitRisingEdge t s
  | .burstClose => Sys2Proof.Machine.execBurstClose s
  | .statusTimerExpiry => Sys2Proof.Machine.execStatusTimerExpiry s
  | .attemptStart => Sys2Proof.Machine.execAttemptStart s
  | .collision noEcho => Sys2Proof.Machine.execCollision noEcho s
  | .attemptSuccess => Sys2Proof.Machine.execAttemptSuccess s
  | .disableDriverRelease => Sys2Proof.Machine.execDisableDriverRelease s
  | .staleTimerExpiry address => Sys2Proof.Machine.execStaleTimerExpiry address s
  | .removalTimerExpiry address => Sys2Proof.Machine.execRemovalTimerExpiry address s
  | .balancePeriodExpiry => Sys2Proof.Machine.execBalancePeriodExpiry s
  | .windowTimerExpiry => Sys2Proof.Machine.execWindowTimerExpiry s
  | .holdoffTimerExpiry => Sys2Proof.Machine.execHoldoffTimerExpiry s
  | .lossTimerExpiry => Sys2Proof.Machine.execLossTimerExpiry s
  | .stopTimerExpiry => Sys2Proof.Machine.execStopTimerExpiry s
  | .restTimerExpiry => Sys2Proof.Machine.execRestTimerExpiry s
  | .spoolTimerExpiry => Sys2Proof.Machine.execSpoolTimerExpiry s
  | .syncTimeoutExpiry => Sys2Proof.Machine.execSyncTimeoutExpiry s
  | .unloadTimerExpiry => Sys2Proof.Machine.execUnloadTimerExpiry s
  | .cooldownTimerExpiry => Sys2Proof.Machine.execCooldownTimerExpiry s
  | .ripenessTimerExpiry p => Sys2Proof.Machine.execRipenessTimerExpiry p s
  | .restoreQualificationTimerExpiry => Sys2Proof.Machine.execRestoreQualificationTimerExpiry s
  | .stepSpacingTimerExpiry => Sys2Proof.Machine.execStepSpacingTimerExpiry s
  | .overloadTimerExpiry => Sys2Proof.Machine.execOverloadTimerExpiry s
  | .deadTimerExpiry => Sys2Proof.Machine.execDeadTimerExpiry s
  | .recoverTimerExpiry => Sys2Proof.Machine.execRecoverTimerExpiry s
  | .guardTimerExpiry => Sys2Proof.Machine.execGuardTimerExpiry s
  | .stuckTimerExpiry => Sys2Proof.Machine.execStuckTimerExpiry s
  | .slotTimerExpiry othersLow => Sys2Proof.Machine.execSlotTimerExpiry othersLow s
  | .holdTimerExpiry => Sys2Proof.Machine.execHoldTimerExpiry s
  | .liveWaitTimerExpiry => Sys2Proof.Machine.execLiveWaitTimerExpiry s
  | .integrityTimerExpiry upset => Sys2Proof.Machine.execIntegrityTimerExpiry upset s
  | .commitComplete t programmed => Sys2Proof.Machine.execCommitComplete t programmed s
  | .readStation t => Sys2Proof.Machine.execReadStation t s
  | .readPeer t address => Sys2Proof.Machine.execReadPeer t address s
  | .readFigures t => Sys2Proof.Machine.execReadFigures t s
  | .readPorts t => Sys2Proof.Machine.execReadPorts t s
  | .readConfig t sector offset length => Sys2Proof.Machine.execReadConfig t sector offset length s
  | .writeConfig t offset length data => Sys2Proof.Machine.execWriteConfig t offset length data s
  | .commit t => Sys2Proof.Machine.execCommit t s
  | .clearLockout t => Sys2Proof.Machine.execClearLockout t s
  | .restart t => Sys2Proof.Machine.execRestart t s
  | .malformedRequest t code => Sys2Proof.Machine.execMalformedRequest t code s
  | .requestGapTimeout t code => Sys2Proof.Machine.execRequestGapTimeout t code s
  | .responseSent sent => Sys2Proof.Machine.execResponseSent sent s
  | .characterReceived fall samples => Sys2Proof.Machine.execCharacterReceived fall samples s
  | .firstEndIdle => Sys2Proof.Machine.execFirstEndIdle s
  | .inputSample levels => Sys2Proof.Machine.execInputSample levels s

end Sys2Proof.Machine
end

