-- ==== Sys2Proof/Machine/Step.lean ====
section
/-! DEFINITION. One step of the station: the command at the front of the queue, or one tick of the time base. -/

namespace Sys2Proof.Machine

/-- A tick of the time base with nothing else at it; while a reset holds the station the time base stands (R20, log 1). -/
def State.tick (s : State) : State := if s.runs then { s with tb := s.tb + 1 } else s

/-- One step: the front command on the state with the rest of the queue. On an empty queue a tick passes (log 1). -/
def step (s : State) : Host.Outcome State Fault Refusal :=
  match s.pending with
  | c :: rest => exec c { s with pending := rest }
  | [] => .next s.tick

/-- The state with the command that a word spells put at the front of its queue; the state unchanged where it spells none. -/
def State.withFetchWord (s : State) (nbits w : Nat) : State :=
  match decodeTableWord nbits w with
  | some c => { s with pending := c :: s.pending }
  | none => s

end Sys2Proof.Machine
end

