-- ==== Sys2Proof/Safety.lean ====
section
/-! DEFINITION. What counts as a safe state of the station, and the words in which claims about commands are stated. -/

namespace Sys2Proof.Machine

/-! ### Invariants -/

/-- The close and the trip channel of a breaker are not both ACTIVE (R24). -/
def State.pairExclusive (s : State) (b : Breaker) : Prop :=
  ¬ ((s.pulse (closeChannel b)).isActive = true ∧ (s.pulse (tripChannel b)).isActive = true)

/-- No breaker's close and trip channels are both ACTIVE (R24). -/
def State.pairsExclusive (s : State) : Prop := ∀ b, s.pairExclusive b

/-- The bias lies in −1000 to +1000 and is the PWM value written, the value in use lies in the same range, and the cap output stage
holds the cap code of the solar record, 0 to 4095 (R29, R30, R98, R133). -/
def State.outputsFollow (s : State) : Prop :=
  (-1000 ≤ s.ds.bias ∧ s.ds.bias ≤ 1000) ∧ s.tac.pwm = s.ds.bias ∧
    (-1000 ≤ s.tac.pwmInUse ∧ s.tac.pwmInUse ≤ 1000) ∧ s.tac.capCode = s.sc.code ∧ s.sc.code ≤ 4095

/-- A feeder record of an entry lies in the ranges of R60. -/
def FeederRecord.inRange (r : FeederRecord) : Prop :=
  (1 ≤ r.port ∧ r.port ≤ 4) ∧ (1 ≤ r.shedRank ∧ r.shedRank ≤ 255) ∧ r.load ≤ 65535

/-- An entry's fields lie in the ranges of R60; the rank of its intent record may be 0 too (log 46). -/
def Entry.inRange (e : Entry) : Prop :=
  (1 ≤ e.address ∧ e.address ≤ 32) ∧ (2 ≤ e.interval ∧ e.interval ≤ 20) ∧ e.rating ≤ 65535 ∧ e.output ≤ 65535 ∧
    e.minOrAvail ≤ 65535 ∧ e.startRank ≤ 32 ∧
    (∀ r, e.intent = some r → r.rank ≤ 32 ∧ r.rating ≤ 65535) ∧
    e.feeders.Pairwise (fun a b => a.port < b.port) ∧ ∀ r ∈ e.feeders, r.inRange

/-- The peer table holds at most 31 entries in ascending address order, each of another station and in its ranges, and none while a
reset holds the station (R59, R60, R74). -/
def State.tableFormed (s : State) : Prop :=
  s.pv.table.length ≤ 31 ∧ s.pv.table.Pairwise (fun a b => a.address < b.address) ∧
    (∀ e ∈ s.pv.table, e.inRange ∧ e.address ≠ s.address) ∧ (s.runs = false → s.pv.table = [])

/-- A window of periods holds at most four, each in the valid band (R10, R14). -/
def windowOk (w : List Nat) : Prop := w.length ≤ 4 ∧ ∀ p ∈ w, 142857 ≤ p ∧ p ≤ 250000

/-- Both frequency windows hold at most four valid periods (R10, R14). -/
def State.windowsOk (s : State) : Prop := windowOk s.mu.window ∧ windowOk s.mu.srcWindow

/-- The address lies in 1 to 32, and the random generator does not hold 0 (R32, R45). -/
def State.generatorOk (s : State) : Prop := (1 ≤ s.address ∧ s.address ≤ 32) ∧ s.ilc.random ≠ some 0

/-- The mode FAULT cause stands in the ALARM cause set exactly in mode FAULT, and the address-conflict cause exactly while the
conflict flag and the conflict indication are set (R34, R54, R70, R179). -/
def State.causesShown (s : State) : Prop :=
  (s.tac.alarm.modeFault = true ↔ s.cr.mode = .fault) ∧ s.tac.alarm.addressConflict = s.ilc.conflict ∧
    s.pv.conflict = s.ilc.conflict

/-- The transmitter is enabled and the status timer runs exactly where R56's table says so, and a DISABLED transmitter has an empty
queue (R56). -/
def State.senderFollows (s : State) : Prop :=
  s.ilc.transmitter.enabled = (s.ilc.started && s.maySend) ∧ s.ilc.status.isRunning = s.ilc.transmitter.enabled ∧
    (s.ilc.transmitter.enabled = false → s.ilc.slots = .empty)

/-- The cap stands at 0 in DEAD-WAIT and DARK, in STARTUP and FAULT, and at a station without a source state (R131, R132, R135). -/
def State.capHeld (s : State) : Prop :=
  s.bsc.island = some .deadWait ∨ s.bsc.island = some .dark ∨ s.cr.mode = .startup ∨ s.cr.mode = .fault ∨ s.sc.state = none →
    s.sc.finalCap = 0 ∧ s.sc.lastCap = 0

/-- PERMIT is pulled only from START to HOLD, each session timer runs only in its phases, the guard timer never beside the stuck timer
or flag, edge reports are on in every phase but IDLE, and the permit-stuck cause stands with the flag, in WAITING alone (R166 to
R173). -/
def State.sessionFormed (s : State) : Prop :=
  let x := s.bsc.session
  (s.tac.permitPull = true → x.phase = .start ∨ x.phase = .bits ∨ x.phase = .close ∨ x.phase = .hold) ∧
    (s.tac.permitEdges = true ↔ x.phase ≠ .idle) ∧
    (x.guard.isRunning = true ∨ x.stuck.isRunning = true → x.phase = .waiting) ∧
    (x.guard.isRunning = true → x.stuck.isRunning = false ∧ x.stuckFlag = false) ∧
    (x.slot.isRunning = true → x.phase = .start ∨ x.phase = .bits) ∧
    (x.hold.isRunning = true ∨ x.liveWait.isRunning = true → x.phase = .hold) ∧
    s.tac.alarm.permitStuck = x.stuckFlag ∧ (x.stuckFlag = true → x.phase = .waiting)

/-- FAILED keeps the lockout and the RUN latch CLEAR, its cause stands in the ALARM cause set exactly in FAILED, and the DS holds no
state in STARTUP (R34, R97, R119). -/
def State.failedLocked (s : State) : Prop :=
  (s.tac.alarm.dieselFailed = true ↔ s.ds.state = some .failed) ∧
    (s.ds.state = some .failed → s.ret.lockout = true ∧ s.ret.run = false) ∧ (s.cr.mode = .startup → s.ds.state = none)

/-- The retention record holds the state and the shed cause of each port, a destination stands exactly in OPENING, a shed cause
exactly in SHED, and the FAULTED cause exactly for a FAULTED port (R137, R139, R181). -/
def State.portsShown (s : State) : Prop :=
  (∀ p r, s.port p = some r → s.ret.ports.get p = some (r.state, r.shedCause) ∧
    (r.destination.isSome = true ↔ r.state = .opening) ∧ (r.shedCause.isSome = true ↔ r.state = .shed)) ∧
    ∀ p, s.tac.alarm.portFaulted.get p = true ↔ s.portState p = some .faulted

/-- At most one port is CLOSING or has a close active (R149). -/
def State.oneCloseInFlight (s : State) : Prop :=
  ∀ p q x y, s.port p = some x → s.port q = some y → x.state = .closing ∨ x.closeActive = true →
    y.state = .closing ∨ y.closeActive = true → p = q

/-! ### Words for claims -/

/-- The station runs, and a timer of it expires at an instant (R21). -/
def State.due (s : State) (id : TimerId) (t : Tick) : Prop := s.runs = true ∧ (s.timer id).expiry = some t

/-- The station runs, and the latest sample of an input completed a run at a level not yet qualified (R31). -/
def State.qualifies (s : State) (i : InputLine) (level : Bool) : Prop :=
  s.runs = true ∧ (s.tac.inputs.get i).due = true ∧ (s.tac.inputs.get i).sample = some level

/-- A command closes the open cycle at an instant: a capture on V_BUS (R5, R28), or the synthetic timeout's expiry (R7). -/
def State.closesCycle (s : State) (c : Instr) (t : Tick) : Prop :=
  s.runs = true ∧ s.mu.started = true ∧
    ((∃ x, c = .c0Capture ⟨t, x⟩ ∧ s.busCapture x = true) ∨ c = .syntheticTimeoutExpiry ∧ s.mu.synthetic.expiry = some t)

/-- The state with everything blotted out that a job may write: the records of the jobs, retention, the pulse channels, windows and
lines, and the waiting frames. -/
def State.kept (s : State) : State :=
  { s with
    tac := { s.tac with
      srcClose := .idle, srcTrip := .idle, crank := .idle, feederClose := .all .idle, feederTrip := .all .idle,
      srcWindow := .closedOut, feederWindow := .all .closedOut, pwm := 0, capCode := 0, alarm := .empty,
      permitPull := false, permitEdges := false }
    ret := .cleared
    ilc := { s.ilc with slots := .empty }
    ds := .reset
    sc := .reset
    fl := .reset
    bsc := .reset }

/-- The commands that act whether or not a reset holds the station: the resets, their ends, the loss of the standby supply, and the
edges of the pin PERMIT. -/
def actsInReset : Instr → Bool
  | .powerOnReset _ | .stationReset _ | .resetRelease _ | .restartResetEnd _ | .standbySupplyLost _ | .permitFallingEdge _ _
  | .permitRisingEdge _ => true
  | _ => false

/-- The timer at whose expiry a command happens (R21). -/
def expiryOf : Instr → Option TimerId
  | .syntheticTimeoutExpiry => some .synthetic
  | .sourceTimeoutExpiry => some .source
  | .pulseTimerExpiry c => some (.pulse c)
  | .confirmTimerExpiry b => some (.confirm b)
  | .statusTimerExpiry => some .status
  | .staleTimerExpiry a => some (.stale a)
  | .removalTimerExpiry a => some (.removal a)
  | .balancePeriodExpiry => some .balance
  | .windowTimerExpiry => some .window
  | .holdoffTimerExpiry => some .holdoff
  | .lossTimerExpiry => some .loss
  | .stopTimerExpiry => some .stop
  | .restTimerExpiry => some .rest
  | .spoolTimerExpiry => some .spool
  | .syncTimeoutExpiry => some .sync
  | .unloadTimerExpiry => some .unload
  | .cooldownTimerExpiry => some .cooldown
  | .ripenessTimerExpiry p => some (.ripeness p)
  | .restoreQualificationTimerExpiry => some .restoreQual
  | .stepSpacingTimerExpiry => some .stepSpacing
  | .overloadTimerExpiry => some .overload
  | .deadTimerExpiry => some .dead
  | .recoverTimerExpiry => some .recover
  | .guardTimerExpiry => some .guard
  | .stuckTimerExpiry => some .stuck
  | .slotTimerExpiry _ => some .slot
  | .holdTimerExpiry => some .hold
  | .liveWaitTimerExpiry => some .liveWait
  | .integrityTimerExpiry _ => some .integrity
  | _ => none

/-- The chain of a frame as the receiver takes it: the characters without framing errors. -/
def cleanBurst (chars : List Byte) : List LinkChar := chars.map fun b => ⟨b, false⟩

/-- A STATUS payload's fields lie in the ranges of R41. -/
def StatusMsg.wf (m : StatusMsg) : Prop :=
  (2 ≤ m.interval ∧ m.interval ≤ 20) ∧ m.rating ≤ 65535 ∧ m.output ≤ 65535 ∧ m.minOrAvail ≤ 65535 ∧
    (if m.role = .genset then 1 ≤ m.startRank ∧ m.startRank ≤ 32 else m.startRank = 0) ∧
    m.feeders.Pairwise (fun a b => a.port < b.port) ∧
    ∀ r ∈ m.feeders, (1 ≤ r.port ∧ r.port ≤ 4) ∧ (1 ≤ r.shedRank ∧ r.shedRank ≤ 255) ∧ r.load ≤ 65535

end Sys2Proof.Machine
end

