-- ==== Sys2Proof/Certificates/Slice0/Obligations.lean ====
section
/-! DEFINITION. The statements about the E540 for the provers: what its commands do, by the numbered rules of the spec, and what every
step keeps. A clause that rests on a choice of the model names the log entry. -/

open Sys2Proof Sys2Proof.Machine

/-! ### The queue, the resets and the timers -/

/-- A step on a queue with a command in front is the meaning of that command on the state with the rest of the queue. -/
def Obligations.StepTakesFrontCommand : Prop :=
  ∀ (c : Instr) (rest : List Instr) (s : State), s.pending = c :: rest → step s = exec c { s with pending := rest }

/-- The model's choices (log 1, log 2, log 9, log 20): on an empty queue one tick of the time base passes, and under a reset none; a command
that cannot occur leaves the state as it is, be it any but those of the resets, the standby supply and the pin PERMIT while a reset holds
the station, or the expiry of a timer that does not expire. -/
def Obligations.IdleAndImpossibleLeaveState : Prop :=
  (∀ s : State, s.pending = [] →
    (s.phase = .running → step s = .next { s with tb := s.tb + 1 }) ∧ (s.phase ≠ .running → step s = .next s)) ∧
  ∀ (c : Instr) (s : State),
    (s.phase ≠ .running → actsInReset c = false → exec c s = .next s) ∧
      (∀ id, expiryOf c = some id → (s.timer id).expiry = none → exec c s = .next s)

/-- Nothing the spec gives the E540 stops it: every command answers a next state in every state (log 21), and only the commands of the two
resets read the address anew (R32). That the address keeps its value while a reset lasts is the model's choice (log 25). -/
def Obligations.EveryCommandAnswersNext : Prop :=
  ∀ (c : Instr) (s : State), ∃ t, exec c s = .next t ∧
    ((∀ straps, c ≠ .powerOnReset straps ∧ c ≠ .resetRelease straps ∧ c ≠ .restartResetEnd straps) → t.address = s.address)

/-- What the two resets leave (R20, R32, R36, R58, R74, R95, R122, R135, R156, R173, R181): every block at its reset values, the two
sectors and the retention record as they are kept, the RUN latch CLEAR after power-on, a commit in progress spoilt; and at the end of a
reset the time base starts from 0 and the straps give the address. The loss of the standby supply marks the retention record. The model's
choices in it: RESET while the line holds, and the end of a reset that does not hold, leave the state (log 20); the time base and the
address within a reset (log 25); the others' pull of PERMIT kept (log 9); a power-on reset as one command (log 3, log 26); the bytes of a
spoilt sector (log 8); the fields of `State.reset` whose value the reset rules do not give (log 32); the first sample instant (log 7). -/
def Obligations.ResetsLeaveResetState : Prop :=
  ∀ (straps : BitVec 5) (t : Tick) (s : State),
    let broken := s.cr.commit = .running
    let after (u : State) : State :=
      { u with
        tac := { Tac.reset with permitOthers := s.tac.permitOthers }
        ret := if s.ret.intact then { s.ret with valid := true } else Retention.cleared
        cr := Cr.reset (if broken then brokenSector s.freeCount else s.cr.sector) s.cr.calSector
        freeCount := if broken then s.freeCount + 1 else s.freeCount
        pending := s.pending }
    exec (.powerOnReset straps) s =
        .next { after State.reset with address := straps.toNat + 1, ret := { (after State.reset).ret with run := false } } ∧
      (s.phase ≠ .heldByLine →
        exec (.stationReset t) s = .next { after State.reset with
          phase := .heldByLine, address := s.address, tb := t }) ∧
      (s.phase = .heldByLine → exec (.stationReset t) s = .next s) ∧
      (∀ c, (c = .resetRelease straps ∧ s.phase = .heldByLine ∨ c = .restartResetEnd straps ∧ s.phase = .heldByRestart) →
        exec c s = .next { s with phase := .running, tb := 0, address := straps.toNat + 1 }) ∧
      (∀ c, (c = .resetRelease straps ∧ s.phase ≠ .heldByLine ∨ c = .restartResetEnd straps ∧ s.phase ≠ .heldByRestart) →
        exec c s = .next s) ∧
      exec (.standbySupplyLost t) s =
        .next { s with tb := if s.phase = .running then t else s.tb, ret := { s.ret with intact := false } }

/-- A timer with more than 1,000,000,000 ticks to run completes a segment when the time base reaches the segment start plus that many: its
remaining duration falls by as much, that instant is the new segment start, and every other timer stands (R21). The expiries that only
stop a timer or set a flag: restore qualification (R147), step spacing (R148), ripeness (R151), loss (R101), holdoff (R103). That the
command of a segment leaves the state where no segment is left to complete is the model's choice (log 2). -/
def Obligations.TimersRunInSegments : Prop :=
  (∀ (id : TimerId) (t : Tick) (d : Nat) (s : State), s.phase = .running → s.timer id = .running t d →
    (1000000000 < d → ∃ u, exec (.timerSegmentComplete id) s = .next u ∧ u.tb = t + 1000000000 ∧
      u.timer id = .running (t + 1000000000) (d - 1000000000) ∧ (∀ j, j ≠ id → u.timer j = s.timer j) ∧
      u.mu.cycle = s.mu.cycle ∧ u.ret = s.ret ∧ u.cr.mode = s.cr.mode ∧ u.mp = s.mp) ∧
    (d ≤ 1000000000 → exec (.timerSegmentComplete id) s = .next s)) ∧
  ∀ (p : Port) (r : PortRecord) (t : Tick) (s : State),
    (s.due .restoreQual t → exec .restoreQualificationTimerExpiry s =
      .next { s with tb := t, fl := { s.fl with qualTimer := .stopped, qualified := true } }) ∧
    (s.due .stepSpacing t → exec .stepSpacingTimerExpiry s = .next { s with tb := t, fl := { s.fl with spacing := .stopped } }) ∧
    (s.due (.ripeness p) t → s.port p = some r → exec (.ripenessTimerExpiry p) s = .next { s with
      tb := t, fl := { s.fl with ports := s.fl.ports.set p (some { r with ripe := true, ripeness := .stopped }) } }) ∧
    (s.due .loss t → exec .lossTimerExpiry s =
      .next { s with tb := t, ds := { s.ds with timers := { s.ds.timers with loss := .stopped } } }) ∧
    (s.due .holdoff t → exec .holdoffTimerExpiry s = .next { s with
      tb := t, ds := { s.ds with needSince := none, timers := { s.ds.timers with holdoff := .stopped } } })

/-! ### Samples, cycles and frequencies -/

/-- Rounding is half away from zero; the calibrated sample of an input is R2's value: the code 0 or 4095 outside the range, the offset and
the gain, rounded, then clamped; and the RMS value in V is the exact root, rounded once and clamped to 65,535 (R9), for samples of
−2048 to 2047. -/
def Obligations.SamplesAreRounded : Prop :=
  ((∀ (a : Int) (d : Nat), 0 < d →
      2 * (d * roundDiv a d - a).natAbs ≤ d ∧ (2 * (d * roundDiv a d - a).natAbs = d → a.natAbs < (d * roundDiv a d).natAbs)) ∧
    ∀ (c : Calibration) (x : Int),
      let code : Int := if x < 0 then 0 else if 4095 < x then 4095 else x
      let s : Int := roundDiv ((code - 2048 - c.offset) * (4096 + c.gain)) 4096
      calibrated c x = if s < -2048 then -2048 else if 2047 < s then 2047 else s) ∧
  (∀ (sum : Int) (n kv : Nat), 0 < n → 0 ≤ sum → sum ≤ n * 2048 ^ 2 → kv ≤ 65535 →
    let v : Nat := rmsVolts sum n kv
    v ≤ 65535 ∧ (v < 65535 → 4 * sum * kv ^ 2 < (2 * (v : Int) + 1) ^ 2 * (n * 1000000)) ∧
      (0 < v → (2 * (v : Int) - 1) ^ 2 * (n * 1000000) ≤ 4 * sum * kv ^ 2))

/-- A scan adds the calibrated samples of its channels to the open cycle and sets the next scan instant (R2, R3, R4); before the unit
has started there is no scan. At 60 Hz every 24 successive scans span exactly 62,500 ticks, in twenty gaps of 2604 and four of 2605
(R3), whatever the order that the spec leaves open (log 6). Of the capture comparators' levels a scan can only make one low (the
model's choice, log 5). -/
def Obligations.ScanAccumulates : Prop :=
  (∀ (x : AnalogLevels) (s : State), s.phase = .running →
    (s.mu.started = false → exec (.scan x) s = .next s) ∧
    (s.mu.started = true →
      let cal := s.mu.cal
      let c := s.mu.cycle
      let vb := calibrated cal.vBus x.vBus
      let vs := calibrated cal.vSrc x.vSrc
      let gap := if s.par.station.nominalHz = 60 then (if longGap s.mu.scanPhase then 2605 else 2604) else 3125
      ∃ b0 b1 : Bool, (b0 = true → s.tac.c0High = true) ∧ (b1 = true → s.tac.c1High = true) ∧
        exec (.scan x) s = .next { s with
          tb := s.mu.nextScan
          mu := { s.mu with
            cycle :=
              { n := c.n + 1
                vBus2 := c.vBus2 + vb * vb
                vSrc2 := c.vSrc2 + vs * vs
                srcVI := c.srcVI + vs * calibrated cal.iSrc x.iSrc
                feederVI := .of fun p =>
                  if p.num ≤ s.par.station.feederCount then c.feederVI.get p + vb * calibrated (cal.iF.get p) (x.iF.get p)
                  else c.feederVI.get p
                avail := c.avail + calibrated cal.aAvail x.aAvail }
            nextScan := s.mu.nextScan + BitVec.ofNat 32 gap
            scanPhase := (s.mu.scanPhase + 1) % 24 }
          tac := { s.tac with c0High := b0, c1High := b1 } })) ∧
  (∀ k : Nat,
    let gaps := (List.range 24).map fun i => scanGap 60 ((k + i) % 24)
    gaps.sum = 62500 ∧ gaps.count 2604 = 20 ∧ gaps.count 2605 = 4)

/-- A boundary closes the open cycle (R5, R7, R8, R10, R13, R15, R16): a capture of C0 at `t`, or the synthetic timeout's expiry at `t`.
A capture before the unit has started forms no cycle (R1). -/
def Obligations.BoundaryClosesCycle : Prop :=
  (∀ (t : Tick) (swing : Swing) (s : State) (kind : BoundaryKind) (c : Instr), s.phase = .running → s.mu.window.length ≤ 4 →
    (kind = .capture ∧ c = .c0Capture ⟨t, swing⟩ ∧ s.busCapture swing = true ∧ s.mu.started = true ∨
      kind = .synthetic ∧ c = .syntheticTimeoutExpiry ∧ s.mu.synthetic.expiry = some t) →
    let n := s.mu.cycle.n
    let period := if kind = .capture then s.mu.capRef.map fun r => (t - r).toNat else none
    let window :=
      match period with
      | some p =>
        if 142857 ≤ p ∧ p ≤ 250000 then (if s.mu.window.length < 4 then s.mu.window else s.mu.window.drop 1) ++ [p] else []
      | none => []
    let st := s.par.station
    ∃ u r, exec c s = .next u ∧ u.mu.latest = some r ∧
      u.mu = { s.mu with
        cycle := .empty
        capRef := if kind = .capture then some t else none
        synthetic := .running t (if st.nominalHz = 60 then 250000 else 300000)
        window
        busCondition := r.busCondition
        srcCondition := r.srcCondition
        latest := some r
        sums := u.mu.sums } ∧
      (r.endTime = t ∧ r.kind = kind ∧ r.period = period ∧
        (r.periodValid = true ↔ ∃ p, period = some p ∧ 142857 ≤ p ∧ p ≤ 250000) ∧ r.n = n) ∧
      (n < 32 → r.busRms = none ∧ r.srcRms = none ∧ r.srcPower = none ∧ (∀ p, r.feederPower.get p = none) ∧ r.available = none ∧
        r.busCondition = s.mu.busCondition ∧ r.srcCondition = s.mu.srcCondition ∧ u.mu.sums = s.mu.sums) ∧
      (32 ≤ n → ∃ (src : Int) (avail : Nat),
        r.busRms = some (rmsVolts s.mu.cycle.vBus2 n st.kv) ∧ r.srcRms = some (rmsVolts s.mu.cycle.vSrc2 n st.kv) ∧
        src = clamp (-65535) 65535 (roundDiv (st.phases * s.mu.cycle.srcVI * st.kv * st.kiSrc) (n * 1000000000)) ∧
        (avail : Int) = clamp 0 65535 (roundDiv (s.mu.cycle.avail * st.aScale) (n * 1000)) ∧
        r.srcPower = some src ∧ r.available = some avail ∧
        (∀ p, r.feederPower.get p =
          if p.num ≤ st.feederCount then
            some (clamp (-65535) 65535 (roundDiv (st.phases * s.mu.cycle.feederVI.get p * st.kv * st.kiFdr) (n * 1000000000)))
          else none) ∧
        u.mu.sums.count = s.mu.sums.count + 1 ∧ u.mu.sums.src = s.mu.sums.src + src ∧
        u.mu.sums.avail = s.mu.sums.avail + avail ∧
        ∀ p, u.mu.sums.feeder.get p = s.mu.sums.feeder.get p + (r.feederPower.get p).getD 0) ∧
      (r.f = if window.length = 4 then some (roundDiv 40000000000 window.sum).toNat else none) ∧
      (r.fCycle = if r.periodValid then period.map fun p => (roundDiv 10000000000 p).toNat else none) ∧
      r.fSrc = (if s.mu.srcWindow.length = 4 then some (roundDiv 40000000000 s.mu.srcWindow.sum).toNat else none) ∧
      (r.sync.isSome = true ↔ kind = .capture ∧ r.f.isSome = true ∧ r.fSrc.isSome = true ∧ s.mu.lastSrc.isSome = true) ∧
      (u.tb = t ∧ u.phase = s.phase ∧ u.address = s.address ∧ u.pv = s.pv ∧ u.be = s.be ∧ u.cr = s.cr ∧ u.mp = s.mp ∧
        u.tac.inputs = s.tac.inputs ∧ u.ilc.transmitter = s.ilc.transmitter ∧ u.ilc.receiver = s.ilc.receiver ∧
        u.pending = s.pending)) ∧
  (∀ (t : Tick) (swing : Swing) (s : State), s.phase = .running → s.mu.started = false → s.busCapture swing = true →
    exec (.c0Capture ⟨t, swing⟩) s = .next { s with tb := t, tac := { s.tac with c0High := true } })

/-- The bus and source conditions follow R12's table at every cycle that is not short, closed by a capture or by the synthetic timeout; a
short cycle leaves them, and a reset makes them NONE (R12). -/
def Obligations.ConditionsFollowTable : Prop :=
  (∀ (straps : BitVec 5) (t : Tick) (s : State) (u : State),
    (exec (.powerOnReset straps) s = .next u ∨ s.phase = .running ∧ exec (.stationReset t) s = .next u) →
      u.mu.busCondition = .unknown ∧ u.mu.srcCondition = .unknown) ∧
  ∀ (c : Instr) (t : Tick) (s : State), s.closesCycle c t →
    let vn := s.par.station.nominalV
    let d := s.par.black.deadLevel
    let l := s.par.black.liveLevel
    let follows (before after : Condition) (v : Nat) : Prop :=
      (32 * v < (2 * d + 1) * vn → after = .dead) ∧
      ((2 * d + 1) * vn ≤ 32 * v → 32 * v < (2 * l + 1) * vn → after = (if before = .live then .live else .dead)) ∧
      ((2 * l + 1) * vn ≤ 32 * v → after = .live)
    d < l → ∃ u r, exec c s = .next u ∧ u.mu.latest = some r ∧ r.endTime = t ∧
      u.mu.busCondition = r.busCondition ∧ u.mu.srcCondition = r.srcCondition ∧
      (s.mu.cycle.n < 32 → u.mu.busCondition = s.mu.busCondition ∧ u.mu.srcCondition = s.mu.srcCondition) ∧
      (32 ≤ s.mu.cycle.n → ∃ vBus vSrc, r.busRms = some vBus ∧ r.srcRms = some vSrc ∧
        follows s.mu.busCondition u.mu.busCondition vBus ∧ follows s.mu.srcCondition u.mu.srcCondition vSrc)

/-- A C1 capture and the source timeout act on the source window as R14 gives. A rise of a voltage channel is a capture exactly where its
comparator's output was low, or fell through −1 % of the nominal peak, and rises through +1 % of it, with 400 V as the nominal voltage
until the start-up load (R28). The model's choices in it (log 5): the swing of the wave comes as an operand of the capture command, and
a rise that is no capture leaves everything but that output, the time base with it. -/
def Obligations.SourceCapturesFormWindow : Prop :=
  State.reset.mu.srcRef = none ∧ State.reset.mu.srcWindow = [] ∧
  (∀ m : Mu, m.fSrc = if m.srcWindow.length = 4 then some (roundDiv 40000000000 m.srcWindow.sum).toNat else none) ∧
  (∀ (t : Tick) (swing : Swing) (s : State),
    let v : Int := match s.cr.params with | some p => p.station.nominalV | none => 400
    let fell : Prop := swing.low < 0 ∧ 200 * v ^ 2 < swing.low ^ 2
    let rose : Prop := 0 < swing.high ∧ 200 * v ^ 2 < swing.high ^ 2
    let high (was after : Bool) : Prop := after = true ↔ was = true ∧ ¬ fell
    (s.busCapture swing = true ↔ (s.tac.c0High = false ∨ fell) ∧ rose) ∧
    (s.sourceCapture swing = true ↔ (s.tac.c1High = false ∨ fell) ∧ rose) ∧
    (s.phase = .running → s.busCapture swing = false → ∃ b, high s.tac.c0High b ∧
      exec (.c0Capture ⟨t, swing⟩) s = .next { s with tac := { s.tac with c0High := b } }) ∧
    (s.phase = .running → s.sourceCapture swing = false → ∃ b, high s.tac.c1High b ∧
      exec (.c1Capture ⟨t, swing⟩) s = .next { s with tac := { s.tac with c1High := b } })) ∧
  ∀ (t : Tick) (swing : Swing) (s : State), s.phase = .running →
    let timeout := if s.par.station.nominalHz = 60 then 250000 else 300000
    (s.mu.started = false → s.sourceCapture swing = true →
      exec (.c1Capture ⟨t, swing⟩) s = .next { s with tb := t, tac := { s.tac with c1High := true } }) ∧
    (s.mu.started = true → s.sourceCapture swing = true → s.mu.srcWindow.length ≤ 4 →
      let window :=
        match s.mu.srcRef with
        | some r =>
          if 142857 ≤ (t - r).toNat ∧ (t - r).toNat ≤ 250000 then
            (if s.mu.srcWindow.length < 4 then s.mu.srcWindow else s.mu.srcWindow.drop 1) ++ [(t - r).toNat]
          else []
        | none => s.mu.srcWindow
      exec (.c1Capture ⟨t, swing⟩) s = .next { s with
        tb := t
        mu := { s.mu with srcWindow := window, srcRef := some t, lastSrc := some t, srcTimeout := .running t timeout }
        tac := { s.tac with c1High := true } }) ∧
    (s.mu.srcTimeout.expiry = some t → exec .sourceTimeoutExpiry s =
      .next { s with tb := t, mu := { s.mu with srcWindow := [], srcRef := none, srcTimeout := .stopped } })

/-- The predicted phase (R18): the advance term rounded on its own and at most 54,000, added to the phase, and the sum mapped into
−1800 to 1799 by whole turns; at a station whose role is not GENSET the breaker close time counts as 0. Slip, phase and frequencies
lie in the ranges of R13 and R17. The windows hold valid periods. The slip is f_src − f, and the phase is the fraction of the newest
bus period that has passed since the latest source capture (R17). -/
def Obligations.PredictedPhaseAdvances : Prop :=
  (∀ (t : Tick) (swing : Swing) (s u : State) (r : CycleRecord) (x : SyncRecord), s.closesCycle (.c0Capture ⟨t, swing⟩) t → s.windowsOk →
    exec (.c0Capture ⟨t, swing⟩) s = .next u → u.mu.latest = some r → r.sync = some x → s.par.diesel.breakerClose ≤ 500 →
    let c : Nat := if s.par.station.role = .genset then s.par.diesel.breakerClose else 0
    ∃ k advance : Int, advance = roundDiv (x.slip * c * 3600) 1000000 ∧ advance.natAbs ≤ 54000 ∧
      x.predicted = x.phase + advance + 3600 * k ∧ -1800 ≤ x.predicted ∧ x.predicted ≤ 1799) ∧
  (∀ (t : Tick) (swing : Swing) (s u : State) (r : CycleRecord), s.closesCycle (.c0Capture ⟨t, swing⟩) t → s.windowsOk →
    exec (.c0Capture ⟨t, swing⟩) s = .next u → u.mu.latest = some r →
    (∀ f, r.f = some f ∨ r.fCycle = some f ∨ r.fSrc = some f → 40000 ≤ f ∧ f ≤ 70000) ∧
    ∀ x, r.sync = some x → -30000 ≤ x.slip ∧ x.slip ≤ 30000 ∧ -1800 ≤ x.phase ∧ x.phase ≤ 1799 ∧ -1800 ≤ x.predicted ∧
      x.predicted ≤ 1799) ∧
  (∀ (t tSrc : Tick) (swing : Swing) (period f fSrc : Nat) (s u : State) (r : CycleRecord), s.closesCycle (.c0Capture ⟨t, swing⟩) t →
    exec (.c0Capture ⟨t, swing⟩) s = .next u → u.mu.latest = some r → s.mu.lastSrc = some tSrc → u.mu.window.getLast? = some period →
    r.f = some f → r.fSrc = some fSrc →
    let raw : Int := ((t - tSrc).toNat % period) * 3600 / period
    ∃ x, r.sync = some x ∧ x.slip = (fSrc : Int) - f ∧ x.phase = if raw ≤ 1799 then raw else raw - 3600)

/-! ### Action channels and inputs -/

/-- The breaker pair rule (R22, R24): what a close or a trip request answers and does, whoever makes it. A channel of another breaker,
P2, and everything but the pair and the breaker's window stay as they are. LOCAL refuses every request and changes nothing (R25). A
confirmation window opens WATCHING with the confirm time, or reports CONFIRMED at once and stays CLOSED-OUT where the breaker's input
is qualified there already (R26), in place of whatever window was there (R27); without a confirmation the window stands, but the window
of a close that a trip cuts ends (R27). A trip that asks for a confirmation and cuts a close opens its own window in the same act
(R27). -/
def Obligations.PairRuleDecidesRequests : Prop :=
  (∀ (b : Breaker) (r : Requester) (w : Nat) (confirm : Bool) (s : State), s.localRefuses b = false →
    let close := closeChannel b
    let trip := tripChannel b
    let width := if w < 50 then 500000 else if 1000 < w then 10000000 else w * 10000
    let c := s.requestClose b r w confirm
    let t := s.requestTrip b r w confirm
    let frame (v : State) : Prop :=
      (∀ d, d ≠ close → d ≠ trip → v.pulse d = s.pulse d) ∧ (∀ d, d ≠ b → v.window d = s.window d) ∧
        ∃ tac, v = { s with tac } ∧ tac = { s.tac with
          srcClose := tac.srcClose, srcTrip := tac.srcTrip, crank := tac.crank, feederClose := tac.feederClose,
          feederTrip := tac.feederTrip, srcWindow := tac.srcWindow, feederWindow := tac.feederWindow }
    ((s.pulse close).isActive = true → c.1.answer = .ignored ∧ c.2 = s) ∧
    ((s.pulse close).isActive = false → (s.pulse trip).isActive = true → c.1.answer = .refused ∧ c.2 = s) ∧
    ((s.pulse close).isActive = false → (s.pulse trip).isActive = false →
      c.1.answer = .started ∧ c.2.pulse close = .active r (.running s.tb width) ∧ c.2.pulse trip = s.pulse trip ∧ frame c.2 ∧
        (confirm = false → c.2.window b = s.window b)) ∧
    ((s.pulse trip).isActive = true → t.1.answer = .ignored ∧ t.2 = s) ∧
    ((s.pulse trip).isActive = false →
      t.1.answer = .started ∧ (t.1.cutClose = true ↔ (s.pulse close).isActive = true) ∧ t.2.pulse close = .idle ∧
        t.2.pulse trip = .active r (.running s.tb width) ∧ frame t.2 ∧
        (confirm = false → (s.pulse close).isActive = true →
          (∀ q x, s.window b = .watching q true x → t.2.window b = .closedOut) ∧
            ((∀ q x, s.window b ≠ .watching q true x) → t.2.window b = s.window b)) ∧
        (confirm = false → (s.pulse close).isActive = false → t.2.window b = s.window b))) ∧
  (∀ (p : Port) (r : Requester) (w : Nat) (confirm : Bool) (s : State), s.level (.feederLocal p) = .asserted →
    s.requestClose (.feeder p) r w confirm = (⟨.refused, false, false⟩, s) ∧
      s.requestTrip (.feeder p) r w confirm = (⟨.refused, false, false⟩, s)) ∧
  (∀ (b : Breaker) (r : Requester) (w : Nat) (closed : Bool) (s : State), s.localRefuses b = false →
    (s.pulse (closeChannel b)).isActive = false → (s.pulse (tripChannel b)).isActive = false →
    let a := if closed then s.requestClose b r w true else s.requestTrip b r w true
    let there := s.level (positionInput b) = if closed then .asserted else .released
    (there → a.1.confirmed = true ∧ a.2.window b = .closedOut) ∧
      (¬ there → a.1.confirmed = false ∧
        a.2.window b = .watching r closed (.running s.tb (s.par.diesel.confirmTime * 10000)))) ∧
  (∀ (b : Breaker) (r : Requester) (w : Nat) (s : State), s.localRefuses b = false → (s.pulse (closeChannel b)).isActive = true →
    (s.pulse (tripChannel b)).isActive = false →
    let a := s.requestTrip b r w true
    a.1.answer = .started ∧ a.1.cutClose = true ∧
      (s.level (positionInput b) = .released → a.1.confirmed = true ∧ a.2.window b = .closedOut) ∧
      (s.level (positionInput b) ≠ .released → a.1.confirmed = false ∧
        a.2.window b = .watching r false (.running s.tb (s.par.diesel.confirmTime * 10000))))

/-- The expiry of a pulse timer makes the channel IDLE and reports ENDED (R22): the source channels' requesters do nothing, a feeder's
close is no longer active, a trip ends with nothing owed, and the crank pulse in CRANK leads to REST (R105, R138). A trip asked for while
the port's trip pulse runs is owed, a later one in place of an earlier; at the end of that pulse the owed trip is requested again where
the port is CLOSED or CLOSING, and is no longer owed in any case (R138). A window that reports
NOT-CONFIRMED: a port in CLOSING or OPENING becomes FAULTED and adds its cause (R26, R139); the solar trip flag clears (R127); a set in
OPENING, and one in CLOSING with a trip, becomes FAILED (R111, R116). -/
def Obligations.PulsesEnd : Prop :=
  (∀ (t : Tick) (p : Port) (s : State),
    (s.due (.pulse .srcClose) t →
      exec (.pulseTimerExpiry .srcClose) s = .next { s with tb := t, tac := { s.tac with srcClose := .idle } }) ∧
    (s.due (.pulse .srcTrip) t →
      exec (.pulseTimerExpiry .srcTrip) s = .next { s with tb := t, tac := { s.tac with srcTrip := .idle } }) ∧
    (s.due (.pulse .crank) t → s.ds.state ≠ some .crank →
      exec (.pulseTimerExpiry .crank) s = .next { s with tb := t, tac := { s.tac with crank := .idle } }) ∧
    (s.due (.pulse .crank) t → s.ds.state = some .crank → exec (.pulseTimerExpiry .crank) s = .next { s with
        tb := t
        tac := { s.tac with crank := .idle }
        ds := { s.ds with
          state := some .rest, needSince := none, deadBusClose := false, closingInhibit := false, deadBusOnline := false
          timers := { s.ds.timers with rest := .running t (s.par.diesel.restTime * 10000000) } } }) ∧
    (s.due (.pulse (.feederClose p)) t →
      exec (.pulseTimerExpiry (.feederClose p)) s = .next { s with
        tb := t
        tac := { s.tac with feederClose := s.tac.feederClose.set p .idle }
        fl := { s.fl with ports := s.fl.ports.set p ((s.fl.ports.get p).map fun r => { r with closeActive := false }) } }) ∧
    (s.due (.pulse (.feederTrip p)) t → (∀ r, s.port p = some r → r.tripOwed = none) →
      exec (.pulseTimerExpiry (.feederTrip p)) s =
        .next { s with tb := t, tac := { s.tac with feederTrip := s.tac.feederTrip.set p .idle } })) ∧
  (∀ (t : Tick) (p : Port) (r : PortRecord) (dest : Destination) (s : State), s.port p = some r →
    let trippable := (r.state = .closed ∨ r.state = .closing) ∧ r.localHeld = false
    let putPort (x : PortRecord) : Fl := { s.fl with ports := s.fl.ports.set p (some x) }
    (trippable → s.level (.feederLocal p) ≠ .asserted → (s.pulse (.feederTrip p)).isActive = true →
      flTrip p dest s = (false, { s with fl := putPort { r with tripOwed := some dest } })) ∧
    (s.due (.pulse (.feederTrip p)) t → r.tripOwed = some dest → ¬ trippable →
      exec (.pulseTimerExpiry (.feederTrip p)) s = .next { s with
        tb := t
        tac := { s.tac with feederTrip := s.tac.feederTrip.set p .idle }
        fl := putPort { r with tripOwed := none } }) ∧
    (s.due (.pulse (.feederTrip p)) t → r.tripOwed = some dest → trippable → s.level (.feederLocal p) ≠ .asserted →
      (∀ w, s.fl.swap = some w → w.closePort ≠ p) →
      ∃ u x, exec (.pulseTimerExpiry (.feederTrip p)) s = .next u ∧ u.port p = some x ∧ x.tripOwed = none ∧
        (u.pulse (.feederTrip p)).isActive = true ∧ u.pulse (.feederClose p) = .idle ∧
        (s.level (.feederCb p) ≠ .released → x.state = .opening ∧ x.destination = some dest ∧ ∀ q, q ≠ p → u.port q = s.port q) ∧
        (s.level (.feederCb p) = .released → x.destination = none ∧
          match dest with
          | .shed cause => x.state = .shed ∧ x.shedCause = some cause
          | .blackOpen => x.state = .blackOpen ∧ x.shedCause = none))) ∧
  (∀ (t : Tick) (p : Port) (r : PortRecord) (x : Timer) (closed : Bool) (s : State),
    (s.due (.confirm (.feeder p)) t → s.window (.feeder p) = .watching .fl closed x → s.port p = some r →
      r.state = .closing ∨ r.state = .opening → ∃ u, exec (.confirmTimerExpiry (.feeder p)) s = .next u ∧
        u.port p = some { r with
          state := .faulted, destination := none, shedCause := none, lastChange := t, ripe := false, ripeness := .stopped } ∧
        u.window (.feeder p) = .closedOut ∧ u.ret.ports.get p = some (.faulted, none) ∧
        u.tac.alarm.portFaulted.get p = true ∧ (∀ q, q ≠ p → u.port q = s.port q) ∧ (∀ c, c ≠ .crank → u.pulse c = s.pulse c) ∧
        u.kept = { s with tb := t }.kept) ∧
    (s.due (.confirm .source) t → s.window .source = .watching .sc closed x → exec (.confirmTimerExpiry .source) s =
      .next { s with tb := t, tac := { s.tac with srcWindow := .closedOut }, sc := { s.sc with trip := false } }) ∧
    (s.due (.confirm .source) t → s.window .source = .watching .ds closed x →
      s.ds.state = some .opening ∨ s.ds.state = some .closing → ∃ u, exec (.confirmTimerExpiry .source) s = .next u ∧
        u.ds.state = some .failed ∧ u.window .source = .closedOut ∧ u.ret.lockout = true ∧ u.ret.run = false ∧
        u.ds.bias = 0 ∧ u.tac.alarm.dieselFailed = true ∧
        (s.ds.state = some .closing → (u.pulse .srcTrip).isActive = true ∧ ((s.pulse .srcTrip).isActive = false →
          u.pulse .srcClose = .idle)) ∧
        (s.ds.state = some .opening → u.pulse .srcTrip = s.pulse .srcTrip) ∧ u.fl = s.fl ∧ u.sc = s.sc ∧
        u.kept = { s with tb := t }.kept))

/-- A PWM period begins 10,000 ticks after the last with the value written before it (R29). Every input is sampled every 10,000 ticks:
the run counts, and a run of N samples at another level makes the input due (R31, log 7). The qualification of an input that is due
replaces its qualified level by that sample, leaves every other input's qualifier, and happens once; an input that is not due is not
qualified. -/
def Obligations.PeriodsAndSamplesFollow : Prop :=
  (∀ (x : InputLevels) (s : State), s.phase = .running →
    exec .pwmPeriodStart s = .next { s with
      tb := s.tac.pwmStart + 10000, tac := { s.tac with pwmStart := s.tac.pwmStart + 10000, pwmInUse := s.tac.pwm } } ∧
    ∃ q : Qualifiers, exec (.inputSample x) s = .next { s with
        tb := s.tac.nextSample, tac := { s.tac with inputs := q, nextSample := s.tac.nextSample + 10000 } } ∧
      ∀ i : InputLine,
        let (level, debounce) :=
          match i with
          | .srcCb => (x.srcCb, s.tac.breakerDebounce)
          | .feederCb p => (x.cb.get p, s.tac.breakerDebounce)
          | .runFb => (x.runFb, s.tac.otherDebounce)
          | .inhibit => (x.inhibit, s.tac.otherDebounce)
          | .service => (x.service, s.tac.otherDebounce)
          | .feederLocal p => (x.loc.get p, s.tac.otherDebounce)
        let old := s.tac.inputs.get i
        let run := if old.sample = some level then (if old.run < 16 then old.run + 1 else 16) else 1
        (q.get i).level = old.level ∧ (q.get i).sample = some level ∧ (q.get i).run = run ∧
          ((q.get i).due = true ↔ debounce ≤ run ∧ old.level ≠ if level then .asserted else .released)) ∧
  (∀ (i : InputLine) (level : Bool) (s : State), s.phase = .running →
    ((s.tac.inputs.get i).due = false → exec (.inputQualified i) s = .next s) ∧
    ((s.tac.inputs.get i).due = true → (s.tac.inputs.get i).sample = some level →
      ∃ u, exec (.inputQualified i) s = .next u ∧
        u.tac.inputs.get i =
          { s.tac.inputs.get i with level := if level then .asserted else .released, due := false } ∧
        (∀ j, j ≠ i → u.tac.inputs.get j = s.tac.inputs.get j) ∧
        u.tb = s.tb ∧ u.mu = s.mu ∧ u.be = s.be ∧ u.pv = s.pv ∧ u.mp = s.mp ∧ u.address = s.address ∧ u.pending = s.pending ∧
        (i ≠ .service → u.cr = s.cr ∧ u.ilc.transmitter = s.ilc.transmitter ∧ u.ilc.status = s.ilc.status)))

/-- LOCAL holds a port (R141, with the cut of R25 and the withdrawal of R27). Asserted, in any state, the port is HELD and nothing of it
is pending; released in HELD, it is CLOSED or SHED by its breaker; released in another state, only the flag is cleared. -/
def Obligations.LocalHoldsPort : Prop :=
  ∀ (p : Port) (r : PortRecord) (s : State), s.phase = .running → (s.tac.inputs.get (.feederLocal p)).due = true → s.port p = some r →
    ((s.tac.inputs.get (.feederLocal p)).sample = some true → ∃ u, exec (.inputQualified (.feederLocal p)) s = .next u ∧
      u.port p = some { r with
        state := .held, destination := none, shedCause := none, lastChange := s.tb, localHeld := true, closeActive := false,
        tripOwed := none, ripe := false, ripeness := .stopped } ∧
      u.pulse (.feederClose p) = .idle ∧ u.pulse (.feederTrip p) = .idle ∧ u.window (.feeder p) = .closedOut ∧
      u.ret.ports.get p = some (.held, none) ∧ u.tac.alarm.portFaulted.get p = false ∧
      (∀ q, q ≠ p → u.port q = s.port q ∧ u.pulse (.feederClose q) = s.pulse (.feederClose q) ∧
        u.pulse (.feederTrip q) = s.pulse (.feederTrip q))) ∧
    ((s.tac.inputs.get (.feederLocal p)).sample = some false → ∃ u r', exec (.inputQualified (.feederLocal p)) s = .next u ∧
      u.port p = some r' ∧ r'.localHeld = false ∧ (∀ c, c ≠ .crank → u.pulse c = s.pulse c) ∧ (∀ q, q ≠ p → u.port q = s.port q) ∧
      (r.state = .held → s.level (.feederCb p) = .asserted → r'.state = .closed ∧ r'.shedCause = none) ∧
      (r.state = .held → s.level (.feederCb p) ≠ .asserted → r'.state = .shed ∧ r'.shedCause = some .deficit) ∧
      (r.state ≠ .held → r' = { r with localHeld := false }))

/-! ### Loss of a set, and the hold of SERVICE -/

/-- The set is lost (R117, R119): its breaker is released in ONLINE, STOP-INTENT or UNLOAD without a trip of ours, or its engine stops
with the breaker closed. It is FAILED with the lockout, its LOSS notice waits where the transmitter is enabled, and a closed breaker
is tripped. The solar source (R124, R126, R127): ONLINE at an assertion of SRC_CB, in every mode and island state; a release while the
island is up, with an output above the loss threshold, is a loss with its notice, and any other gives OFFLINE without one; a change to
DARK in operation trips an inverter that is ONLINE, and the release that confirms that trip gives OFFLINE without notice. -/
def Obligations.LostSetFails : Prop :=
  (∀ (engine : Bool) (s : State), s.phase = .running →
    s.ds.state = some .online ∨ s.ds.state = some .stopIntent ∨ s.ds.state = some .unload → s.sc.state = none →
    let i : InputLine := if engine then .runFb else .srcCb
    (s.tac.inputs.get i).due = true → (s.tac.inputs.get i).sample = some false →
    (if engine then s.level .srcCb = .asserted else ∀ r x, s.window .source ≠ .watching r false x) →
    ∃ u, exec (.inputQualified i) s = .next u ∧ u.ds.state = some .failed ∧
      (u.ds.intent = none ∧ u.ds.needSince = none ∧ u.ds.forcedStop = false ∧ u.ds.bias = 0 ∧ u.tac.pwm = 0 ∧
        u.ds.timers = { DieselTimers.stopped with loss := s.ds.timers.loss } ∧
        (u.ds.inhibitSeen = true ↔ s.level .inhibit = .asserted)) ∧
      (u.ret.lockout = true ∧ u.ret.run = false ∧ u.tac.alarm.dieselFailed = true ∧ u.pulse .crank = .idle) ∧
      (if engine then (u.pulse .srcTrip).isActive = true else u.pulse .srcTrip = s.pulse .srcTrip ∧ u.pulse .srcClose = s.pulse .srcClose) ∧
      (if s.ilc.transmitter.enabled then
        u.ilc.slots = { s.ilc.slots with loss := { s.ilc.slots.loss with
          frame := some (lossPayload .genset (clamp16 s.mu.mean.src) s.par.station.rating) } }
      else u.ilc.slots = s.ilc.slots) ∧
      u.sc = s.sc ∧ (u.cr = s.cr ∧ u.mu = s.mu ∧ u.be = s.be ∧ u.pv = s.pv ∧ u.mp = s.mp ∧ u.tb = s.tb)) ∧
  (∀ (x : Timer) (s : State), s.ds.state = none →
    let qualified := s.qualify .srcCb
    let output := clamp16 s.mu.mean.src
    let lost := s.islandUp = true ∧ s.par.solar.lossThreshold < output
    (s.qualifies .srcCb true → (∀ r y, s.window .source ≠ .watching r true y) →
      (s.sc.state = some .offline → exec (.inputQualified .srcCb) s =
        .next { qualified true with sc := { s.sc with state := some .online } }) ∧
      (s.sc.state = some .online → exec (.inputQualified .srcCb) s = .next (qualified true))) ∧
    (s.qualifies .srcCb false → (∀ r y, s.window .source ≠ .watching r false y) →
      (s.sc.state = some .offline → exec (.inputQualified .srcCb) s = .next (qualified false)) ∧
      (s.sc.state = some .online → s.sc.trip = false → ¬ lost → exec (.inputQualified .srcCb) s =
        .next { qualified false with sc := { s.sc with state := some .offline } }) ∧
      (s.sc.state = some .online → s.sc.trip = false → lost → ∃ u, exec (.inputQualified .srcCb) s = .next u ∧
        u.sc = { s.sc with state := some .offline } ∧
        u.ilc.slots = (if s.ilc.transmitter.enabled then
          { s.ilc.slots with loss := { s.ilc.slots.loss with frame := some (lossPayload .solar output s.par.station.rating) } }
        else s.ilc.slots) ∧ u.kept = (qualified false).kept)) ∧
    (s.qualifies .srcCb false → s.window .source = .watching .sc false x → s.sc.trip = true →
      exec (.inputQualified .srcCb) s = .next { qualified false with
        tac := { (qualified false).tac with srcWindow := .closedOut }
        sc := { s.sc with state := some .offline, trip := false } })) ∧
  (∀ (t : Tick) (s : State), s.due .dead t → s.bsc.island = some .deadWait → s.ds.state = none → s.sc.state = some .online →
    let pulse := s.par.diesel.pulse
    ∃ u, exec .deadTimerExpiry s = .next u ∧ u.bsc.island = some .dark ∧
      (s.operating = true → s.pulse .srcTrip = .idle → s.level .srcCb ≠ .released →
        u.sc.state = some .online ∧ u.sc.trip = true ∧ u.pulse .srcClose = .idle ∧
          u.pulse .srcTrip = .active .sc (.running t (if pulse < 50 then 500000 else if 1000 < pulse then 10000000 else pulse * 10000)) ∧
          u.window .source = .watching .sc false (.running t (s.par.diesel.confirmTime * 10000))) ∧
      (s.operating = true → s.pulse .srcTrip = .idle → s.level .srcCb = .released →
        u.sc.state = some .offline ∧ u.sc.trip = false ∧ u.window .source = .closedOut) ∧
      (s.operating = true → (s.pulse .srcTrip).isActive = true → s.sc.trip = false →
        u.sc.state = some .online ∧ u.sc.trip = false ∧ u.pulse .srcTrip = s.pulse .srcTrip) ∧
      (s.operating = false → u.sc.state = some .online ∧ u.sc.trip = s.sc.trip ∧ u.pulse .srcTrip = s.pulse .srcTrip ∧
        u.pulse .srcClose = s.pulse .srcClose ∧ u.window .source = s.window .source))

/-- SERVICE holds the jobs (R72, R121, R155, R172, R177). Asserted in operation: the mode is SERVICE, pending starts fall back to STANDBY
with RUN CLEAR and with the bias at 0 (the model's reading, log 11), a stop in hand falls back to ONLINE, the session ends, owed trips, the
swap and the qualification go, and the transmitter goes on. Released, the mode is the one that the fresh count and the conflict indication
call for. -/
def Obligations.ServiceHoldsJobs : Prop :=
  ∀ s : State, s.phase = .running → (s.tac.inputs.get .service).due = true → s.senderFollows →
    ((s.tac.inputs.get .service).sample = some true → s.cr.mode = .coordinated ∨ s.cr.mode = .autonomous →
      let started := s.ds.state = some .intent ∨ s.ds.state = some .crank ∨ s.ds.state = some .rest ∨ s.ds.state = some .spool ∨
        s.ds.state = some .sync ∨ s.ds.state = some .arbitrate
      ∃ u, exec (.inputQualified .service) s = .next u ∧ u.cr = { s.cr with mode := .service } ∧ u.ilc = s.ilc ∧
        (u.ds.needSince = none ∧ u.ds.forcedStop = false) ∧
        (started → u.ds.state = some .standby ∧ u.ret.run = false ∧ u.ds.bias = 0) ∧
        (¬ started → u.ret.run = s.ret.run ∧ u.ds.bias = s.ds.bias ∧
          u.ds.state = if s.ds.state = some .stopIntent ∨ s.ds.state = some .unload then some .online else s.ds.state) ∧
        (s.ds.state = some .crank → u.pulse .crank = .idle) ∧
        (∀ c, c ≠ .crank → u.pulse c = s.pulse c) ∧ (∀ b, u.window b = s.window b) ∧
        u.bsc = { s.bsc with session := u.bsc.session } ∧ u.permitPhase = .idle ∧
        (s.permitPhase ≠ .idle → u.tac.permitPull = false ∧ u.tac.permitEdges = false ∧ u.bsc.session = s.bsc.session.ended) ∧
        u.fl = { s.fl with
          ports := .of fun p => (s.port p).map fun r => { r with tripOwed := none }
          swap := none, qualTimer := .stopped, qualified := false, overload := .stopped } ∧
        u.sc = s.sc ∧ u.mu = s.mu ∧ u.be = s.be ∧ u.pv = s.pv ∧ u.mp = s.mp ∧ u.tb = s.tb) ∧
    ((s.tac.inputs.get .service).sample = some false → s.cr.mode = .service → s.cr.commit ≠ .running →
      ∃ u, exec (.inputQualified .service) s = .next u ∧
        u.cr = { s.cr with mode :=
          if s.pv.conflict = true ∨ (∀ e ∈ s.pv.table, e.fresh = false) then .autonomous else .coordinated } ∧
        u.ilc.transmitter = s.ilc.transmitter ∧ u.ilc.status = s.ilc.status ∧ u.ds.needSince = none ∧
        u.mu = s.mu ∧ u.be = s.be ∧ u.pv = s.pv ∧ u.mp = s.mp ∧ u.tb = s.tb)

/-! ### Permit arbitration -/

/-- The edges and the timers of a session before the contest and after a win (R167, R168, R171). The model's choices in it: the bit index
is 0 from the entry to START (log 38); the others' pull of PERMIT is held in State and a fall carries whose it is (log 9); a fall at
the very instant of the expiry of a guard of origin EDGE makes the station pull, by the sentence on the two orders and not by the
row of the table (R167, log 43). -/
def Obligations.SessionFollowsLine : Prop :=
  ∀ (t : Tick) (s : State),
    let x := s.bsc.session
    let start (u : State) : State := { u with
      tac := { u.tac with permitPull := true }
      bsc := { u.bsc with session := { x with
        phase := .start, slotStart := t, bit := 0, sampleNext := false, guard := .stopped, stuck := .stopped
        slot := .running t 200000 } } }
    -- another station pulls while the line is quiet
    (s.phase = .running → s.permitLow = false → s.tac.permitEdges = true → x.phase = .waiting → x.guard.isRunning = true →
      (x.guardOrigin = .request ∨ x.guard.expiry = some t →
        exec (.permitFallingEdge t false) s = .next (start { s with tb := t, tac := { s.tac with permitOthers := true } })) ∧
      (x.guardOrigin = .edge → x.guard.expiry ≠ some t → exec (.permitFallingEdge t false) s = .next { s with
        tb := t
        tac := { s.tac with permitOthers := true }
        bsc := { s.bsc with session := { x with
          guard := .stopped, stuck := .running t (s.par.black.permitTimeout * 10000000) } } })) ∧
    -- the line rises
    (s.phase = .running → s.tac.permitPull = false → s.tac.permitOthers = true → x.phase = .waiting →
      exec (.permitRisingEdge t) s = .next { s with
        tb := t
        tac := { s.tac with permitOthers := false, alarm := { s.tac.alarm with permitStuck := false } }
        bsc := { s.bsc with session := { x with
          stuck := .stopped, stuckFlag := false, guardOrigin := .edge
          guard := .running t (s.par.black.guardTime * 10000) } } }) ∧
    -- the guard time has passed on a quiet line
    (s.due .guard t → x.phase = .waiting → exec .guardTimerExpiry s = .next (start { s with tb := t })) ∧
    -- the line has been low for the permit timeout
    (s.due .stuck t → x.phase = .waiting → exec .stuckTimerExpiry s = .next { s with
      tb := t
      tac := { s.tac with alarm := { s.tac.alarm with permitStuck := true } }
      bsc := { s.bsc with session := { x with stuck := .stopped, stuckFlag := true } } }) ∧
    -- the hold ends
    (∀ c, (c = .holdTimerExpiry ∧ s.due .hold t ∨ c = .liveWaitTimerExpiry ∧ s.due .liveWait t) → x.phase = .hold →
      exec c s = .next { s with
        tb := t
        tac := { s.tac with
          permitPull := false, permitEdges := false, alarm := { s.tac.alarm with permitStuck := false } }
        bsc := { s.bsc with session := { x with
          phase := .idle, stuckFlag := false, slot := .stopped, guard := .stopped, stuck := .stopped, hold := .stopped
          liveWait := .stopped } } })

/-- The slot points of the contest (R169, R170): 20 ms after the slot start bit 0 is driven, each bit is sampled 5 ms later and the
next is driven 5 ms after that; a released bit read low is lost and the set goes to SYNC; after bit 9 the station has won, and closes
onto a bus that is not LIVE (log 12) or goes to SYNC. -/
def Obligations.SlotPointsRunContest : Prop :=
  ∀ (t : Tick) (others : Bool) (s : State), s.due .slot t →
    let x := s.bsc.session
    let zero (i : Nat) : Bool := !s.bsc.ownWord.testBit (9 - i)
    let ended (u : State) : Prop := u.permitPhase = .idle ∧ u.tac.permitPull = false ∧ u.tac.permitEdges = false ∧
      u.bsc.session = x.ended
    let synchronises (u : State) : Prop := u.ds.state = some .sync ∧ u.ds.good = 0 ∧
      u.ds.timers.sync = .running t (s.par.diesel.syncTimeout * 10000000)
    let drive (i : Nat) : State := { s with
      tb := t
      tac := { s.tac with permitOthers := others, permitPull := zero i }
      bsc := { s.bsc with session := { x with phase := .bits, bit := i, sampleNext := true, slot := .running t 50000 } } }
    (x.phase = .start → exec (.slotTimerExpiry others) s = .next (drive 0)) ∧
    (x.phase = .bits → x.sampleNext = false → exec (.slotTimerExpiry others) s = .next (drive (x.bit + 1))) ∧
    (x.phase = .bits → x.sampleNext = true → x.bit < 9 → zero x.bit = true ∨ s.tac.permitPull = false ∧ others = false →
      exec (.slotTimerExpiry others) s = .next { s with
        tb := t
        tac := { s.tac with permitOthers := others }
        bsc := { s.bsc with session := { x with sampleNext := false, slot := .running t 50000 } } }) ∧
    (x.phase = .bits → x.sampleNext = true → zero x.bit = false → others = true → s.ds.state = some .arbitrate →
      ∃ u, exec (.slotTimerExpiry others) s = .next u ∧ ended u ∧ synchronises u ∧ (∀ c, u.pulse c = s.pulse c) ∧
        u.kept = { s with tb := t, tac := { s.tac with permitOthers := others } }.kept) ∧
    (x.phase = .bits → x.sampleNext = true → x.bit = 9 → zero 9 = true ∨ s.tac.permitPull = false ∧ others = false →
      s.ds.state = some .arbitrate → ∃ u, exec (.slotTimerExpiry others) s = .next u ∧
        (s.mu.latest.map (·.busCondition) = some .live → ended u ∧ synchronises u ∧ ∀ c, u.pulse c = s.pulse c) ∧
        (s.mu.latest.map (·.busCondition) ≠ some .live → s.pulse .srcClose = .idle → s.pulse .srcTrip = .idle →
          s.level .srcCb ≠ .asserted →
          u.permitPhase = .close ∧ u.tac.permitPull = true ∧ u.ds.state = some .closing ∧ u.ds.deadBusClose = true ∧
            (u.pulse .srcClose).isActive = true ∧ (u.window .source).isWatching = true) ∧
        u.kept = { s with tb := t, tac := { s.tac with permitOthers := others } }.kept)

/-! ### The island link -/

/-- A fall of the line forms a character from its mid-bit samples, or is a glitch (R37); a character restarts the idle measure at its end
(R38), is an echo while SENDING, opens a burst after an end idle and only then, and is appended to an open one up to 35 (R48, R51). A
fall may come up to 20 ticks before the end of the last character (R37), when no idle has passed. While an attempt is sent the driver
holds each bit of each character for 40 ticks, start bit low, data least significant first, stop bit high, back to back (R37). The
model's readings in it (log 23): a receiver that waits without an end idle does not keep a character, a fall before the end of the
last character has no idle before it, and the echo of a character finished after a disabling is not kept. -/
def Obligations.FallsFormCharacters : Prop :=
  (∀ (fall : Tick) (bits : BitVec 10) (s : State), s.phase = .running →
    let char : LinkChar := ⟨bits.extractLsb' 1 8, !bits.getLsbD 9⟩
    let x := s.ilc
    let took (v : Ilc) : State := { s with tb := fall + 380, ilc := { v with idleSince := some (fall + 400), endIdle := false } }
    (bits.getLsbD 0 = true → exec (.characterReceived fall bits) s = .next { s with tb := fall + 20 }) ∧
    (bits.getLsbD 0 = false → x.started = false → exec (.characterReceived fall bits) s = .next { s with tb := fall + 380 }) ∧
    (bits.getLsbD 0 = false → x.started = true →
      (∀ k payload start echoes, x.transmitter = .sending k payload start echoes →
        exec (.characterReceived fall bits) s =
          .next (took { x with transmitter := .sending k payload start (echoes ++ [char]) })) ∧
      ((∀ k payload start echoes, x.transmitter ≠ .sending k payload start echoes) → x.finishing ≠ none →
        exec (.characterReceived fall bits) s = .next (took x)) ∧
      ((∀ k payload start echoes, x.transmitter ≠ .sending k payload start echoes) → x.finishing = none →
        (∀ burst overlong, x.receiver = .collecting burst overlong →
          exec (.characterReceived fall bits) s =
            .next (took { x with receiver :=
              if burst.length < 35 then .collecting (burst ++ [char]) overlong else .collecting burst true })) ∧
        (x.receiver = .waiting →
          x.endIdle = true ∨ (∃ since, x.idleSince = some since ∧ 400 < (since - fall).toNat ∧ 800 ≤ (fall - since).toNat) →
          exec (.characterReceived fall bits) s = .next (took { x with receiver := .collecting [char] false })) ∧
        (x.receiver = .waiting → x.endIdle = false →
          (∀ since, x.idleSince = some since → (since - fall).toNat ≤ 400 ∨ (fall - since).toNat < 800) →
          exec (.characterReceived fall bits) s = .next (took x)) ∧
        (x.receiver = .ignoring → exec (.characterReceived fall bits) s = .next (took x))))) ∧
  ∀ (k : FrameKind) (payload : List Byte) (start : Tick) (echoes : List LinkChar) (s : State),
    s.ilc.transmitter = .sending k payload start echoes →
    let sent := frameChars s.address k payload
    (∀ i c, i < 100 → sent[i]? = some c → ∀ bit tick, bit < 10 → tick < 40 →
      s.linkLevel (start + BitVec.ofNat 32 (400 * i + 40 * bit + tick)) =
        some (if bit = 0 then false else if bit = 9 then true else c.getLsbD (bit - 1))) ∧
    (∀ now, 400 * sent.length ≤ (now - start).toNat → s.linkLevel now = none)

/-- The nine checks of R52 decide whether a closed burst is a good frame; a burst that fails any of them is counted once and goes no
further (R51, R52). The first end idle after the start makes the receiver ready (R51). A notice from an address without an entry is
counted and goes no further (R53). -/
def Obligations.BurstsAreJudged : Prop :=
  (∀ (since : Tick) (s : State), s.phase = .running → s.ilc.idleSince = some since → s.ilc.counters.receiveErrors < 65535 →
    let ready (v : LinkCounters) : State :=
      { s with tb := since + 800, ilc := { s.ilc with receiver := .waiting, endIdle := true, counters := v } }
    (s.ilc.receiver = .ignoring → exec .firstEndIdle s = .next (ready s.ilc.counters)) ∧
    ∀ (burst : List LinkChar) (overlong : Bool), s.ilc.receiver = .collecting burst overlong →
      let chars := burst.map (·.byte)
      let c (i : Nat) : Nat := (chars.getD i 0).toNat
      let kind := c 2
      let length := c 3
      let feeders := c 16
      let body := (chars.drop 1).take (length + 3)
      let crc : BitVec 16 := body.foldl crcByte 0xFFFF
      let badFields : Prop :=
        kind = 1 ∧ (2 < c 4 ∨ 5 < c 5 ∨ c 7 < 2 ∨ 20 < c 7 ∨ (c 4 = 1 ∧ (c 14 = 0 ∨ 32 < c 14)) ∨ (c 4 ≠ 1 ∧ c 14 ≠ 0) ∨ 2 < c 15 ∨
            ∃ j, j < feeders ∧ (c (17 + 4 * j) / 16 = 0 ∨ 4 < c (17 + 4 * j) / 16 ∨ 6 < c (17 + 4 * j) % 16 ∨ c (18 + 4 * j) = 0 ∨
              (j + 1 < feeders ∧ c (21 + 4 * j) / 16 ≤ c (17 + 4 * j) / 16))) ∨
          kind = 2 ∧ c 4 ≠ 1 ∧ c 4 ≠ 2 ∨ kind = 3 ∧ (c 4 ≠ 1 ∧ c 4 ≠ 2 ∨ c 5 = 0 ∨ 32 < c 5) ∨
          kind = 4 ∧ (c 4 = 0 ∨ 4 < c 4 ∨ c 5 = 0)
      let bad : Prop :=
        (∃ x ∈ burst, x.framing = true) ∨ overlong = true ∨ chars.length < 6 ∨ c 0 ≠ 0xC5 ∨ c 1 = 0 ∨ 32 < c 1 ∨ kind = 0 ∨
          4 < kind ∨ (kind = 2 ∧ length ≠ 5) ∨ (3 ≤ kind ∧ length ≠ 4) ∨
          (kind = 1 ∧ (length < 13 ∨ 4 < feeders ∨ length ≠ 13 + 4 * feeders)) ∨ chars.length ≠ length + 6 ∨
          crc.toNat ≠ 256 * c (length + 4) + c (length + 5) ∨ badFields
      (bad → exec .burstClose s =
        .next (ready { s.ilc.counters with receiveErrors := s.ilc.counters.receiveErrors + 1 })) ∧
      (¬ bad → ∃ g, judgeBurst burst overlong = some g ∧ g.sender = c 1)) ∧
  (∀ (since : Tick) (burst : List LinkChar) (overlong : Bool) (g : GoodFrame) (s : State), s.phase = .running →
    s.ilc.idleSince = some since → s.ilc.receiver = .collecting burst overlong → judgeBurst burst overlong = some g →
    g.sender ≠ s.address → (∀ m, g.msg ≠ .status m) → (∀ e ∈ s.pv.table, e.address ≠ g.sender) →
    s.ilc.counters.unknownSender < 65535 →
    exec .burstClose s = .next { s with
      tb := since + 800
      ilc := { s.ilc with
        receiver := .waiting, endIdle := true
        counters := { s.ilc.counters with unknownSender := s.ilc.counters.unknownSender + 1 } } })

/-- A good STATUS of another station makes or replaces its sender's entry, FRESH, with both timers from the close instant (R53, R61, R62,
R63, R69); the intent record keeps its receipt time where the kind is the same. With no entry to make room for, the frame is counted. The
first FRESH entry takes AUTONOMOUS to COORDINATED where there is no address conflict, and a further one changes no mode (R69, R72). That a
start rank of 0 becomes the rank of an intent record is the model's choice (log 46). -/
def Obligations.StatusMakesEntryFresh : Prop :=
  ∀ (since : Tick) (burst : List LinkChar) (overlong : Bool) (a : Nat) (m : StatusMsg) (s : State), s.phase = .running →
    s.tableFormed → s.ilc.idleSince = some since → s.ilc.receiver = .collecting burst overlong →
    judgeBurst burst overlong = some ⟨a, .status m⟩ → a ≠ s.address →
    let before := s.pv.entry a
    ∃ u, exec .burstClose s = .next u ∧ u.tb = since + 800 ∧ u.mu = s.mu ∧ u.be = s.be ∧ u.mp = s.mp ∧
      (s.ilc.counters.received < 65535 → u.ilc.counters = { s.ilc.counters with received := s.ilc.counters.received + 1 }) ∧
      (∀ b, b ≠ a → u.pv.entry b = s.pv.entry b) ∧ u.pv.conflict = s.pv.conflict ∧
      (before = none → s.pv.table.length = 31 → u.pv.table = s.pv.table ∧
        (s.pv.tableFull < 65535 → u.pv.tableFull = s.pv.tableFull + 1)) ∧
      (before ≠ none ∨ s.pv.table.length < 31 → ∃ e, u.pv.entry a = some e ∧ u.pv.tableFull = s.pv.tableFull ∧
        e.address = a ∧ e.role = m.role ∧ e.summary = m.summary ∧ e.service = m.service ∧ e.noFreshPeers = m.noFreshPeers ∧
        e.unavailable = m.unavailable ∧ e.island = m.island ∧ e.interval = m.interval ∧ e.rating = m.rating ∧
        e.output = m.output ∧ e.minOrAvail = m.minOrAvail ∧ e.startRank = m.startRank ∧ e.feeders = m.feeders ∧
        e.receipt = since + 800 ∧ e.fresh = true ∧ e.staleTimer = .running (since + 800) (3 * (m.interval * 500000) + 1) ∧
        e.removalTimer = .running (since + 800) (10 * (m.interval * 500000)) ∧
        (m.intent = none → e.intent = none) ∧
        ∀ k, m.intent = some k → ∃ r, e.intent = some r ∧ r.kind = k ∧ r.rank = m.startRank ∧ r.rating = m.rating ∧
          (∀ old, before.bind (·.intent) = some old → old.kind = k → r.receipt = old.receipt) ∧
          ((∀ old, before.bind (·.intent) = some old → old.kind ≠ k) → r.receipt = since + 800)) ∧
      (before ≠ none ∨ s.pv.table.length < 31 → s.cr.mode = .autonomous → s.pv.conflict = false →
        (∀ e ∈ s.pv.table, e.fresh = false) → u.cr = { s.cr with mode := .coordinated }) ∧
      ((∃ e ∈ s.pv.table, e.fresh = true) → u.cr = s.cr)

/-- A notice of another station with an entry is applied to the entry and then reaches the jobs of its kind (R53, R65, R66, R67, R101,
R148): LOSS restarts the loss timer, STEP the step spacing timer, and a better start intent turns INTENT back to STANDBY (R103). -/
def Obligations.NoticesReachEntryAndJobs : Prop :=
  ∀ (since : Tick) (burst : List LinkChar) (overlong : Bool) (a : Nat) (msg : Msg) (e : Entry) (s : State), s.phase = .running →
    s.tableFormed → s.ilc.idleSince = some since → s.ilc.receiver = .collecting burst overlong →
    judgeBurst burst overlong = some ⟨a, msg⟩ → a ≠ s.address → s.pv.entry a = some e →
    let now := since + 800
    (∀ role output rating, msg = .loss role output rating → ∃ u, exec .burstClose s = .next u ∧
      u.pv.entry a = some { e with
        output := 0, intent := none
        summary := match e.role with | .genset => .failed | .solar => .idle | .noSource => e.summary } ∧
      (s.ds.state.isSome = true → u.ds.timers.loss = .running now 100000000)) ∧
    (∀ kind rank rating, msg = .intent kind rank rating → ∃ u, exec .burstClose s = .next u ∧
      u.pv.entry a = some { e with
        intent := some ⟨kind, rank, rating, now⟩
        summary := match kind with | .start => .pending | .stop => .leaving } ∧
      (s.ds.state = some .intent → kind = .start →
        rank < s.par.diesel.startRank ∨ rank = s.par.diesel.startRank ∧ a < s.address →
        ¬ (s.bsc.island = some .dark ∧ s.operating = true) →
        u.ds.state = some .standby ∧ u.ds.intent = none ∧ u.ds.timers.window = .stopped ∧
          u.ds.timers.holdoff = .running now (s.par.diesel.holdoff * 10000000)) ∧
      (s.ds.state = some .intent →
        (kind = .stop ∨ s.par.diesel.startRank < rank ∨ rank = s.par.diesel.startRank ∧ s.address < a) → u.ds = s.ds)) ∧
    (∀ port rank load, msg = .step port rank load → ∃ u e', exec .burstClose s = .next u ∧ u.pv.entry a = some e' ∧
      ⟨port, .closed, rank, load⟩ ∈ e'.feeders ∧
      (∀ r, r.port ≠ port → (r ∈ e'.feeders ↔ r ∈ e.feeders)) ∧ e'.feeders.Pairwise (fun x y => x.port < y.port) ∧
      { e' with feeders := e.feeders } = e ∧
      (s.cr.params.isSome = true → 1 ≤ s.par.station.feederCount →
        u.fl = { s.fl with spacing := .running now (10000000 *
          (if s.bsc.island = some .recover then s.par.restore.blackStepDwell else s.par.restore.stepDwell)) }))

/-- A good frame that bears the own address is an address conflict (R54, R56, R70, R72): counted, and at the first the flag, the
indication and the ALARM cause are set, the transmitter is DISABLED with an empty queue, and the station is AUTONOMOUS. -/
def Obligations.OwnAddressIsConflict : Prop :=
  ∀ (since : Tick) (burst : List LinkChar) (overlong : Bool) (msg : Msg) (s : State), s.phase = .running →
    s.ilc.idleSince = some since → s.ilc.receiver = .collecting burst overlong →
    judgeBurst burst overlong = some ⟨s.address, msg⟩ → s.ilc.counters.ownAddress < 65535 →
    ∃ u, exec .burstClose s = .next u ∧
      u.ilc.counters = { s.ilc.counters with ownAddress := s.ilc.counters.ownAddress + 1 } ∧
      u.ilc.conflict = true ∧ u.pv = { s.pv with conflict := u.pv.conflict } ∧ u.tb = since + 800 ∧ u.mu = s.mu ∧ u.be = s.be ∧
      (s.ilc.conflict = true → u = { s with
        tb := u.tb
        ilc := { s.ilc with receiver := .waiting, endIdle := true, counters := u.ilc.counters } }) ∧
      (s.ilc.conflict = false → u.pv.conflict = true ∧ u.tac.alarm.addressConflict = true ∧
        (s.ilc.started = true → u.ilc.transmitter = .disabled) ∧
        (s.senderFollows → u.ilc.slots = .empty ∧ u.ilc.status.isRunning = false) ∧
        (s.cr.mode = .coordinated ∨ s.cr.mode = .autonomous → u.cr.mode = .autonomous) ∧
        (s.cr.mode ≠ .coordinated → u.cr = s.cr))

/-- A status due instant (R43, R44, R45, R46): the frame of the own state waits in the STATUS slot, which keeps its attempt state, and
the timer runs for the interval and a jitter of up to an eighth of it, drawn from the generator. What the own STATUS says (R43): each
field from its owner, and one feeder record for each configured port. -/
def Obligations.StatusFallsDue : Prop :=
  (∀ (t : Tick) (x : BitVec 16) (s : State), s.due .status t → s.ilc.random = some x → s.ilc.transmitter.enabled = true →
    let y := lfsrDraw x
    let interval := s.par.station.statusInterval * 500000
    ∃ u, exec .statusTimerExpiry s = .next u ∧
      u = { s with
        tb := t
        ilc := { s.ilc with
          random := some y
          slots := { s.ilc.slots with status := { s.ilc.slots.status with frame := some (statusPayload s.ownStatus) } }
          status := .running t (interval + y.toNat * interval / 524288) } } ∧
      (x ≠ 0 → y ≠ 0)) ∧
  (∀ s : State,
    let m := s.ownStatus
    let st := s.par.station
    m.role = st.role ∧ m.interval = st.statusInterval ∧ (m.service = true ↔ s.cr.mode = .service) ∧
      (m.noFreshPeers = true ↔ ∀ e ∈ s.pv.table, e.fresh = false) ∧ (∀ i, s.bsc.island = some i → m.island = i) ∧
      m.intent = s.ds.intent.map (·.1) ∧
      (st.role = .noSource → m.summary = .absent ∧ m.rating = 0 ∧ m.output = 0 ∧ m.minOrAvail = 0 ∧ m.startRank = 0) ∧
      (st.role ≠ .noSource → m.rating = st.rating ∧ (m.output : Int) = clamp 0 65535 s.mu.mean.src) ∧
      (st.role = .genset → m.minOrAvail = s.par.diesel.minimumLoad ∧ m.startRank = s.par.diesel.startRank ∧
        ∀ d, s.ds.state = some d → m.summary = d.summary ∧ m.unavailable = d.unavailable) ∧
      (st.role = .solar → m.startRank = 0 ∧
        (m.minOrAvail : Int) = min (max (clamp 0 65535 s.mu.mean.avail) m.output) st.rating ∧
        ∀ x, s.sc.state = some x → m.summary = x.summary) ∧
      (st.role ≠ .genset → m.unavailable = false) ∧
      (m.feeders.Pairwise fun a b => a.port < b.port) ∧
      ∀ x, x ∈ m.feeders ↔ ∃ p r, p.num ≤ st.feederCount ∧ s.port p = some r ∧
        x = ⟨p.num, r.state, (s.par.port.get p).shedRank, min r.load 65535⟩)

/-- An attempt begins with the frame of highest priority that is eligible (R47): LOSS, INTENT, STEP, then STATUS, each after the idle gap,
its kind's extra delay and its slot's backoff, when that idle is met, or at the first instant at which one is. That the command leaves
the state where no frame waits is the model's choice (log 2). -/
def Obligations.AttemptTakesHighestPriority : Prop :=
  ∀ (since : Tick) (s : State), s.phase = .running → s.ilc.transmitter = .ready → s.ilc.receiver = .waiting →
    s.ilc.idleSince = some since → (s.tb - since).toNat < 2 ^ 31 →
    let need (k : FrameKind) : Nat :=
      1200 + (match k with | .status => 800 | _ => 0) + (s.ilc.slots.get k).backoff * 1600
    let waits (k : FrameKind) : Prop := (s.ilc.slots.get k).frame ≠ none
    let rank : FrameKind → Nat
      | .loss => 0
      | .intent => 1
      | .step => 2
      | .status => 3
    ((∀ k, ¬ waits k) → exec .attemptStart s = .next s) ∧
    ((∃ k, waits k) → ∃ k payload idle, (s.ilc.slots.get k).frame = some payload ∧ need k ≤ idle ∧
      (s.tb - since).toNat ≤ idle ∧ (∀ j, waits j → need j ≤ idle → rank k ≤ rank j) ∧
      ((s.tb - since).toNat < idle → ∀ j, waits j → idle ≤ need j) ∧
      exec .attemptStart s = .next { s with
        tb := since + BitVec.ofNat 32 idle
        ilc := { s.ilc with
          slots := s.ilc.slots.set k ⟨none, (s.ilc.slots.get k).attempts + 1, 0⟩
          transmitter := .sending k payload (since + BitVec.ofNat 32 idle) [] } })

/-- How an attempt ends (R48, R49, R50, R55, R56): every character echoed, it succeeds; the last echo mismatching, or none begun, it
fails, is counted, and waits again with a backoff that the attempt count widens, or is dropped at the fourth. A driver held after a
disabling is released at its character's end. The model's readings in it: a collision by a missing echo falls in the middle of the start
bit (log 15), and without any echo the receiver stays as it was (log 33). -/
def Obligations.AttemptsEnd : Prop :=
  (∀ (e : Tick) (s : State), s.phase = .running → s.ilc.finishing = some e →
    exec .disableDriverRelease s = .next { s with tb := e, ilc := { s.ilc with finishing := none } }) ∧
  ∀ (k : FrameKind) (payload : List Byte) (start : Tick) (echoes : List LinkChar) (s : State), s.phase = .running →
    s.ilc.transmitter = .sending k payload start echoes →
    let sent := frameChars s.address k payload
    let slot := s.ilc.slots.get k
    (∀ e, echoes = cleanBurst sent → s.ilc.idleSince = some e → s.ilc.counters.sent < 65535 →
      exec .attemptSuccess s = .next { s with
        tb := e
        ilc := { s.ilc with
          transmitter := .ready, slots := s.ilc.slots.set k { slot with attempts := 0, backoff := 0 }
          counters := { s.ilc.counters with sent := s.ilc.counters.sent + 1 } } }) ∧
    (∀ (noEcho : Bool) (x : BitVec 16), s.ilc.random = some x → s.ilc.counters.collisions < 65535 → s.ilc.counters.drops < 65535 →
      (if noEcho then echoes.length < sent.length
        else ∃ last c, echoes.getLast? = some last ∧ sent[echoes.length - 1]? = some c ∧ (last.byte ≠ c ∨ last.framing = true)) →
      ∃ u, exec (.collision noEcho) s = .next u ∧ u.ilc.transmitter = .ready ∧
        u.tb = (if noEcho then start + BitVec.ofNat 32 (400 * echoes.length + 20) else s.tb) ∧
        u.ilc.counters.collisions = s.ilc.counters.collisions + 1 ∧
        (∀ j, j ≠ k → u.ilc.slots.get j = s.ilc.slots.get j) ∧
        u.ilc.receiver = (if echoes = [] then s.ilc.receiver else .collecting echoes false) ∧
        (slot.attempts < 4 → u.ilc.random = some (lfsrDraw x) ∧ u.ilc.counters.drops = s.ilc.counters.drops ∧
          u.ilc.slots.get k = ⟨some (slot.frame.getD payload), slot.attempts,
            (lfsrDraw x).toNat * 2 ^ slot.attempts / 65536⟩ ∧ (u.ilc.slots.get k).backoff < 2 ^ slot.attempts) ∧
        (4 ≤ slot.attempts → u.ilc.random = some x ∧ u.ilc.counters.drops = s.ilc.counters.drops + 1 ∧
          u.ilc.slots.get k = ⟨slot.frame, 0, 0⟩) ∧
        u = { s with tb := u.tb, ilc := u.ilc })

/-- A frame of any kind, sent from any address, is read back as it was meant: the nine checks of R52 pass it and give its sender and
every field (R39 to R42). -/
def Obligations.FramesReadBack : Prop :=
  ∀ a : Nat, 1 ≤ a → a ≤ 32 →
    let read (k : FrameKind) (payload : List Byte) := judgeBurst (cleanBurst (frameChars a k payload)) false
    (∀ m : StatusMsg, m.wf → read .status (statusPayload m) = some ⟨a, .status m⟩) ∧
    (∀ (role : Role) (output rating : Nat), role ≠ .noSource → output ≤ 65535 → rating ≤ 65535 →
      read .loss (lossPayload role output rating) = some ⟨a, .loss role output rating⟩) ∧
    (∀ (kind : IntentKind) (rank rating : Nat), 1 ≤ rank → rank ≤ 32 → rating ≤ 65535 →
      read .intent (intentPayload kind rank rating) = some ⟨a, .intent kind rank rating⟩) ∧
    (∀ (port rank load : Nat), 1 ≤ port → port ≤ 4 → 1 ≤ rank → rank ≤ 255 → load ≤ 65535 →
      read .step (stepPayload port rank load) = some ⟨a, .step port rank load⟩)

/-! ### Freshness and the balance figures -/

/-- A stale timer's expiry makes the entry STALE and takes the station to AUTONOMOUS when no peer is FRESH any more (R63, R69, R72); a
removal timer's expiry takes the STALE entry out of the table (R63). With that change of mode the stop timer is cancelled, a stop intent
and an unload that are not forced go back to ONLINE, every other state of the set stands (R99), a swap in flight and the restore
qualification go, and the rest of the feeder ladder, the solar record, the island state and the lines stand (R147, R153, R155). -/
def Obligations.FreshnessTimersExpire : Prop :=
  ∀ (a : Nat) (t : Tick) (e : Entry) (s : State), s.tableFormed → s.pv.entry a = some e →
    (s.due (.stale a) t → ∃ u, exec (.staleTimerExpiry a) s = .next u ∧ u.tb = t ∧
      u.pv.entry a = some { e with fresh := false, staleTimer := .stopped } ∧
      (∀ b, b ≠ a → u.pv.entry b = s.pv.entry b) ∧ u.mu = s.mu ∧ u.be = s.be ∧ u.mp = s.mp ∧
      (e.fresh = true → s.cr.mode = .coordinated → (∀ b f, b ≠ a → s.pv.entry b = some f → f.fresh = false) →
        u.cr = { s.cr with mode := .autonomous } ∧
        u.fl = { s.fl with swap := none, qualTimer := .stopped, qualified := false } ∧
        u.sc = s.sc ∧ u.bsc = s.bsc ∧ u.tac = s.tac ∧ u.ret = s.ret ∧
        (s.ds.state = some .stopIntent → s.ds.forcedStop = false → u.ds.state = some .online ∧ u.ds.intent = none ∧
          u.ds.bias = s.ds.bias ∧ u.ds.timers = { s.ds.timers with stop := .stopped, window := .stopped }) ∧
        (s.ds.state = some .unload → s.ds.forcedStop = false → u.ds.state = some .online ∧ u.ds.bias = s.ds.bias ∧
          u.ds.timers = { s.ds.timers with stop := .stopped, unload := .stopped }) ∧
        (s.ds.forcedStop = true ∨ s.ds.state ≠ some .stopIntent ∧ s.ds.state ≠ some .unload →
          u.ds = { s.ds with timers := { s.ds.timers with stop := .stopped } })) ∧
      ((e.fresh = false ∨ ∃ b f, b ≠ a ∧ s.pv.entry b = some f ∧ f.fresh = true) → u.cr = s.cr ∧ u.ds = s.ds ∧ u.fl = s.fl)) ∧
    (s.due (.removal a) t → e.fresh = false → exec (.removalTimerExpiry a) s = .next { s with
      tb := t, pv := { s.pv with table := s.pv.table.filter fun x => x.address != a } })

/-- At the balance timer's expiry the timer restarts, the means of the period are formed and the sums emptied, or the means held where no
cycle closed, and the figures record is replaced whole (R16, R76, R77). That the own output figure is 0 at a station of role NONE is the
model's choice (log 34). -/
def Obligations.BalanceExpiryHandsOver : Prop :=
  ∀ (t : Tick) (s : State), s.due .balance t →
    let x := s.mu.sums
    ∃ u, exec .balancePeriodExpiry s = .next u ∧ u.tb = t ∧
      u.be.timer = .running t (s.par.station.balancePeriod * 500000) ∧
      u.mu = { s.mu with mean := u.mu.mean, sums := u.mu.sums } ∧ u.mu.mean.f = s.mu.latest.bind (·.f) ∧
      (x.count = 0 → u.mu.mean = { s.mu.mean with f := u.mu.mean.f } ∧ u.mu.sums = x) ∧
      (0 < x.count → u.mu.mean.src = roundDiv x.src x.count ∧ u.mu.mean.avail = roundDiv x.avail x.count ∧
        (∀ p, u.mu.mean.feeder.get p = roundDiv (x.feeder.get p) x.count) ∧ u.mu.sums = .empty) ∧
      u.be.figures.computedAt = t ∧ u.be.figures.count = (s.be.figures.count + 1) % 65536 ∧ u.be.figures.f = u.mu.mean.f ∧
      u.be.figures.viewSize = (if s.pv.conflict then 0 else s.pv.freshCount) ∧
      (u.be.figures.ownOutput : Int) =
        (if s.par.station.role = .noSource then 0 else clamp 0 65535 u.mu.mean.src) ∧
      u.pv = s.pv ∧ u.cr = s.cr ∧ u.mp = s.mp ∧ u.tac.inputs = s.tac.inputs ∧ u.address = s.address ∧ u.pending = s.pending

/-- The island sums (R71, R78, R79, R80) over the own station and the FRESH entries, none of which count while the conflict indication is
set: each station enters a sum by its role and summary. That the own available figure is 0 at a GENSET or NONE station is the model's
choice (log 34). -/
def Obligations.IslandSumsCountStations : Prop :=
  ∀ (t : Tick) (s : State), s.due .balance t →
    ∃ u, exec .balancePeriodExpiry s = .next u ∧
      let g := u.be.figures
      let st := s.par.station
      let peers := if s.pv.conflict then [] else s.pv.table.filter (·.fresh)
      let peerSum (role : Role) (counted : Summary → Bool) (term : Entry → Nat) : Nat :=
        ((peers.filter fun e => e.role == role && counted e.summary).map term).sum
      let own (role : Role) (counted : Summary → Bool) (term : Nat) : Nat :=
        if st.role = role ∧ counted s.summary = true then term else 0
      let online (x : Summary) : Bool := x == .online
      let available := min (max (clamp16 u.mu.mean.avail) g.ownOutput) st.rating
      g.cOn = own .genset online st.rating + peerSum .genset online (·.rating) ∧
        g.pGen = own .genset (fun x => x == .online || x == .leaving) g.ownOutput +
          peerSum .genset (fun x => x == .online || x == .leaving) (·.output) ∧
        g.mMin = own .genset online s.par.diesel.minimumLoad + peerSum .genset online (·.minOrAvail) ∧
        g.cPend = own .genset (· == .pending) st.rating + peerSum .genset (· == .pending) (·.rating) ∧
        g.pPv = own .solar online g.ownOutput + peerSum .solar online (·.output) ∧
        g.aPv = own .solar online available + peerSum .solar online (·.minOrAvail) ∧
        g.ownAvailable = if st.role = .solar then available else 0

/-- The figures that the BE forms from the sums and the candidate (R81, R83, R84, R85, R86, R87, R88). The shed demand is
floor(k × load / 100) of the candidate, 0 to 196,605 kW, and 0 without one (R83). The solar allowance is L − M_min − curtail margin, 0
where that lies below 0, in 0 to 2,097,120; with no diesel ONLINE, M_min is 0 and the allowance is the load estimate less the curtail
margin (R87). -/
def Obligations.FiguresFollowSums : Prop :=
  (∀ (t : Tick) (s : State), s.due .balance t →
    ∃ u, exec .balancePeriodExpiry s = .next u ∧
      let g := u.be.figures
      let st := s.par.station
      let b := s.par.balance
      let r : Int := (g.cOn : Int) - g.pGen
      let own : Int := st.rating
      let pendOther : Int := if s.summary = .pending then g.cPend - own else g.cPend
      g.reserve = r ∧ g.load = g.pGen + g.pPv ∧ g.requirement = max b.fixedReserve (b.pvCover * g.pPv / 100) ∧
        g.shedDemand = (match g.candidate with | some c => c.coldLoad * c.load / 100 | none => 0) ∧
        (g.startNeed = true ↔ r + g.cPend < g.requirement + g.shedDemand) ∧
        (g.startNeedOther = true ↔ r + pendOther < g.requirement + g.shedDemand) ∧
        (g.stopPossible = true ↔ st.role = .genset ∧ s.summary = .online ∧ (g.requirement : Int) + b.stopMargin ≤ r - own ∧
          0 < g.cOn - own) ∧
        (g.overload = true ↔ r < 0 ∧ g.cPend = 0) ∧ (g.overloadDemand = if r < 0 then -r + b.deficitMargin else 0) ∧
        g.headroom = r - g.requirement ∧
        (g.candidateFits = true ↔ g.candidate ≠ none ∧ (g.shedDemand : Int) ≤ g.headroom) ∧
        (g.allowance = if (g.load : Int) - g.mMin - b.curtailMargin < 0 then 0 else (g.load : Int) - g.mMin - b.curtailMargin) ∧
        g.ownShare = (if st.role = .solar ∧ s.summary = .online ∧ 0 < g.aPv then g.allowance * g.ownAvailable / g.aPv else 0)) ∧
  (∀ (t : Tick) (s : State), s.due .balance t →
    ∃ u, exec .balancePeriodExpiry s = .next u ∧
      (u.be.figures.candidate = none → u.be.figures.shedDemand = 0) ∧
      (∀ c, u.be.figures.candidate = some c → 100 * u.be.figures.shedDemand ≤ c.coldLoad * c.load ∧
        c.coldLoad * c.load < 100 * (u.be.figures.shedDemand + 1)) ∧
      (s.tableFormed → (∀ p, (s.par.port.get p).coldLoad ≤ 300) → (∀ p r, s.port p = some r → r.load ≤ 65535) →
        u.be.figures.shedDemand ≤ 196605)) ∧
  (∀ (t : Tick) (s : State), s.due .balance t → s.tableFormed →
    ∃ u, exec .balancePeriodExpiry s = .next u ∧
      let g := u.be.figures
      let margin : Int := s.par.balance.curtailMargin
      ((g.load : Int) - g.mMin - margin < 0 → g.allowance = 0) ∧
        (0 ≤ (g.load : Int) - g.mMin - margin → g.allowance = (g.load : Int) - g.mMin - margin) ∧
        0 ≤ g.allowance ∧ g.allowance ≤ 2097120 ∧
        ((∀ e ∈ s.view, ¬ (e.role = .genset ∧ e.summary = .online)) →
          ¬ (s.par.station.role = .genset ∧ s.summary = .online) → g.mMin = 0 ∧ g.allowance = max 0 ((g.load : Int) - margin)))

/-- The restore candidate is the first of the own and the peers' SHED and BLACK-OPEN records in R82's order: BLACK-OPEN first, then shed
rank descending, address and port ascending; it is absent exactly where there is no such record. -/
def Obligations.CandidateIsFirst : Prop :=
  ∀ (t : Tick) (s : State), s.due .balance t →
    ∃ u, exec .balancePeriodExpiry s = .next u ∧
      let isRecord (c : Candidate) : Prop :=
        (c.state = .shed ∨ c.state = .blackOpen) ∧
          ((∃ p r, s.port p = some r ∧ c = ⟨s.address, p.num, r.state, (s.par.port.get p).shedRank, r.load, (s.par.port.get p).coldLoad⟩) ∨
            ∃ e ∈ s.view, ∃ r ∈ e.feeders, c = ⟨e.address, r.port, r.state, r.shedRank, r.load, 150⟩)
      let precedes (a b : Candidate) : Prop :=
        (a.state = .blackOpen ∧ b.state = .shed) ∨
          a.state = b.state ∧ (b.shedRank < a.shedRank ∨
            a.shedRank = b.shedRank ∧ (a.address < b.address ∨ a.address = b.address ∧ a.port < b.port))
      ((∀ c, ¬ isRecord c) ↔ u.be.figures.candidate = none) ∧
        ∀ c, u.be.figures.candidate = some c → isRecord c ∧ ∀ d, isRecord d → ¬ precedes d c

/-! ### Solar cap -/

/-- The run of the cap chain at new figures (R128 to R131, R133): share, frequency-watt, raw and ramp-limited caps, the override by island
state and mode, and the cap code, which the TAC takes. For parameters in their ranges the ramp step lies in 1 to 10,000 kW, the rise of
the limited cap in one run is at most one step, and a fall is taken in full (R130); from a last cap of 0 or more, with a fallback cap
within the rating, the commanded cap lies in 0 to the rating (R131). -/
def Obligations.CapChainRuns : Prop :=
  (∀ (t : Tick) (s : State), s.due .balance t → s.sc.state.isSome = true →
    let q := s.par.solar
    let rating : Int := s.par.station.rating
    let step : Int := max 1 (s.par.station.rating * q.ramp * (s.par.station.balancePeriod * 50) / 6000000 : Nat)
    let limit (target : Int) : Int := if s.sc.lastCap < target then min target (s.sc.lastCap + step) else target
    let nominal : Int := s.par.station.nominalHz * 1000
    ∃ u, exec .balancePeriodExpiry s = .next u ∧
      let x := u.sc
      let g := u.be.figures
      x.state = s.sc.state ∧ x.trip = s.sc.trip ∧ x.runCount = (s.sc.runCount + 1) % 65536 ∧
        x.shareCap = min g.ownShare rating ∧
        (∀ f, g.f = some f → nominal + q.fwDeadband < f → x.fwCap =
          max 0 (rating - rating * q.fwSlope * ((f : Int) - nominal - q.fwDeadband) / 100000)) ∧
        ((∀ f, g.f = some f → (f : Int) ≤ nominal + q.fwDeadband) → x.fwCap = rating) ∧
        x.rawCap = min x.shareCap x.fwCap ∧ x.limitedCap = limit x.rawCap ∧
        (x.override, x.finalCap) =
          (if s.bsc.island = some .deadWait ∨ s.bsc.island = some .dark then (CapOverride.dark, 0)
          else if s.cr.mode = .startup ∨ s.cr.mode = .fault then (CapOverride.fault, 0)
          else if s.cr.mode = .service ∨ s.cr.mode = .autonomous then (CapOverride.fallback, limit q.fallbackCap)
          else (CapOverride.plain, x.limitedCap)) ∧
        x.lastCap = x.finalCap ∧
        (x.code : Int) = clamp 0 4095 (roundDiv (x.finalCap * 4095) s.par.station.rating + q.capOffset) ∧ u.tac.capCode = x.code) ∧
  (∀ (t : Tick) (s : State), s.due .balance t → s.sc.state.isSome = true →
    s.par.station.rating ≤ 20000 → s.par.solar.ramp ≤ 100 → s.par.station.balancePeriod ≤ 10 →
    let step := s.par.station.rating * s.par.solar.ramp * (s.par.station.balancePeriod * 50) / 6000000
    ∃ u, exec .balancePeriodExpiry s = .next u ∧
      (∃ rise : Int, (rise = if step < 1 then 1 else (step : Int)) ∧ 1 ≤ rise ∧ rise ≤ 10000 ∧
        (s.sc.lastCap < u.sc.rawCap → u.sc.limitedCap = min u.sc.rawCap (s.sc.lastCap + rise)) ∧
        (u.sc.rawCap ≤ s.sc.lastCap → u.sc.limitedCap = u.sc.rawCap) ∧ u.sc.limitedCap ≤ s.sc.lastCap + rise) ∧
      (0 ≤ s.sc.lastCap → s.par.solar.fallbackCap ≤ s.par.station.rating →
        0 ≤ u.sc.finalCap ∧ u.sc.finalCap ≤ s.par.station.rating))

/-! ### Diesel sequencing -/

/-- The bias step at new figures (R112), in COORDINATED and AUTONOMOUS: the integrator when online, the slip in SYNC, the unload rate, held
at 0 before and after a run, and frozen in SERVICE and FAULT. -/
def Obligations.BiasStepsByState : Prop :=
  ∀ (t : Tick) (s : State) (d : DieselState), s.due .balance t → s.ds.state = some d →
    let step (error : Int) : Int := clamp (-1000) 1000 (s.ds.bias + Int.tdiv (-error * s.par.diesel.ki) 1000)
    let nominal : Int := s.par.station.nominalHz * 1000
    ∃ u, exec .balancePeriodExpiry s = .next u ∧
      (s.operating = false → u.ds.bias = s.ds.bias ∧ u.ds.state = some d) ∧
      (s.operating = true → d = .online ∨ d = .stopIntent →
        u.ds.bias = match s.mu.latest.bind (·.f) with | some f => step ((f : Int) - nominal) | none => s.ds.bias) ∧
      (s.operating = true → d = .sync →
        u.ds.bias = match s.mu.latest.bind (·.sync) with | some x => step x.slip | none => s.ds.bias) ∧
      (s.operating = true → d = .unload →
        u.ds.bias = max (-1000) (s.ds.bias - (s.par.diesel.unloadRate * (s.par.station.balancePeriod * 50) / 1000 : Nat))) ∧
      (s.operating = true → d = .closing ∨ d = .opening ∨ d = .cooldown → u.ds.bias = s.ds.bias) ∧
      (s.operating = true → d = .crank ∨ d = .rest ∨ d = .spool ∨ d = .arbitrate ∨ d = .off ∨ d = .standby ∨ d = .intent ∨
        d = .failed → u.ds.bias = 0)

/-- The start judgement in STANDBY at new figures (R101, R102): with the need broken need-since goes; otherwise it counts from the first
expiry of the run, and INTENT is entered once the start delay and one intent window for each better set have passed. What the other states make of new figures: a start intent is withdrawn for a better one in the view, or when the need
without the own pending set is gone (R103); a set ONLINE starts, keeps or cancels the stop timer by the stop test (R113); a stop intent
that is not forced is withdrawn for a worse one in the view, or when a stop is no longer possible (R114); an unload that is not forced
is abandoned on a start need, and ends in OPENING with the trip at or below the threshold (R115). -/
def Obligations.StartIsJudged : Prop :=
  (∀ (t : Tick) (s : State), s.due .balance t → s.operating = true → s.islandUp = true → s.ds.state = some .standby →
    s.ds.timers.holdoff = .stopped →
    let better (e : Entry) : Bool :=
      e.role == .genset && e.summary == .idle && !e.unavailable &&
        (decide (e.startRank < s.par.diesel.startRank) ||
          (e.startRank == s.par.diesel.startRank && decide (e.address < s.address)))
    let position := (s.view.filter better).length
    let delay := (if s.ds.timers.loss.isRunning then 0 else s.par.diesel.startDelay * 10000000) +
      position * (s.par.diesel.intentWindow * 10000)
    let since := s.ds.needSince.getD t
    ∃ u, exec .balancePeriodExpiry s = .next u ∧
      (u.be.figures.startNeed = false → u.ds.state = some .standby ∧ u.ds.needSince = none) ∧
      (u.be.figures.startNeed = true → (t - since).toNat < delay → u.ds.state = some .standby ∧ u.ds.needSince = some since) ∧
      (u.be.figures.startNeed = true → delay ≤ (t - since).toNat →
        u.ds.state = some .intent ∧ u.ds.needSince = none ∧ u.ds.intent = some (.start, t) ∧ u.ds.crankCount = 0 ∧
        u.ds.timers.window = .running t (s.par.diesel.intentWindow * 10000) ∧
        (s.ilc.transmitter.enabled = true →
          u.ilc.slots.intent.frame = some (intentPayload .start s.par.diesel.startRank s.par.station.rating)))) ∧
  (∀ (t : Tick) (s : State), s.due .balance t → s.operating = true →
    let d := s.ds
    let q := s.par.diesel
    let before (rank address : Nat) : Prop := rank < q.startRank ∨ rank = q.startRank ∧ address < s.address
    let behind (rank address : Nat) : Prop := q.startRank < rank ∨ rank = q.startRank ∧ s.address < address
    let betterStart : Prop := ∃ e ∈ s.view, ∃ r, e.intent = some r ∧ r.kind = .start ∧ before r.rank e.address
    let worseStop : Prop := ∃ e ∈ s.view, ∃ r, e.intent = some r ∧ r.kind = .stop ∧ behind r.rank e.address
    let worst : Prop := ∀ e ∈ s.view, e.role = .genset → e.summary = .online → before e.startRank e.address
    ∃ u, exec .balancePeriodExpiry s = .next u ∧
      let g := u.be.figures
      let stays : Prop := u.ds.state = d.state ∧ u.ds.intent = d.intent ∧ u.ds.timers = d.timers
      (d.state = some .intent → s.bsc.island ≠ some .dark → betterStart ∨ g.startNeedOther = false →
        u.ds.state = some .standby ∧ u.ds.intent = none ∧
          u.ds.timers = { d.timers with window := .stopped, holdoff := .running t (q.holdoff * 10000000) }) ∧
      (d.state = some .intent → ¬ betterStart → g.startNeedOther = true → stays) ∧
      (d.state = some .online → s.cr.mode = .coordinated → d.forcedStop = false → u.ds.state = some .online ∧
        (g.stopPossible = true → worst → u.ds.timers = { d.timers with
          stop := if d.timers.stop = .stopped then .running t (q.stopDelay * 10000000) else d.timers.stop }) ∧
        (g.stopPossible = false ∨ ¬ worst → u.ds.timers = { d.timers with stop := .stopped })) ∧
      (d.state = some .online → s.cr.mode = .autonomous ∨ d.forcedStop = true → stays) ∧
      (d.state = some .stopIntent → d.forcedStop = false → worseStop ∨ g.stopPossible = false →
        u.ds.state = some .online ∧ u.ds.intent = none ∧ u.ds.timers = { d.timers with window := .stopped }) ∧
      (d.state = some .stopIntent → d.forcedStop = true ∨ ¬ worseStop ∧ g.stopPossible = true → stays) ∧
      (d.state = some .unload → d.forcedStop = false → g.startNeed = true →
        u.ds.state = some .online ∧ u.ds.timers = { d.timers with unload := .stopped }) ∧
      (d.state = some .unload → d.forcedStop = true ∨ g.startNeed = false → g.ownOutput ≤ q.unloadThreshold →
        s.pulse .srcTrip = .idle → s.level .srcCb ≠ .released →
        u.ds.state = some .opening ∧ u.ds.timers = { d.timers with unload := .stopped } ∧ (u.pulse .srcTrip).isActive = true ∧
          u.pulse .srcClose = .idle ∧ u.window .source = .watching .ds false (.running t (q.confirmTime * 10000))) ∧
      (d.state = some .unload → d.forcedStop = true ∨ g.startNeed = false → q.unloadThreshold < g.ownOutput → stays) ∧
      (d.state = some .online ∨ d.state = some .stopIntent ∨ d.state = some .intent ∧ s.bsc.island ≠ some .dark →
        (∀ k, k = .srcClose ∨ k = .srcTrip ∨ k = .crank → u.pulse k = s.pulse k) ∧ u.window .source = s.window .source ∧
          u.ret.run = s.ret.run ∧ u.ret.lockout = s.ret.lockout))

/-- The window timer's expiry (R104, R105, R114): from INTENT to CRANK with RUN SET and one crank pulse counted, or straight to SPOOL where
the engine runs already; from STOP-INTENT to UNLOAD with its timer. The rest timer cranks again while attempts are left and fails otherwise
(R106); the spool timer's end is judged by the source and the island (R107); the sync timeout fails the set (R109). RUN_FB in the start
sequence (R105, R106, R107, R109, R110, R111): asserted, it ends CRANK and REST in SPOOL; released, it fails SPOOL, SYNC, ARBITRATE, whose
session ends, and CLOSING, whose breaker is tripped and for which no LOSS is sent; in any other state but those of a set that is online it
does nothing. The model's readings in it: RUN_FB released in SYNC acts at its qualification and not at the next record only (log 28), and
the bias is written 0 at the entry to CRANK and to SPOOL (log 11). -/
def Obligations.StartTimersExpire : Prop :=
  (∀ (t : Tick) (s : State), s.due .window t →
    (s.ds.state = some .intent → ∃ u, exec .windowTimerExpiry s = .next u ∧ u.ds.intent = none ∧ u.ret.run = true ∧
      u.ds.bias = 0 ∧ u.tac.pwm = 0 ∧ u.ds.timers.window = .stopped ∧
      (s.level .runFb ≠ .asserted → u.ds.state = some .crank ∧ u.ds.crankCount = s.ds.crankCount + 1 ∧
        (s.pulse .crank = .idle → u.pulse .crank = .active .ds (.running t
          (if s.par.diesel.crankTime < 1 then 10000000 else if 15 < s.par.diesel.crankTime then 150000000
            else s.par.diesel.crankTime * 10000000)))) ∧
      (s.level .runFb = .asserted → u.ds.state = some .spool ∧ u.ds.crankCount = s.ds.crankCount ∧
        u.pulse .crank = s.pulse .crank ∧ u.ds.timers.spool = .running t (s.par.diesel.spoolTime * 10000000)) ∧
      (∀ c, c ≠ .crank → u.pulse c = s.pulse c) ∧ u.fl = s.fl ∧ u.sc = s.sc ∧ u.bsc = s.bsc ∧
      u.kept = { s with tb := t }.kept) ∧
    (s.ds.state = some .stopIntent → exec .windowTimerExpiry s = .next { s with
      tb := t
      ds := { s.ds with
        state := some .unload, intent := none, needSince := none, deadBusClose := false, closingInhibit := false
        timers := { s.ds.timers with
          window := .stopped, unload := .running t (s.par.diesel.unloadTimeout * 10000000) } } })) ∧
  (∀ (t : Tick) (s : State),
    let next (c : Instr) (holds : State → Prop) : Prop := ∃ u, exec c s = .next u ∧ holds u ∧ u.kept = { s with tb := t }.kept ∧ u.fl = s.fl
    let failed (u : State) : Prop := u.ds.state = some .failed ∧ u.ret.run = false ∧ u.ret.lockout = true ∧ u.ds.bias = 0
    (s.due .rest t → s.ds.state = some .rest → s.ds.crankCount < s.par.diesel.attempts → s.level .runFb ≠ .asserted →
      next .restTimerExpiry fun u => u.ds.state = some .crank ∧ u.ds.crankCount = s.ds.crankCount + 1 ∧ u.ret.run = true ∧
        (u.pulse .crank).isActive = true) ∧
    (s.due .rest t → s.ds.state = some .rest → s.par.diesel.attempts ≤ s.ds.crankCount → next .restTimerExpiry failed) ∧
    (s.due .spool t → s.ds.state = some .spool → ∀ r, s.mu.latest = some r →
      let ready := r.srcCondition = .live ∧ r.fSrc.isSome = true
      (ready → s.bsc.island = some .live ∨ s.bsc.island = some .recover →
        next .spoolTimerExpiry fun u => u.ds.state = some .sync ∧ u.ds.good = 0 ∧
          u.ds.timers.sync = .running t (s.par.diesel.syncTimeout * 10000000)) ∧
      (ready → s.bsc.island = some .dark → s.permitPhase = .idle → s.ilc.conflict = false →
        next .spoolTimerExpiry fun u => u.ds.state = some .arbitrate ∧ u.permitPhase = .waiting ∧ u.tac.permitEdges = true) ∧
      (ready → s.bsc.island = some .deadWait → exec .spoolTimerExpiry s =
        .next { s with tb := t, ds := { s.ds with timers := { s.ds.timers with spool := .stopped } } }) ∧
      (¬ ready → next .spoolTimerExpiry failed)) ∧
    (s.due .sync t → s.ds.state = some .sync → next .syncTimeoutExpiry failed)) ∧
  (∀ s : State,
    let asserted := s.qualify .runFb true
    let released := s.qualify .runFb false
    let next (n : State) (holds : State → Prop) : Prop :=
      ∃ u, exec (.inputQualified .runFb) s = .next u ∧ holds u ∧ u.kept = n.kept ∧ u.fl = s.fl ∧ u.sc = s.sc ∧ u.ilc = s.ilc
    let spools (u : State) : Prop :=
      u.ds.state = some .spool ∧ u.ds.bias = 0 ∧ u.pulse .crank = .idle ∧ u.ret = s.ret ∧ u.bsc = s.bsc ∧
        (∀ c, c ≠ .crank → u.pulse c = s.pulse c) ∧ u.ds.crankCount = s.ds.crankCount
    let spool : Timer := .running s.tb (s.par.diesel.spoolTime * 10000000)
    let failed (u : State) : Prop := u.ds.state = some .failed ∧ u.ret.run = false ∧ u.ret.lockout = true ∧ u.ds.bias = 0
    (s.qualifies .runFb true →
      (s.ds.state = some .crank → next asserted fun u => spools u ∧ u.ds.timers = { s.ds.timers with spool }) ∧
      (s.ds.state = some .rest → s.pulse .crank = .idle →
        next asserted fun u => spools u ∧ u.ds.timers = { s.ds.timers with rest := .stopped, spool }) ∧
      (s.ds.state ≠ some .crank → s.ds.state ≠ some .rest → exec (.inputQualified .runFb) s = .next asserted)) ∧
    (s.qualifies .runFb false →
      (s.ds.state = some .spool ∨ s.ds.state = some .sync → next released fun u => failed u ∧ u.bsc = s.bsc ∧
        ∀ c, c ≠ .crank → u.pulse c = s.pulse c) ∧
      (s.ds.state = some .arbitrate → next released fun u => failed u ∧ (∀ c, c ≠ .crank → u.pulse c = s.pulse c) ∧
        (s.contending = true → u.permitPhase = .idle ∧ u.tac.permitPull = false)) ∧
      (s.ds.state = some .closing → next released fun u => failed u ∧ (u.pulse .srcTrip).isActive = true ∧
        ((s.pulse .srcTrip).isActive = false → u.pulse .srcClose = .idle) ∧
        (s.ds.deadBusClose = true → s.permitPhase = .close → u.permitPhase = .idle ∧ u.tac.permitPull = false)) ∧
      (s.ds.state = none ∨ s.ds.state = some .off ∨ s.ds.state = some .standby ∨ s.ds.state = some .intent ∨
          s.ds.state = some .crank ∨ s.ds.state = some .rest ∨ s.ds.state = some .opening ∨ s.ds.state = some .cooldown ∨
          s.ds.state = some .failed → exec (.inputQualified .runFb) s = .next released)))

/-- The stop timer opens a stop intent (R113, R114); the unload timer trips into OPENING (R115); the cooldown timer ends the run, to
STANDBY or OFF by INHIBIT (R116); the release of SRC_CB that confirms the trip starts it (R116). INHIBIT, asserted and released, acts on
each state as R100's table gives, and a release clears a lockout at which it was seen (R119). The model's readings in it: the bias is
written 0 at the entry to OFF and to STANDBY (log 11), and the entry to STOP-INTENT cancels the stop timer (log 30). -/
def Obligations.StopTimersExpire : Prop :=
  (∀ (t : Tick) (s : State),
    (s.due .stop t → s.ds.state = some .online → ∃ u, exec .stopTimerExpiry s = .next u ∧ u.ds.state = some .stopIntent ∧
      u.ds.intent = some (.stop, t) ∧ u.ds.timers.window = .running t (s.par.diesel.intentWindow * 10000) ∧
      u.ds.timers.stop = .stopped ∧ u.ds.bias = s.ds.bias ∧ u.ret = s.ret ∧
      (s.ilc.transmitter.enabled = true →
        u.ilc.slots.intent.frame = some (intentPayload .stop s.par.diesel.startRank s.par.station.rating)) ∧
      u.kept = { s with tb := t }.kept ∧ u.fl = s.fl) ∧
    (s.due .unload t → s.ds.state = some .unload → s.level .srcCb ≠ .released → s.pulse .srcTrip = .idle →
      ∃ u, exec .unloadTimerExpiry s = .next u ∧ u.ds.state = some .opening ∧ u.ds.timers.unload = .stopped ∧
        (u.pulse .srcTrip).isActive = true ∧ u.pulse .srcClose = .idle ∧
        u.window .source = .watching .ds false (.running t (s.par.diesel.confirmTime * 10000)) ∧ u.ret = s.ret ∧
        u.ds.bias = s.ds.bias ∧ u.kept = { s with tb := t }.kept ∧ u.fl = s.fl) ∧
    (s.due .cooldown t → s.ds.state = some .cooldown → s.bsc.island ≠ some .dark →
      ∃ u, exec .cooldownTimerExpiry s = .next u ∧
        u.ds.state = some (if s.level .inhibit = .asserted then .off else .standby) ∧ u.ret = { s.ret with run := false } ∧
        u.ds.bias = 0 ∧ u.ds.forcedStop = false ∧ (∀ c, u.pulse c = s.pulse c) ∧ u.kept = { s with tb := t }.kept ∧ u.fl = s.fl)) ∧
  (∀ (x : Timer) (s : State), s.qualifies .srcCb false → s.ds.state = some .opening → s.window .source = .watching .ds false x →
    ∃ u, exec (.inputQualified .srcCb) s = .next u ∧ u.ds.state = some .cooldown ∧
      u.ds.timers = { s.ds.timers with cooldown := .running s.tb (s.par.diesel.cooldown * 10000000) } ∧
      u.ds.bias = s.ds.bias ∧ u.ret = s.ret ∧ u.window .source = .closedOut ∧ (∀ c, u.pulse c = s.pulse c) ∧
      u.kept = (s.qualify .srcCb false).kept ∧ u.fl = s.fl ∧ u.sc = s.sc ∧ u.bsc = s.bsc) ∧
  (∀ s : State,
    let asserted := s.qualify .inhibit true
    let released := s.qualify .inhibit false
    let next (n : State) (holds : State → Prop) : Prop :=
      ∃ u, exec (.inputQualified .inhibit) s = .next u ∧ holds u ∧ (∀ c, c ≠ .crank → u.pulse c = s.pulse c) ∧
        u.kept = n.kept ∧ u.fl = s.fl ∧ u.sc = s.sc
    let offWith (timers : DieselTimers) (run : Bool) : Prop := next asserted fun u =>
      u.ds.state = some .off ∧ u.ds.intent = none ∧ u.ds.needSince = none ∧ u.ds.bias = 0 ∧ u.ds.timers = timers ∧
        u.ret = { s.ret with run }
    let t := s.ds.timers
    (s.qualifies .inhibit true →
      (s.ds.state = some .off ∨ s.ds.state = some .opening ∨ s.ds.state = some .cooldown →
        exec (.inputQualified .inhibit) s = .next asserted) ∧
      (s.ds.state = some .closing →
        exec (.inputQualified .inhibit) s = .next { asserted with ds := { s.ds with closingInhibit := true } }) ∧
      (s.ds.state = some .failed →
        exec (.inputQualified .inhibit) s = .next { asserted with ds := { s.ds with inhibitSeen := true } }) ∧
      (s.operating = false → s.ds.state = some .standby ∨ s.ds.state = some .online →
        exec (.inputQualified .inhibit) s = .next asserted) ∧
      (s.operating = true →
        (s.ds.state = some .standby → s.ds.intent = none → offWith { t with holdoff := .stopped } s.ret.run) ∧
        (s.ds.state = some .intent → offWith { t with window := .stopped } s.ret.run) ∧
        (s.ds.intent = none →
          (s.ds.state = some .crank → offWith t false ∧ next asserted fun u => u.pulse .crank = .idle) ∧
          (s.ds.state = some .rest → offWith { t with rest := .stopped } false) ∧
          (s.ds.state = some .spool → offWith { t with spool := .stopped } false) ∧
          (s.ds.state = some .sync → offWith { t with sync := .stopped } false) ∧
          (s.ds.state = some .arbitrate → offWith t false ∧
            (s.contending = true → next asserted fun u => u.permitPhase = .idle ∧ u.tac.permitPull = false))) ∧
        (s.ds.state = some .online → next asserted fun u => u.ds.state = some .stopIntent ∧ u.ds.forcedStop = true ∧
          u.ds.intent = some (.stop, s.tb) ∧ u.ret = s.ret ∧ u.ds.bias = s.ds.bias ∧
          u.ds.timers = { t with stop := .stopped, window := .running s.tb (s.par.diesel.intentWindow * 10000) } ∧
          (s.ilc.transmitter.enabled = true →
            u.ilc.slots.intent.frame = some (intentPayload .stop s.par.diesel.startRank s.par.station.rating))) ∧
        (s.ds.state = some .stopIntent ∨ s.ds.state = some .unload →
          exec (.inputQualified .inhibit) s = .next { asserted with ds := { s.ds with forcedStop := true } }))) ∧
    (s.qualifies .inhibit false →
      (s.ds.state = some .off → s.operating = false ∨ s.bsc.island ≠ some .dark →
        next released fun u => u.ds.state = some .standby ∧ u.ret = s.ret ∧ u.ds.timers = t) ∧
      (s.ds.state = some .failed → s.ds.inhibitSeen = true → s.level .srcCb = .released →
        s.operating = false ∨ s.bsc.island ≠ some .dark →
        next released fun u => u.ds.state = some .standby ∧ u.ret = { s.ret with lockout := false } ∧
          u.ds.inhibitSeen = false ∧ u.tac.alarm.dieselFailed = false) ∧
      (s.ds.state = some .failed → s.ds.inhibitSeen = false ∨ s.level .srcCb ≠ .released →
        exec (.inputQualified .inhibit) s = .next released) ∧
      (s.ds.state ≠ some .off → s.ds.state ≠ some .failed → exec (.inputQualified .inhibit) s = .next released)))

/-- The judgement of a record in SYNC (R108): a good cycle counts, any other starts the count again, and at the sync count the source close
is requested, STARTED where both source channels are IDLE. SRC_CB qualified as asserted: in CLOSING it confirms the close, with the forced
stop where INHIBIT is or was asserted in operation (R100, R111; the level at the confirmation is the model's reading, log 19), and a
dead-bus close goes on to HOLD (R171), which a forced stop then ends (the report before the forced stop is the model's choice, log 47);
where no close was requested, it makes a running set in SYNC ONLINE and trips any other into FAILED (R118). -/
def Obligations.SyncCyclesCount : Prop :=
  (∀ (t : Tick) (swing : Swing) (s : State), s.closesCycle (.c0Capture ⟨t, swing⟩) t → s.ds.state = some .sync → s.bsc.reconstructed = true →
    s.bsc.island = some .live → s.permitPhase = .idle → s.level .runFb = .asserted → s.level .srcCb = .released →
    s.pulse .srcClose = .idle → s.pulse .srcTrip = .idle →
    ∃ u r, exec (.c0Capture ⟨t, swing⟩) s = .next u ∧ u.mu.latest = some r ∧
      (r.busCondition = .live → r.srcCondition = .live →
        let p := s.par
        let good : Prop := ∃ x bus src, r.sync = some x ∧ r.busRms = some bus ∧ r.srcRms = some src ∧
          (2 * p.black.liveLevel + 1) * p.station.nominalV ≤ 32 * bus ∧ x.slip.natAbs ≤ p.diesel.slipWindow ∧
          x.predicted.natAbs ≤ p.diesel.phaseWindow ∧
          100 * ((src : Int) - bus).natAbs ≤ p.diesel.voltageWindow * p.station.nominalV
        (good → s.ds.good + 1 < p.diesel.syncCount → u.ds.state = some .sync ∧ u.ds.good = s.ds.good + 1) ∧
        (good → p.diesel.syncCount ≤ s.ds.good + 1 → u.ds.state = some .closing ∧ u.ds.timers.sync = .stopped ∧
          (u.pulse .srcClose).isActive = true ∧ (u.window .source).isWatching = true) ∧
        (¬ good → u.ds.state = some .sync ∧ u.ds.good = 0))) ∧
  (∀ (x : Timer) (s : State), s.qualifies .srcCb true → s.ds.state = some .closing → s.window .source = .watching .ds true x →
    let forced := s.operating = true ∧ (s.ds.closingInhibit = true ∨ s.level .inhibit = .asserted)
    ∃ u, exec (.inputQualified .srcCb) s = .next u ∧ u.window .source = .closedOut ∧ u.ds.bias = s.ds.bias ∧
      (∀ c, u.pulse c = s.pulse c) ∧ u.fl = s.fl ∧ u.sc = s.sc ∧ u.kept = (s.qualify .srcCb true).kept ∧
      (¬ forced → u.ds.state = some .online ∧ u.ds.timers = s.ds.timers ∧ u.ds.forcedStop = s.ds.forcedStop ∧ u.ilc = s.ilc ∧
        (s.ds.deadBusClose = false → u.bsc = s.bsc) ∧
        (s.ds.deadBusClose = true → u.ds.deadBusOnline = true ∧ (s.permitPhase = .close → u.permitPhase = .hold ∧
          u.tac.permitPull = s.tac.permitPull ∧
          (s.islandUp = true → u.bsc.session.hold = .running s.tb (s.par.black.permitHold * 10000)) ∧
          (s.islandUp = false → u.bsc.session.liveWait = .running s.tb (s.par.black.permitTimeout * 10000000))))) ∧
      (forced → u.ds.state = some .stopIntent ∧ u.ds.forcedStop = true ∧ u.ds.intent = some (.stop, s.tb) ∧
        u.ds.timers.window = .running s.tb (s.par.diesel.intentWindow * 10000) ∧
        (s.ds.deadBusClose = true → s.permitPhase = .close → u.permitPhase = .idle ∧ u.tac.permitPull = false))) ∧
  (∀ s : State, s.qualifies .srcCb true → s.sc.state = none → (∀ r x, s.window .source ≠ .watching r true x) →
    let n := s.qualify .srcCb true
    let unexpected := s.ds.state = some .standby ∨ s.ds.state = some .intent ∨ s.ds.state = some .crank ∨ s.ds.state = some .rest ∨
      s.ds.state = some .spool ∨ s.ds.state = some .arbitrate ∨ s.ds.state = some .cooldown ∨
      s.ds.state = some .sync ∧ s.level .runFb ≠ .asserted
    (s.ds.state = some .sync → s.level .runFb = .asserted → ∃ u, exec (.inputQualified .srcCb) s = .next u ∧
      u.ds.state = some .online ∧ u.ds.timers = { s.ds.timers with sync := .stopped } ∧ u.ds.bias = s.ds.bias ∧
      (∀ c, u.pulse c = s.pulse c) ∧ u.kept = n.kept ∧ u.fl = s.fl ∧ u.ilc = s.ilc) ∧
    (unexpected → ∃ u, exec (.inputQualified .srcCb) s = .next u ∧ u.ds.state = some .failed ∧ u.ret.lockout = true ∧
      u.ret.run = false ∧ u.pulse .crank = .idle ∧ (u.pulse .srcTrip).isActive = true ∧
      (s.pulse .srcTrip = .idle → u.pulse .srcClose = .idle ∧
        u.window .source = .watching .ds false (.running s.tb (s.par.diesel.confirmTime * 10000))) ∧
      (s.ds.state = some .arbitrate → s.contending = true → u.permitPhase = .idle ∧ u.tac.permitPull = false) ∧
      u.kept = n.kept ∧ u.fl = s.fl ∧ u.ilc = s.ilc) ∧
    (s.ds.state = some .off ∨ s.ds.state = some .failed → exec (.inputQualified .srcCb) s = .next n))

/-! ### Feeder ladder -/

/-- The overload timer's expiry sheds by the island ranking (R145, R146): an own CLOSED or CLOSING port is tripped to SHED with cause
OVERLOAD exactly where the loads of the records ahead of it, in the order of shed rank, address and port, fall short of D_ov. The port
is one that no LOCAL holds and whose trip channel is IDLE; its breaker is not already qualified as open. A LOSS notice, and the loss of
the own source, shed by the same ranking with cause DEFICIT in COORDINATED with the island LIVE or RECOVER, for the reserve that they
leave and the deficit margin, and end a swap in flight (R144, R153). The overload timer starts at figures whose overload condition
holds and is cancelled at figures whose condition fails (R146). -/
def Obligations.OverloadShedsByRanking : Prop :=
  let draws (st : PortState) : Bool := st == .closed || st == .closing
  let first (rank address port rank' address' port' : Nat) : Bool :=
    decide (rank < rank' ∨ rank = rank' ∧ (address < address' ∨ address = address' ∧ port < port'))
  let ahead (s : State) (p : Port) : Nat :=
    let isAhead (rank address port : Nat) : Bool := first rank address port (s.par.port.get p).shedRank s.address p.num
    (Port.all.map fun q => match s.port q with
      | some x => if draws x.state && isAhead (s.par.port.get q).shedRank s.address q.num then x.load else 0
      | none => 0).sum +
    (s.view.flatMap fun e => e.feeders.map fun x =>
      if draws x.state && isAhead x.shedRank e.address x.port then x.load else 0).sum
  let sheds (s u : State) (demand : Int) (cause : ShedCause) : Prop :=
    ∀ p r, s.port p = some r → draws r.state = true → r.localHeld = false →
      s.level (.feederLocal p) ≠ .asserted → s.level (.feederCb p) ≠ .released → s.pulse (.feederTrip p) = .idle →
      ((ahead s p : Int) < demand → u.portState p = some .opening ∧ (u.port p).bind (·.destination) = some (.shed cause) ∧
        (u.pulse (.feederTrip p)).isActive = true ∧ u.pulse (.feederClose p) = .idle) ∧
      (demand ≤ ahead s p → u.port p = some r ∧ u.pulse (.feederTrip p) = .idle ∧
        u.pulse (.feederClose p) = s.pulse (.feederClose p))
  (∀ (t : Tick) (s : State), s.due .overload t → s.tableFormed →
    ∃ u, exec .overloadTimerExpiry s = .next u ∧ u.tb = t ∧ u.mu = s.mu ∧ u.be = s.be ∧ u.pv = s.pv ∧ u.cr = s.cr ∧
      u.fl.overload = .stopped ∧
      sheds s u s.be.figures.overloadDemand .overload) ∧
  (∀ (c : Instr) (role : Role) (output rating : Nat) (s : State), s.tableFormed → s.cr.params.isSome = true →
    1 ≤ s.par.station.feederCount →
    -- a LOSS notice of another station, or a loss of the own source
    ((c = .burstClose ∧ s.phase = .running ∧ ∃ since burst overlong a e, s.ilc.idleSince = some since ∧
        s.ilc.receiver = .collecting burst overlong ∧ judgeBurst burst overlong = some ⟨a, .loss role output rating⟩ ∧
        a ≠ s.address ∧ s.pv.entry a = some e) ∨
      (c = .inputQualified .srcCb ∧ s.qualifies .srcCb false ∧ (∀ r x, s.window .source ≠ .watching r false x) ∧
        output = clamp16 s.mu.mean.src ∧ rating = s.par.station.rating ∧
        (role = .genset ∧ s.sc.state = none ∧
            (s.ds.state = some .online ∨ s.ds.state = some .stopIntent ∨ s.ds.state = some .unload) ∨
          role = .solar ∧ s.ds.state = none ∧ s.sc.state = some .online ∧ s.sc.trip = false ∧ s.islandUp = true ∧
            s.par.solar.lossThreshold < output))) →
    let g := s.be.figures
    let left : Int := if role = .genset then ((g.cOn : Int) - rating) - g.pGen else g.reserve - output
    ∃ u, exec c s = .next u ∧ u.fl.swap = none ∧ u.be = s.be ∧ u.mu = s.mu ∧
      (s.cr.mode ≠ .coordinated ∨ s.islandUp = false ∨ 0 ≤ left → u.fl = { s.fl with swap := none } ∧
        ∀ p, u.pulse (.feederTrip p) = s.pulse (.feederTrip p) ∧ u.pulse (.feederClose p) = s.pulse (.feederClose p)) ∧
      (s.cr.mode = .coordinated → s.islandUp = true → left < 0 → sheds s u (-left + s.par.balance.deficitMargin) .deficit)) ∧
  (∀ (t : Tick) (s : State), s.due .balance t → s.cr.params.isSome = true → 1 ≤ s.par.station.feederCount →
    ∃ u, exec .balancePeriodExpiry s = .next u ∧
      (s.operating = true → s.islandUp = true → u.be.figures.overload = true → u.fl.overload =
        if s.fl.overload = .stopped then .running t (s.par.restore.overloadTime * 10000000) else s.fl.overload) ∧
      (s.operating = true → s.islandUp = true → u.be.figures.overload = false → u.fl.overload = .stopped) ∧
      (s.operating = false ∨ s.islandUp = false → u.fl.overload = s.fl.overload))

/-- The under-frequency stages on a cycle result record (R142, R143): a valid f below the pickup raises the count and at the stage's count
latches and trips its CLOSED and CLOSING ports to SHED with cause FREQUENCY; any other valid f sets the count to 0, and clears a latch
from the release level on; an INVALID f leaves the stage. A port of no stage that trips stays as it is. A stage
trip ends a swap in flight (R153). The restore qualification (R147): a valid f from f_nom − restore band on starts its timer, for three
times the restore time in AUTONOMOUS; any other cancels it and clears the flag, as a change to DEAD-WAIT does. -/
def Obligations.StagesCountAndTrip : Prop :=
  ∀ (c : Instr) (t : Tick) (s : State), s.closesCycle c t → s.cr.params.isSome = true → 1 ≤ s.par.station.feederCount →
    s.operating = true → s.bsc.reconstructed = true →
    let pickup (k : Port) : Int := s.par.station.nominalHz * 1000 - (s.par.stage.get k).threshold
    let below (k : Port) (f : Option Nat) : Prop := ∃ v, f = some v ∧ (v : Int) < pickup k
    let trips (k : Port) (f : Option Nat) : Prop :=
      (s.fl.stages.get k).latch = false ∧ below k f ∧ (s.par.stage.get k).count ≤ (s.fl.stages.get k).count + 1
    ∃ u r, exec c s = .next u ∧ u.mu.latest = some r ∧
      (∀ k, let x := s.fl.stages.get k
        (r.f = none → u.fl.stages.get k = x) ∧
        (x.latch = true → ∀ v, r.f = some v → u.fl.stages.get k =
          if pickup k + (s.par.stage.get k).hysteresis ≤ v then ⟨0, false⟩ else x) ∧
        (x.latch = false → ∀ v, r.f = some v → pickup k ≤ v → u.fl.stages.get k = ⟨0, false⟩) ∧
        (x.latch = false → below k r.f → x.count + 1 < (s.par.stage.get k).count →
          u.fl.stages.get k = ⟨x.count + 1, false⟩) ∧
        (trips k r.f → u.fl.stages.get k = ⟨0, true⟩)) ∧
      (∀ k p x, trips k r.f → (s.par.port.get p).ufStage = k.num → s.port p = some x → x.state = .closed ∨ x.state = .closing →
        x.localHeld = false → s.pulse (.feederTrip p) = .idle → s.level (.feederLocal p) ≠ .asserted →
        s.level (.feederCb p) ≠ .released →
        u.portState p = some .opening ∧ (u.port p).bind (·.destination) = some (.shed .frequency) ∧
          (u.pulse (.feederTrip p)).isActive = true ∧ u.pulse (.feederClose p) = .idle) ∧
      (∀ p, (∀ k, (s.par.port.get p).ufStage = k.num → ¬ trips k r.f) → u.port p = s.port p) ∧
      ((∃ k, trips k r.f) → u.fl.swap = none) ∧
      let healthy : Prop := ∃ v, r.f = some v ∧ (s.par.station.nominalHz * 1000 : Int) - s.par.restore.band ≤ v
      (s.islandUp = true → u.islandUp = true →
        (healthy → s.fl.qualTimer = .stopped → s.fl.qualified = false → u.fl.qualified = false ∧ u.fl.qualTimer =
          .running t (s.par.restore.time * (if s.cr.mode = .autonomous then 3 else 1) * 10000000)) ∧
        (healthy → s.fl.qualTimer.isRunning = true ∨ s.fl.qualified = true →
          u.fl.qualTimer = s.fl.qualTimer ∧ u.fl.qualified = s.fl.qualified) ∧
        (¬ healthy → u.fl.qualTimer = .stopped ∧ u.fl.qualified = false)) ∧
      (s.islandUp = true → u.bsc.island = some .deadWait → u.fl.qualTimer = .stopped ∧ u.fl.qualified = false)

/-- A confirmed window changes the port (R139, R140): the qualified level that it waits for makes a CLOSING port CLOSED and an OPENING port
its destination; with no window, a release in CLOSED faults the port, and an assertion in SHED or BLACK-OPEN makes it CLOSED. -/
def Obligations.BreakerPositionsMovePorts : Prop :=
  ∀ (p : Port) (r : PortRecord) (level : Bool) (x : Timer) (s : State), s.phase = .running → s.port p = some r → s.fl.swap = none →
    (s.tac.inputs.get (.feederCb p)).due = true → (s.tac.inputs.get (.feederCb p)).sample = some level →
    let becomes (st : PortState) (cause : Option ShedCause) : Prop :=
      ∃ u r', exec (.inputQualified (.feederCb p)) s = .next u ∧ u.port p = some r' ∧ r'.state = st ∧ r'.shedCause = cause ∧
        r'.destination = none ∧ r'.lastChange = s.tb ∧ u.ret.ports.get p = some (st, cause) ∧ u.window (.feeder p) = .closedOut ∧
        (u.tac.alarm.portFaulted.get p = true ↔ st = .faulted) ∧ ∀ q, q ≠ p → u.port q = s.port q
    (s.window (.feeder p) = .watching .fl true x → level = true → r.state = .closing → becomes .closed none) ∧
    (∀ cause, s.window (.feeder p) = .watching .fl false x → level = false → r.state = .opening →
      r.destination = some (.shed cause) → becomes .shed (some cause)) ∧
    (s.window (.feeder p) = .watching .fl false x → level = false → r.state = .opening → r.destination = some .blackOpen →
      becomes .blackOpen none) ∧
    (s.window (.feeder p) = .closedOut → level = false → r.state = .closed → becomes .faulted none) ∧
    (s.window (.feeder p) = .closedOut → level = true → r.state = .shed ∨ r.state = .blackOpen → becomes .closed none)

/-- The restore step at new figures (R148, R149). Where all nine conditions of R149 hold for an own port, in COORDINATED or in AUTONOMOUS,
which does not test the fit, its close starts: the port is CLOSING, the STEP notice with the cold-load figure waits, and the step
spacing timer restarts, with the black step dwell while the island is RECOVER after the change of the port (log 42); where the close is
IGNORED or REFUSED nothing changes. Where they hold for no own port, no port closes. The rotation swap (R152): with its conditions met
the oldest closed rotating port is tripped for the oldest shed one, whose close follows the confirmed opening, and whose confirmed
closing completes the swap. -/
def Obligations.RestoreStepCloses : Prop :=
  let noClose (s : State) : Prop := ∀ q x, s.port q = some x → x.state ≠ .closing ∧ x.closeActive = false
  let noLatch (s : State) : Prop := ∀ k, (s.fl.stages.get k).latch = false
  let stepFrame (s : State) (p : Port) (load : Nat) : Option (List Byte) :=
    some (stepPayload p.num (s.par.port.get p).shedRank ((s.par.port.get p).coldLoad * load / 100 : Nat))
  (∀ (t : Tick) (s : State), s.due .balance t → s.cr.params.isSome = true → 1 ≤ s.par.station.feederCount →
    ∃ u, exec .balancePeriodExpiry s = .next u ∧
      let meets (p : Port) : Prop :=
        (s.bsc.island = some .live ∨ s.bsc.island = some .recover) ∧
        (s.cr.mode = .coordinated ∨ s.cr.mode = .autonomous) ∧ noLatch s ∧ s.fl.qualified = true ∧ s.fl.spacing = .stopped ∧
        noClose s ∧ s.fl.swap = none ∧ (∃ c, u.be.figures.candidate = some c ∧ c.address = s.address ∧ c.port = p.num) ∧
        (∃ x, s.port p = some x ∧ (x.state = .shed ∨ x.state = .blackOpen) ∧ x.localHeld = false) ∧
        (s.cr.mode = .coordinated → u.be.figures.candidateFits = true)
      let quiet (p : Port) : Prop :=
        s.level (.feederLocal p) ≠ .asserted ∧ s.pulse (.feederClose p) = .idle ∧ s.pulse (.feederTrip p) = .idle
      let rotates (o c : Port) : Prop :=
        s.fl.swap = none ∧ s.cr.mode = .coordinated ∧ s.bsc.island = some .live ∧ noLatch s ∧ s.fl.qualified = true ∧
        s.fl.spacing = .stopped ∧ noClose s ∧ u.be.figures.candidateFits = false ∧
        s.fl.queue.find? (fun p => s.portState p == some .shed) = some c ∧
        s.fl.queue.find? (fun p => s.portState p == some .closed) = some o ∧
        (∃ x, s.port c = some x ∧ x.ripe = true ∧ x.localHeld = false) ∧ ∃ x, s.port o = some x ∧ x.ripe = true
      (∀ p x, meets p → s.port p = some x → quiet p → s.level (.feederCb p) ≠ .asserted →
        u.portState p = some .closing ∧ (u.port p).map (·.closeActive) = some true ∧
          (u.pulse (.feederClose p)).isActive = true ∧ (u.window (.feeder p)).isWatching = true ∧
          u.fl.spacing = .running t (10000000 *
            (if u.bsc.island = some .recover then s.par.restore.blackStepDwell else s.par.restore.stepDwell)) ∧
          (s.ilc.transmitter.enabled = true → u.ilc.slots.step.frame = stepFrame s p x.load) ∧
          ∀ q, q ≠ p → u.portState q = s.portState q ∧ u.pulse (.feederClose q) = s.pulse (.feederClose q)) ∧
      (∀ p, meets p → ¬ quiet p →
        u.fl.spacing = .stopped ∧ u.ilc.slots.step = s.ilc.slots.step ∧
          ∀ q, u.portState q = s.portState q ∧ u.pulse (.feederClose q) = s.pulse (.feederClose q)) ∧
      ((∀ p, ¬ meets p) → (∀ q, s.portState q = some .closed → s.level (.feederCb q) ≠ .released) →
        ∀ p, ((s.pulse (.feederClose p)).isActive = false → (u.pulse (.feederClose p)).isActive = false) ∧
          (u.portState p = some .closing → s.portState p = some .closing)) ∧
      (∀ o c x, rotates o c → s.port o = some x → x.localHeld = false → s.level (.feederLocal o) ≠ .asserted →
        s.pulse (.feederTrip o) = .idle → s.level (.feederCb o) ≠ .released →
        u.fl.swap = some ⟨o, c, .opening⟩ ∧ u.portState o = some .opening ∧
          (u.port o).bind (·.destination) = some (.shed .rotation) ∧ (u.pulse (.feederTrip o)).isActive = true) ∧
      (∀ o c x, rotates o c → s.port o = some x →
        x.localHeld = true ∨ s.level (.feederLocal o) = .asserted ∨ (s.pulse (.feederTrip o)).isActive = true →
        u.fl.swap = none ∧ u.portState o = some .closed) ∧
      ((∀ o c, ¬ rotates o c) → u.fl.swap = s.fl.swap)) ∧
  (∀ (o c : Port) (x y : PortRecord) (w : Timer) (s : State), s.port o = some x → s.port c = some y →
    s.cr.mode = .coordinated → s.bsc.island = some .live →
    (s.qualifies (.feederCb o) false → s.window (.feeder o) = .watching .fl false w → s.fl.swap = some ⟨o, c, .opening⟩ →
      x.state = .opening → x.destination = some (.shed .rotation) → y.state = .shed → noClose s →
      ∃ u, exec (.inputQualified (.feederCb o)) s = .next u ∧ u.portState o = some .shed ∧
        (u.port o).bind (·.shedCause) = some .rotation ∧
        (y.localHeld = false → s.level (.feederLocal c) ≠ .asserted → s.level (.feederCb c) ≠ .asserted →
          s.pulse (.feederClose c) = .idle → s.pulse (.feederTrip c) = .idle →
          u.fl.swap = some ⟨o, c, .closing⟩ ∧ u.portState c = some .closing ∧ (u.pulse (.feederClose c)).isActive = true ∧
            (u.window (.feeder c)).isWatching = true ∧ u.fl.spacing = .running s.tb (s.par.restore.stepDwell * 10000000) ∧
            (s.ilc.transmitter.enabled = true → u.ilc.slots.step.frame = stepFrame s c y.load)) ∧
        (y.localHeld = true ∨ s.level (.feederLocal c) = .asserted ∨ (s.pulse (.feederClose c)).isActive = true ∨
            (s.pulse (.feederTrip c)).isActive = true →
          u.fl.swap = none ∧ u.port c = s.port c ∧ u.fl.spacing = s.fl.spacing)) ∧
    (s.qualifies (.feederCb c) true → s.window (.feeder c) = .watching .fl true w → s.fl.swap = some ⟨o, c, .closing⟩ →
      y.state = .closing → ∃ u, exec (.inputQualified (.feederCb c)) s = .next u ∧ u.portState c = some .closed ∧
        u.fl.swap = none ∧ ∀ q, q ≠ c → u.port q = s.port q))

/-! ### Dead bus and recovery -/

/-- The dead timer takes DEAD-WAIT to DARK (R159, R160, R161): the pre-dark record is taken with the ports then drawing, and the solar cap
is 0. In operation a set in STANDBY, and one in INTENT without its notice, starts, and one left online is tripped (R120); CLOSED and
CLOSING ports are tripped toward BLACK-OPEN, or owe that trip where their trip pulse still runs, OPENING ports take BLACK-OPEN as their
destination and go on, and the others stand (R138, R154). The recover timer ends RECOVER (R154, R162, R163): every BLACK-OPEN port
becomes SHED with cause DEFICIT, the island is LIVE, and the pre-dark record is cleared. -/
def Obligations.IslandTimersExpire : Prop :=
  (∀ (t : Tick) (s : State), s.due .dead t → s.bsc.island = some .deadWait →
    ∃ u, exec .deadTimerExpiry s = .next u ∧ u.bsc.island = some .dark ∧ u.bsc.dead = .stopped ∧
      u.ret.darkTaken = true ∧
      (∀ p, u.ret.wasClosed.get p = (s.ret.wasClosed.get p ||
        (s.portState p == some .closed || s.portState p == some .closing || s.portState p == some .opening))) ∧
      (s.sc.state.isSome = true → u.sc.finalCap = 0 ∧ u.sc.lastCap = 0 ∧ u.sc.override = .dark) ∧
      (s.operating = true → s.ds.state = some .standby ∨ s.ds.state = some .intent →
        let count := if s.ds.state = some .standby then 0 else s.ds.crankCount
        u.ret.run = true ∧ u.ds.bias = 0 ∧
        (s.ds.state = some .standby → u.ds.timers.holdoff = .stopped ∧ u.ds.intent = s.ds.intent) ∧
        (s.ds.state = some .intent → u.ds.timers.window = .stopped ∧ u.ds.intent = none) ∧
        (s.level .runFb ≠ .asserted → u.ds.state = some .crank ∧ u.ds.crankCount = count + 1 ∧
          (u.pulse .crank).isActive = true) ∧
        (s.level .runFb = .asserted → u.ds.state = some .spool ∧ u.ds.crankCount = count ∧
          u.ds.timers.spool = .running t (s.par.diesel.spoolTime * 10000000))) ∧
      (s.operating = true → s.ds.state = some .online ∨ s.ds.state = some .stopIntent ∨ s.ds.state = some .unload →
        u.ds.state = some .failed ∧ (u.pulse .srcTrip).isActive = true) ∧
      (s.operating = false → u.fl.ports = s.fl.ports ∧ ∀ c, c ≠ .crank → u.pulse c = s.pulse c) ∧
      (∀ p r, s.operating = true → s.port p = some r →
        (r.state = .closed ∨ r.state = .closing → r.localHeld = false → s.level (.feederLocal p) ≠ .asserted →
          (s.pulse (.feederTrip p) = .idle → (u.pulse (.feederTrip p)).isActive = true ∧ u.pulse (.feederClose p) = .idle ∧
            (s.level (.feederCb p) ≠ .released →
              u.portState p = some .opening ∧ (u.port p).bind (·.destination) = some .blackOpen) ∧
            (s.level (.feederCb p) = .released → u.portState p = some .blackOpen ∧ u.ret.ports.get p = some (.blackOpen, none))) ∧
          ((s.pulse (.feederTrip p)).isActive = true → u.port p = some { r with tripOwed := some .blackOpen } ∧
            u.pulse (.feederTrip p) = s.pulse (.feederTrip p) ∧ u.pulse (.feederClose p) = s.pulse (.feederClose p))) ∧
        (r.state = .opening → u.port p = some { r with destination := some .blackOpen } ∧
          u.pulse (.feederTrip p) = s.pulse (.feederTrip p) ∧ u.window (.feeder p) = s.window (.feeder p)) ∧
        (r.state = .shed ∨ r.state = .blackOpen ∨ r.state = .held ∨ r.state = .faulted → u.port p = some r)) ∧
      u.kept = { s with tb := t }.kept) ∧
  (∀ (t : Tick) (s : State), s.due .recover t → s.bsc.island = some .recover →
    ∃ u, exec .recoverTimerExpiry s = .next u ∧ u.bsc.island = some .live ∧ u.bsc.recover = .stopped ∧
      u.ret.darkTaken = false ∧ (∀ p, u.ret.wasClosed.get p = false) ∧
      (∀ p r, s.port p = some r → r.state = .blackOpen → ∃ r', u.port p = some r' ∧ r'.state = .shed ∧
        r'.shedCause = some .deficit ∧ u.ret.ports.get p = some (.shed, some .deficit)) ∧
      (∀ p, s.portState p ≠ some .blackOpen → u.port p = s.port p) ∧ u.sc = s.sc ∧
      (∀ c, c ≠ .crank → u.pulse c = s.pulse c) ∧ u.kept = { s with tb := t }.kept)

/-- The island follows the bus condition of each record, closed by a capture or by the synthetic timeout, in every mode (R158): LIVE or
RECOVER to DEAD-WAIT on a dead bus, back to the origin on a live one, DARK to RECOVER on a live one, and nothing otherwise; an entry to
RECOVER that finds no port BLACK-OPEN goes on to LIVE (R162, R163). The fourth record takes the first island state (R165, R183): by the
bus and the retention record, after the SHED ports that it makes BLACK-OPEN; the three before it change nothing. A record that finds the
bus LIVE before a win ends the arbitration session, and the set that contended goes on to SYNC, where the record is judged as any in
SYNC; a record that does not leaves the session to the set's own source (R172, R110). -/
def Obligations.IslandFollowsBus : Prop :=
  (∀ (c : Instr) (t : Tick) (s : State), s.closesCycle c t → s.bsc.reconstructed = true →
    (s.bsc.island = some .recover → s.noBlackOpen = false) →
    let recovering (u : State) : Prop :=
      (s.noBlackOpen = false → u.bsc.island = some .recover ∧
        u.bsc.recover = .running t (s.par.restore.recoverTimeout * 600000000)) ∧
      (s.noBlackOpen = true → u.bsc.island = some .live ∧ u.bsc.recover = .stopped)
    ∃ u r, exec c s = .next u ∧ u.mu.latest = some r ∧
      (s.bsc.island = some .live ∨ s.bsc.island = some .recover → r.busCondition = .dead →
        u.bsc.island = some .deadWait ∧ u.bsc.origin = (if s.bsc.island = some .live then .live else .recover) ∧
          u.bsc.dead = .running t (s.par.black.deadTime * 10000) ∧ u.bsc.recover = .stopped ∧ u.fl.swap = none) ∧
      (s.bsc.island = some .deadWait → s.bsc.origin = .live → r.busCondition = .live →
        u.bsc.island = some .live ∧ u.bsc.dead = .stopped ∧ u.ret.darkTaken = false) ∧
      (s.bsc.island = some .deadWait → s.bsc.origin = .recover → r.busCondition = .live →
        recovering u ∧ u.bsc.dead = .stopped) ∧
      (s.bsc.island = some .dark → r.busCondition = .live → recovering u) ∧
      (s.bsc.island = some .live ∨ s.bsc.island = some .recover → r.busCondition ≠ .dead → u.bsc.island = s.bsc.island) ∧
      (s.bsc.island = some .deadWait ∨ s.bsc.island = some .dark → r.busCondition ≠ .live → u.bsc.island = s.bsc.island)) ∧
  (∀ (c : Instr) (t : Tick) (s : State), s.closesCycle c t → s.bsc.reconstructed = true →
    let x := s.bsc.session
    x.phase = .waiting ∨ x.phase = .start ∨ x.phase = .bits → ∃ u r, exec c s = .next u ∧ u.mu.latest = some r ∧
      (r.busCondition = .live →
        u.bsc.session = { x with
          phase := .idle, stuckFlag := false, slot := .stopped, guard := .stopped, stuck := .stopped, hold := .stopped
          liveWait := .stopped } ∧
        u.tac.permitPull = false ∧ u.tac.permitEdges = false ∧ u.tac.alarm.permitStuck = false ∧
        (s.ds.state = some .arbitrate → r.srcCondition ≠ .dead → s.level .runFb ≠ .released → 2 ≤ s.par.diesel.syncCount →
          u.ds.state = some .sync ∧ u.ds.good ≤ 1 ∧ u.ds.timers.sync = .running t (s.par.diesel.syncTimeout * 10000000))) ∧
      (r.busCondition ≠ .live → s.ds.state ≠ some .arbitrate ∨ r.srcCondition ≠ .dead →
        u.bsc.session = x ∧ u.tac.permitPull = s.tac.permitPull)) ∧
  (∀ (c : Instr) (t : Tick) (s : State), s.closesCycle c t → s.bsc.reconstructed = false → s.bsc.island = some .deadWait →
    ∃ u r, exec c s = .next u ∧ u.mu.latest = some r ∧
      (s.bsc.records < 3 → u.bsc.records = s.bsc.records + 1 ∧ u.bsc.reconstructed = false ∧ u.bsc.island = some .deadWait ∧
        u.bsc.dead = s.bsc.dead ∧ u.ret.darkTaken = s.ret.darkTaken ∧
        ∀ p, s.portState p = some .shed → u.portState p = some .shed) ∧
      (3 ≤ s.bsc.records → u.bsc.reconstructed = true ∧
        let taken := s.ret.valid = true ∧ s.ret.darkTaken = true
        let returns (p : Port) : Prop :=
          (taken ∧ s.ret.wasClosed.get p = true) ∨ (s.ret.valid = false ∧ r.busCondition ≠ .live)
        (∀ p, s.portState p = some .shed → returns p →
          u.portState p = some .blackOpen ∧ u.ret.ports.get p = some (.blackOpen, none)) ∧
        (∀ p, s.portState p = some .shed → ¬ returns p → u.portState p = some .shed) ∧
        (∀ p, s.portState p = some .held ∨ s.portState p = some .faulted → u.port p = s.port p) ∧
        (r.busCondition = .live → ¬ taken →
          u.bsc.island = some .live ∧ u.ret.darkTaken = false ∧ ∀ p, u.ret.wasClosed.get p = false) ∧
        (r.busCondition = .live → taken → (u.noBlackOpen = true → u.bsc.island = some .live ∧ u.ret.darkTaken = false) ∧
          (u.noBlackOpen = false → u.bsc.island = some .recover ∧
            u.bsc.recover = .running t (s.par.restore.recoverTimeout * 600000000))) ∧
        (r.busCondition ≠ .live → u.bsc.island = some .dark ∧ u.ret.darkTaken = true ∧
          (∀ p, s.ret.wasClosed.get p = true → u.ret.wasClosed.get p = true) ∧
          ∀ p, s.isDrawing p = true → s.level (.feederCb p) ≠ .released → u.ret.wasClosed.get p = true)))

/-! ### Configuration and retention -/

/-- The start-up load (R174 to R178, R182, R185): at its completion, or at the settle limit with an input UNSETTLED, an invalid record gives
FAULT, and a valid one gives every block its parameters, the mode by SERVICE, and the first states of the set and of the ports. The
model's choices in it: the order in which the blocks start (log 22), OFF for a set found running with its breaker open and INHIBIT
asserted (log 31), the clamped flag left by an invalid record (log 39), the byte order of the calibration sector (log 40), and the last
two bytes of the working copy (log 13). -/
def Obligations.LoadStartsStation : Prop :=
  ∀ (t : Tick) (c : Instr) (s : State), s.phase = .running → s.cr.mode = .startup → s.cr.loaded = false →
    s.ilc.transmitter = .disabled →
    (c = .startUpLoadComplete t ∧ s.allSettled = true ∨ c = .settleLimitExpiry ∧ s.allSettled = false ∧ t = 1000000) →
    (recordValid s.cr.sector = false →
      exec c s = .next { s with
        tb := t
        cr := { s.cr with loaded := true, mode := .fault }
        mp := { s.mp with staging := s.cr.sector }
        tac := { s.tac with alarm := { s.tac.alarm with modeFault := true } }
        ilc := { s.ilc with
          started := true, receiver := .ignoring, idleSince := some t, endIdle := false, random := some (lfsrSeed s.address t) } }) ∧
    (recordValid s.cr.sector = true → s.ilc.conflict = false →
      let record := clampRecord s.cr.sector
      let p := Params.ofRecord record
      let svc := s.level .service = .asserted
      let inhibit := s.level .inhibit = .asserted
      let runs := s.ret.run = true ∧ s.level .runFb = .asserted
      let closed := s.level .srcCb = .asserted
      ∃ u, exec c s = .next u ∧ u.tb = t ∧ u.mp = { s.mp with staging := s.cr.sector } ∧
        u.cr = { s.cr with
          loaded := true, working := some record, workingCrc := crc16 (record.take 254), params := some p
          clamped := record != s.cr.sector, calFault := !calibrationCrcOk s.cr.calSector
          mode := if svc then .service else .autonomous, integrity := .running t 100000000 } ∧
        (u.mu.started = true ∧ u.mu.nextScan = t ∧ u.mu.synthetic.isRunning = true ∧ u.mu.srcTimeout.isRunning = true ∧
          u.mu.cal = if calibrationCrcOk s.cr.calSector then .ofSector s.cr.calSector else .zero) ∧
        (u.tac.breakerDebounce = p.station.breakerDebounce ∧ u.tac.otherDebounce = p.station.otherDebounce ∧
          u.tac.inputs = s.tac.inputs) ∧
        u.be.timer = .running t (p.station.balancePeriod * 500000) ∧
        (u.ilc.started = true ∧ u.ilc.receiver = .ignoring ∧ u.ilc.transmitter = .ready ∧ u.ilc.status.isRunning = true) ∧
        (u.bsc.island = some .deadWait ∧ u.bsc.origin = .live ∧
          u.bsc.ownWord = ((p.diesel.startRank - 1) * 32 + (s.address - 1)) % 1024) ∧
        (p.station.role = .solar → u.sc.state = some (if closed then .online else .offline)) ∧
        (p.station.role = .genset →
          (s.ret.lockout = true → u.ds.state = some .failed) ∧
          (s.ret.lockout = false → runs → closed →
            u.ds.bias = s.ds.bias ∧ u.ds.state = some (if inhibit ∧ ¬ svc then .stopIntent else .online)) ∧
          (s.ret.lockout = false → runs → ¬ closed →
            u.ds.state = some (if inhibit then .off else if svc then .standby else .sync)) ∧
          (s.ret.lockout = false → ¬ runs → closed → u.ds.state = some (if inhibit then .off else .failed) ∧
            (¬ inhibit → (u.pulse .srcTrip).isActive = true) ∧ u.ret.run = false) ∧
          (s.ret.lockout = false → ¬ runs → ¬ closed →
            u.ds.state = some (if inhibit then .off else .standby) ∧ u.ret.run = false)) ∧
        (∀ q, q.num ≤ p.station.feederCount → ∃ r, u.port q = some r ∧ r.destination = none ∧ r.load = 0 ∧
          (r.localHeld = true ↔ s.level (.feederLocal q) = .asserted) ∧
          u.ret.ports.get q = some (r.state, r.shedCause) ∧
          (r.state, r.shedCause) =
            if s.level (.feederLocal q) = .asserted then (PortState.held, none)
            else if (s.ret.ports.get q).map (·.1) = some .faulted then (.faulted, none)
            else if s.level (.feederCb q) = .asserted then (.closed, none)
            else match s.ret.ports.get q with
              | some (.shed, some cause) => (.shed, some cause)
              | _ => (.shed, some .deficit)) ∧
        ∀ q, p.station.feederCount < q.num → u.port q = s.port q)

/-- The integrity check and the commit's end (R178, R180): a working copy that fails its CRC is loaded anew from the sector, and while a
commit is RUNNING that reload is put off; an invalid sector gives FAULT; the blocks keep their parameters. A commit's end gives the sector
the staging buffer, or leaves it broken, and COMPLETED or FAILED by its CRC, and the reload that was put off is taken then, from the sector
as the commit has left it (R178). A release of SERVICE abandons a commit that is RUNNING, which leaves the sector failing its CRC and the
status FAILED (R180); a reload that fell due meanwhile then finds it invalid, which gives FAULT (log 27). The model's choices in it:
COMMIT_COMPLETE leaves the state where no commit is RUNNING (log 2), the bytes of a broken sector (log 8), how a byte of the working copy
is disturbed (log 18), the last two bytes of the working copy (log 13), and the clamped flag left by an invalid record (log 39). -/
def Obligations.SectorAndCopyAreChecked : Prop :=
  ∀ (t : Tick) (upset : List (Fin 256 × Byte)) (programmed : Bool) (s : State),
    (∀ w, s.cr.working = some w → s.due .integrity t →
      let copy := upset.foldl (fun l c => l.set c.1.val c.2) w
      let again : Timer := .running t 100000000
      (crc16 (copy.take 254) = s.cr.workingCrc → exec (.integrityTimerExpiry upset) s =
        .next { s with tb := t, cr := { s.cr with integrity := again, working := some copy } }) ∧
      (crc16 (copy.take 254) ≠ s.cr.workingCrc → s.cr.commit = .running → exec (.integrityTimerExpiry upset) s =
        .next { s with tb := t, cr := { s.cr with integrity := again, working := some copy, reloadDue := true } }) ∧
      (crc16 (copy.take 254) ≠ s.cr.workingCrc → s.cr.commit ≠ .running → recordValid s.cr.sector = true →
        exec (.integrityTimerExpiry upset) s = .next { s with
          tb := t
          cr := { s.cr with
            integrity := again, reloadDue := false, working := some (clampRecord s.cr.sector)
            workingCrc := crc16 ((clampRecord s.cr.sector).take 254)
            clamped := s.cr.clamped || clampRecord s.cr.sector != s.cr.sector } }) ∧
      (crc16 (copy.take 254) ≠ s.cr.workingCrc → s.cr.commit ≠ .running → recordValid s.cr.sector = false →
        ∃ u, exec (.integrityTimerExpiry upset) s = .next u ∧ u.cr.mode = .fault ∧ u.cr.params = s.cr.params ∧
          (s.cr.mode ≠ .fault → u.tac.alarm.modeFault = true ∧ (s.sc.state.isSome = true → u.sc.finalCap = 0)) ∧ u.mu = s.mu ∧
          u.be = s.be)) ∧
    (s.phase = .running → s.cr.commit = .running → s.cr.reloadDue = false →
      exec (.commitComplete t true) s = .next { s with
        tb := t, cr := { s.cr with
          sector := s.mp.staging
          commit := if s.mp.staging.length = 256 ∧ crcBytes (s.mp.staging.take 254) = s.mp.staging.drop 254 then .completed
            else .failed } } ∧
      ∃ sector, sector.length = 256 ∧ crcBytes (sector.take 254) ≠ sector.drop 254 ∧
        exec (.commitComplete t false) s = .next { s with
          tb := t, freeCount := s.freeCount + 1, cr := { s.cr with sector, commit := .failed } }) ∧
    (s.phase = .running → s.cr.commit = .running → s.cr.reloadDue = true →
      (recordValid s.mp.staging = true → exec (.commitComplete t true) s = .next { s with
        tb := t
        cr := { s.cr with
          sector := s.mp.staging, commit := .completed, reloadDue := false, working := some (clampRecord s.mp.staging)
          workingCrc := crc16 ((clampRecord s.mp.staging).take 254)
          clamped := s.cr.clamped || clampRecord s.mp.staging != s.mp.staging } }) ∧
      (programmed = false ∨ recordValid s.mp.staging = false → ∃ u, exec (.commitComplete t programmed) s = .next u ∧
        u.cr = { s.cr with mode := .fault, sector := u.cr.sector, commit := u.cr.commit, reloadDue := false } ∧
        (programmed = true → u.cr.sector = s.mp.staging) ∧
        (programmed = false → u.cr.sector.length = 256 ∧ crcBytes (u.cr.sector.take 254) ≠ u.cr.sector.drop 254) ∧
        u.cr.commit = (if u.cr.sector.length = 256 ∧ crcBytes (u.cr.sector.take 254) = u.cr.sector.drop 254 then .completed
          else .failed) ∧
        (s.cr.mode ≠ .fault → u.tac.alarm.modeFault = true) ∧ u.mu = s.mu ∧ u.be = s.be ∧ u.mp = s.mp ∧ u.tb = t)) ∧
    (s.phase = .running → s.cr.commit ≠ .running → exec (.commitComplete t programmed) s = .next s) ∧
    (s.qualifies .service false → s.cr.commit = .running → ∃ u, exec (.inputQualified .service) s = .next u ∧
      u.cr = { s.cr with mode := u.cr.mode, sector := u.cr.sector, commit := .failed, reloadDue := false } ∧
      u.cr.sector.length = 256 ∧ crcBytes (u.cr.sector.take 254) ≠ u.cr.sector.drop 254 ∧ u.freeCount = s.freeCount + 1 ∧
      (s.cr.reloadDue = true → u.cr.mode = .fault) ∧
      (s.cr.reloadDue = false → u.cr.mode =
        if s.cr.mode = .service then
          (if s.pv.conflict = true ∨ (∀ e ∈ s.pv.table, e.fresh = false) then .autonomous else .coordinated)
        else s.cr.mode) ∧
      u.mu = s.mu ∧ u.be = s.be ∧ u.pv = s.pv ∧ u.mp = s.mp ∧ u.tb = s.tb)

/-! ### Maintenance port -/

/-- A read is judged at its close, changes nothing but the response, and is answered DONE with its payload or BAD-RANGE (R184, R185,
R186), the payload laid out as log 16 chooses; a malformed request, and one cut short by a gap, is answered BAD-REQUEST with its code
(R185). A WRITE-CONFIG whose data do not fit its length is a malformed request (log 17). While a response is being sent every request
waits, one that finds the buffer occupied is discarded, and so is one that began while it was occupied and closes later (R185). -/
def Obligations.ReadsAreAnswered : Prop :=
  ∀ (t : Tick) (a sector offset length code : Byte) (data : List Byte) (s : State), s.phase = .running →
    let n : State := { s with tb := t }
    let message (code : Byte) (result : Nat) (payload : List Byte) : List Byte :=
      let body := [code, byte result] ++ bytesBE 2 payload.length ++ payload
      [0xA3] ++ body ++ crcBytes body
    let answered (c : Instr) (code : Byte) (result : Nat) (payload : List Byte) : Prop :=
      exec c s = .next { n with mp := { s.mp with response := some (message code result payload) } }
    let bytes : Nat → List Byte
      | 0 => s.cr.working.getD (List.replicate 256 0)
      | 1 => s.mp.staging
      | _ => s.cr.calSector
    let size : Nat := if sector = 2 then 26 else 256
    (s.mp.response = none → s.mp.discarding = false →
      answered (.readStation t) 1 0 (stationPayload n) ∧
      answered (.readFigures t) 3 0 (figuresPayload n) ∧
      answered (.readPorts t) 4 0 (portsPayload n) ∧
      (a = 0 ∨ 32 < a.toNat ∨ a.toNat = s.address → answered (.readPeer t a) 2 4 []) ∧
      (a ≠ 0 → a.toNat ≤ 32 → a.toNat ≠ s.address →
        (s.pv.entry a.toNat = none → answered (.readPeer t a) 2 0 [0]) ∧
        ∀ e, s.pv.entry a.toNat = some e → answered (.readPeer t a) 2 0 (1 :: entryBytes t e)) ∧
      (2 < sector.toNat ∨ length = 0 ∨ 64 < length.toNat ∨ size < offset.toNat + length.toNat →
        answered (.readConfig t sector offset length) 5 4 []) ∧
      (sector.toNat ≤ 2 → length ≠ 0 → length.toNat ≤ 64 → offset.toNat + length.toNat ≤ size →
        answered (.readConfig t sector offset length) 5 0 (((bytes sector.toNat).drop offset.toNat).take length.toNat)) ∧
      answered (.malformedRequest t code) code 3 [] ∧ answered (.requestGapTimeout t code) code 3 [] ∧
      (¬ (data.length = length.toNat ∧ length.toNat ≤ 38) → answered (.writeConfig t offset length data) 6 3 [])) ∧
    (∀ c r, (c, r) ∈ [(Instr.readStation t, Request.readStation), (.readPeer t a, .readPeer a), (.readFigures t, .readFigures),
        (.readPorts t, .readPorts), (.readConfig t sector offset length, .readConfig sector offset length), (.commit t, .commit),
        (.clearLockout t, .clearLockout), (.restart t, .restart), (.malformedRequest t code, .malformed code),
        (.requestGapTimeout t code, .malformed code),
        (.writeConfig t offset length data,
          if data.length = length.toNat ∧ length.toNat ≤ 38 then .writeConfig offset length data else .malformed 6)] →
      (s.mp.discarding = true → exec c s = .next { n with mp := { s.mp with discarding := false } }) ∧
      (s.mp.discarding = false → s.mp.response ≠ none →
        (s.mp.waiting = none → exec c s = .next { n with mp := { s.mp with waiting := some r } }) ∧
        (s.mp.waiting ≠ none → exec c s = .next n)))

/-- WRITE-CONFIG and COMMIT are judged by R187's checks in order: REFUSED-SERVICE, BUSY, BAD-RANGE or BAD-REQUEST, and otherwise the bytes
are written into the staging buffer, which leaves the working copy and the sector, or the commit begins. -/
def Obligations.WritesAndCommitsAreJudged : Prop :=
  ∀ (t : Tick) (offset length : Byte) (data : List Byte) (s : State), s.phase = .running → s.mp.response = none →
    s.mp.discarding = false →
    let fits := data.length = length.toNat ∧ length.toNat ≤ 38
    let message (code : Byte) (result : Nat) : List Byte := [0xA3, code, byte result, 0, 0] ++ crcBytes [code, byte result, 0, 0]
    let allowed := s.cr.mode = .service ∨ s.cr.mode = .fault ∧ s.level .service = .asserted
    let outside := length = 0 ∨ 32 < length.toNat ∨ 256 < offset.toNat + length.toNat
    let answered (c : Instr) (code : Byte) (result : Nat) : Prop :=
      exec c s = .next { s with tb := t, mp := { s.mp with response := some (message code result) } }
    (¬ allowed → (fits → answered (.writeConfig t offset length data) 6 1) ∧ answered (.commit t) 7 1) ∧
    (allowed → s.cr.commit = .running → (fits → answered (.writeConfig t offset length data) 6 2) ∧ answered (.commit t) 7 2) ∧
    (fits → allowed → s.cr.commit ≠ .running → outside → answered (.writeConfig t offset length data) 6 4) ∧
    (allowed → s.cr.commit ≠ .running → recordValid s.mp.staging = false → answered (.commit t) 7 3) ∧
    (fits → allowed → s.cr.commit ≠ .running → ¬ outside → s.mp.staging.length = 256 → ∃ staging : List Byte,
      staging.length = 256 ∧
      (∀ i, i < length.toNat → staging[offset.toNat + i]? = data[i]?) ∧
      (∀ i, i < offset.toNat ∨ offset.toNat + length.toNat ≤ i → staging[i]? = s.mp.staging[i]?) ∧
      exec (.writeConfig t offset length data) s =
        .next { s with tb := t, mp := { s.mp with staging, response := some (message 6 0) } }) ∧
    (allowed → s.cr.commit ≠ .running → recordValid s.mp.staging = true → exec (.commit t) s = .next { s with
      tb := t, cr := { s.cr with commit := .running }, mp := { s.mp with response := some (message 7 0) } })

/-- CLEAR-LOCKOUT and RESTART are judged by R188's table; at the end of a response the port is free, and the request that waits is then
judged as one that closes on the freed port, while a further request that is coming in at that instant will be discarded; a station reset
begins where a RESTART was answered (R185, R188), within which the address keeps its value (the model's choice, log 25). With no response
in sending the end of a response leaves the state (the model's choice, log 2). The characters of each request are read back as that
request, whatever comes before its 0xA3 and after its CRC; without a 0xA3 there is no request, and one that ends early, or at a framing
error, is malformed with its code, or 0 before it (R184, R185; in what a command of the port carries, log 17). -/
def Obligations.LockoutAndRestartAreJudged : Prop :=
  (∀ (t : Tick) (more : Bool) (s : State), s.phase = .running →
    let message (code : Byte) (result : Nat) : List Byte := [0xA3, code, byte result, 0, 0] ++ crcBytes [code, byte result, 0, 0]
    let answered (c : Instr) (code : Byte) (result : Nat) : Prop :=
      exec c s = .next { s with tb := t, mp := { s.mp with response := some (message code result) } }
    let genset := s.par.station.role = .genset
    (s.mp.response = none → s.mp.discarding = false →
      (¬ genset ∨ s.ds.state ≠ some .failed → answered (.clearLockout t) 8 3) ∧
      (genset → s.ds.state = some .failed → s.level .srcCb ≠ .released → answered (.clearLockout t) 8 2) ∧
      (genset → s.ds.state = some .failed → s.level .srcCb = .released → s.bsc.island ≠ some .dark →
        ∃ u, exec (.clearLockout t) s = .next u ∧
          u.ds.state = some (if s.level .inhibit = .asserted then .off else .standby) ∧ u.ret.lockout = false ∧
          u.tac.alarm.dieselFailed = false ∧ u.ds.inhibitSeen = false ∧ u.mp = { s.mp with response := some (message 8 0) } ∧
          (∀ c, u.pulse c = s.pulse c) ∧ u.fl = s.fl ∧ u.cr = s.cr ∧ u.mu = s.mu) ∧
      (s.cr.commit = .running → answered (.restart t) 9 2) ∧
      (s.cr.commit ≠ .running →
        exec (.restart t) s =
          .next { s with tb := t, mp := { s.mp with restartAfter := true, response := some (message 9 0) } })) ∧
    (s.mp.response = none → exec (.responseSent ⟨t, more⟩) s = .next s) ∧
    (s.mp.response ≠ none → s.mp.restartAfter = false → s.mp.waiting = none →
      exec (.responseSent ⟨t, more⟩) s = .next { s with tb := t, mp := { s.mp with response := none } }) ∧
    (∀ (a sector offset length code : Byte) (data : List Byte) (c : Instr) (r : Request), (c, r) ∈
        [(Instr.readStation t, Request.readStation), (.readPeer t a, .readPeer a), (.readFigures t, .readFigures),
          (.readPorts t, .readPorts), (.readConfig t sector offset length, .readConfig sector offset length), (.commit t, .commit),
          (.clearLockout t, .clearLockout), (.restart t, .restart), (.malformedRequest t code, .malformed code),
          (.writeConfig t offset length data, .writeConfig offset length data)] →
      (∀ o l d, r = .writeConfig o l d → d.length = l.toNat ∧ l.toNat ≤ 38) →
      s.mp.response ≠ none → s.mp.restartAfter = false → s.mp.waiting = some r →
      ∃ u, exec c { s with tb := t, mp := { s.mp with response := none, waiting := none, discarding := false } } = .next u ∧
        exec (.responseSent ⟨t, more⟩) s = .next { u with mp := { u.mp with discarding := more } }) ∧
    (s.mp.response ≠ none → s.mp.restartAfter = true → ∃ u, exec (.responseSent ⟨t, more⟩) s = .next u ∧ u.phase = .heldByRestart ∧
      u.mp = .reset ∧ u.cr.mode = .startup ∧ u.ds = .reset ∧ u.fl = .reset ∧ u.address = s.address ∧ u.pending = s.pending ∧
      (s.ret.intact = true → u.ret = { s.ret with valid := true }))) ∧
  (∀ (r : Request) (noise rest : List LinkChar), (∀ code, r ≠ .malformed code) →
    (∀ o l d, r = .writeConfig o l d → d.length = l.toNat ∧ l.toNat ≤ 38) → (∀ x ∈ noise, x.byte = 0xA3 → x.framing = true) →
    readRequest (noise ++ cleanBurst (requestChars r) ++ rest) = some (r, rest) ∧ readRequest noise = none ∧
    ∀ n, 1 ≤ n → n < (requestChars r).length →
      let cut := cleanBurst ((requestChars r).take n)
      let broken : Request := .malformed (if n = 1 then 0 else r.code)
      readRequest cut = some (broken, []) ∧ ∀ x : LinkChar, x.framing = true → readRequest (cut ++ x :: rest) = some (broken, rest))

/-! ### What every step keeps -/

/-- No step makes the close and the trip channel of one breaker active together (R24). -/
def Obligations.PairsStayExclusive : Prop := ∀ s t : State, s.pairsExclusive → step s = .next t → t.pairsExclusive

/-- Every step keeps the bias in range and equal to the value written to the PWM channel and the cap output at the cap code, and holds the
cap at 0 in DEAD-WAIT, DARK, STARTUP and FAULT (R29, R30, R98, R112, R131, R132, R133). -/
def Obligations.OutputsStayHeld : Prop :=
  ∀ s t : State, s.outputsFollow ∧ s.capHeld → step s = .next t → t.outputsFollow ∧ t.capHeld

/-- Every step keeps the peer table formed, the frequency windows valid, the address in range and the generator off 0 (R10, R14, R32, R45,
R59, R60, R74). The model's choices in it: the address that a reset keeps until its end (log 25), and an intent record's rank of 0 (log
46). -/
def Obligations.TablesStayFormed : Prop :=
  ∀ s t : State, s.tableFormed ∧ s.windowsOk ∧ s.generatorOk → step s = .next t → t.tableFormed ∧ t.windowsOk ∧ t.generatorOk

/-- Every step keeps the ALARM causes of mode FAULT, of the address conflict and of a FAILED set with what they stand for, and FAILED with
its lockout and RUN CLEAR (R34, R54, R70, R97, R119, R179). -/
def Obligations.CausesStayShown : Prop :=
  ∀ s t : State, s.causesShown ∧ s.failedLocked → step s = .next t → t.causesShown ∧ t.failedLocked

/-- Every step keeps the transmitter as R56's table gives it by mode and conflict flag. -/
def Obligations.SenderStaysEnabledByMode : Prop :=
  ∀ s t : State, s.senderFollows → step s = .next t → t.senderFollows

/-- Every step keeps the arbitration session formed: PERMIT is pulled only from START to HOLD, and each session timer runs only in its
phases (R166 to R173). -/
def Obligations.SessionStaysFormed : Prop := ∀ s t : State, s.sessionFormed → step s = .next t → t.sessionFormed

/-- Every step keeps the retention record at the state and cause of each port, the destination to OPENING, the shed cause to SHED, and the
FAULTED causes to the FAULTED ports (R137, R139, R181). -/
def Obligations.PortsStayShown : Prop := ∀ s t : State, s.portsShown → step s = .next t → t.portsShown

/-- At most one port is CLOSING or has a close active, and no step begins a feeder close pulse but in operation with the island LIVE or
RECOVER (R149). -/
def Obligations.FeederClosesStaySingle : Prop :=
  ∀ s t : State, s.oneCloseInFlight → step s = .next t → t.oneCloseInFlight ∧
    ∀ p, (s.pulse (.feederClose p)).isActive = false → (t.pulse (.feederClose p)).isActive = true →
      t.operating = true ∧ t.islandUp = true

/-- A source close pulse begins only onto a bus whose last record is at or above the live level, or after a won arbitration while PERMIT
is pulled (R108, R110, R170); for a breaker that is not already qualified as closed. -/
def Obligations.SourceClosesNeedLiveBusOrWin : Prop :=
  ∀ s t : State, s.level .srcCb ≠ .asserted → step s = .next t →
    (s.pulse .srcClose).isActive = false → (t.pulse .srcClose).isActive = true →
    (∃ r bus, t.mu.latest = some r ∧ r.busRms = some bus ∧
        (2 * t.par.black.liveLevel + 1) * t.par.station.nominalV ≤ 32 * bus) ∨
      t.permitPhase = .close ∧ t.tac.permitPull = true

/-- The state right after reset meets every invariant. Which reset it is, with address 1, is the model's choice (log 3), and so are the
reset values that the rules do not give (log 32). -/
def Obligations.ResetMeetsInvariants : Prop :=
  let s := State.reset
  s.pairsExclusive ∧ s.outputsFollow ∧ s.capHeld ∧ s.tableFormed ∧ s.windowsOk ∧ s.generatorOk ∧ s.causesShown ∧ s.failedLocked ∧
    s.senderFollows ∧ s.sessionFormed ∧ s.portsShown ∧ s.oneCloseInFlight
end

