-- ==== Sys2Proof/Laws/Frames.lean ====
section
/-! SUPPORT. The frame of the four jobs: what the diesel sequencer, the solar cap unit, the feeder ladder and the black start
coordinator leave as it is. `State.kept` blots out what a job may write, and one lemma a function says that it leaves the rest. -/

namespace Sys2Proof.Machine

variable {s t : State}

/-! ### What states that agree on `kept` share -/

theorem kept_phase (h : s.kept = t.kept) : s.phase = t.phase := by have := congrArg (fun x : State => x.phase) h; exact this
theorem kept_tb (h : s.kept = t.kept) : s.tb = t.tb := by have := congrArg (fun x : State => x.tb) h; exact this
theorem kept_address (h : s.kept = t.kept) : s.address = t.address := by
  have := congrArg (fun x : State => x.address) h; exact this
theorem kept_mu (h : s.kept = t.kept) : s.mu = t.mu := by have := congrArg (fun x : State => x.mu) h; exact this
theorem kept_pv (h : s.kept = t.kept) : s.pv = t.pv := by have := congrArg (fun x : State => x.pv) h; exact this
theorem kept_be (h : s.kept = t.kept) : s.be = t.be := by have := congrArg (fun x : State => x.be) h; exact this
theorem kept_cr (h : s.kept = t.kept) : s.cr = t.cr := by have := congrArg (fun x : State => x.cr) h; exact this
theorem kept_mp (h : s.kept = t.kept) : s.mp = t.mp := by have := congrArg (fun x : State => x.mp) h; exact this
theorem kept_freeCount (h : s.kept = t.kept) : s.freeCount = t.freeCount := by
  have := congrArg (fun x : State => x.freeCount) h; exact this
theorem kept_pending (h : s.kept = t.kept) : s.pending = t.pending := by
  have := congrArg (fun x : State => x.pending) h; exact this
theorem kept_inputs (h : s.kept = t.kept) : s.tac.inputs = t.tac.inputs := by
  have := congrArg (fun x : State => x.tac.inputs) h; exact this
theorem kept_nextSample (h : s.kept = t.kept) : s.tac.nextSample = t.tac.nextSample := by
  have := congrArg (fun x : State => x.tac.nextSample) h; exact this
theorem kept_pwmStart (h : s.kept = t.kept) : s.tac.pwmStart = t.tac.pwmStart := by
  have := congrArg (fun x : State => x.tac.pwmStart) h; exact this
theorem kept_pwmInUse (h : s.kept = t.kept) : s.tac.pwmInUse = t.tac.pwmInUse := by
  have := congrArg (fun x : State => x.tac.pwmInUse) h; exact this
theorem kept_permitOthers (h : s.kept = t.kept) : s.tac.permitOthers = t.tac.permitOthers := by
  have := congrArg (fun x : State => x.tac.permitOthers) h; exact this
theorem kept_transmitter (h : s.kept = t.kept) : s.ilc.transmitter = t.ilc.transmitter := by
  have := congrArg (fun x : State => x.ilc.transmitter) h; exact this
theorem kept_receiver (h : s.kept = t.kept) : s.ilc.receiver = t.ilc.receiver := by
  have := congrArg (fun x : State => x.ilc.receiver) h; exact this
theorem kept_conflict (h : s.kept = t.kept) : s.ilc.conflict = t.ilc.conflict := by
  have := congrArg (fun x : State => x.ilc.conflict) h; exact this
theorem kept_random (h : s.kept = t.kept) : s.ilc.random = t.ilc.random := by
  have := congrArg (fun x : State => x.ilc.random) h; exact this
theorem kept_counters (h : s.kept = t.kept) : s.ilc.counters = t.ilc.counters := by
  have := congrArg (fun x : State => x.ilc.counters) h; exact this
theorem kept_status (h : s.kept = t.kept) : s.ilc.status = t.ilc.status := by
  have := congrArg (fun x : State => x.ilc.status) h; exact this
theorem kept_linkStarted (h : s.kept = t.kept) : s.ilc.started = t.ilc.started := by
  have := congrArg (fun x : State => x.ilc.started) h; exact this

/-! ### The shared operations -/

variable (s)

/-- The timers that a job owns, and those of the pulse channels and windows that it uses. -/
def ofJobs : TimerId → Bool
  | .synthetic | .source | .status | .stale _ | .removal _ | .balance | .integrity => false
  | _ => true

@[simp] theorem State.kept_putPulse (c : PulseChannel) (x : Pulse) : (s.putPulse c x).kept = s.kept := by cases c <;> rfl
@[simp] theorem State.kept_putWindow (b : Breaker) (w : Window) : (s.putWindow b w).kept = s.kept := by cases b <;> rfl
@[simp] theorem State.kept_modifyPort (p : Port) (g : PortRecord → PortRecord) : (s.modifyPort p g).kept = s.kept := rfl
@[simp] theorem State.kept_putSession (x : Session) : (s.putSession x).kept = s.kept := rfl
@[simp] theorem State.kept_putDieselTimers (x : DieselTimers) : (s.putDieselTimers x).kept = s.kept := rfl
@[simp] theorem State.kept_writePwm (v : Int) : (s.writePwm v).kept = s.kept := rfl
@[simp] theorem State.kept_writeCapCode (v : Int) : (s.writeCapCode v).kept = s.kept := rfl
@[simp] theorem State.kept_writeRun (b : Bool) : (s.writeRun b).kept = s.kept := rfl
@[simp] theorem State.kept_setAlarm (c : AlarmCause) (b : Bool) : (s.setAlarm c b).kept = s.kept := rfl
@[simp] theorem State.kept_drivePermit (b : Bool) : (s.drivePermit b).kept = s.kept := rfl
@[simp] theorem State.kept_setPermitEdges (b : Bool) : (s.setPermitEdges b).kept = s.kept := rfl
@[simp] theorem State.kept_writeLockout (b : Bool) : (s.writeLockout b).kept = s.kept := rfl
@[simp] theorem State.kept_retainPort (p : Port) (st : PortState) (c : Option ShedCause) :
    (s.retainPort p st c).kept = s.kept := rfl
@[simp] theorem State.kept_putSlot (k : FrameKind) (x : Slot) : (s.putSlot k x).kept = s.kept := rfl
@[simp] theorem State.kept_ds (d : Ds) : State.kept { s with ds := d } = s.kept := rfl
@[simp] theorem State.kept_sc (d : Sc) : State.kept { s with sc := d } = s.kept := rfl
@[simp] theorem State.kept_fl (d : Fl) : State.kept { s with fl := d } = s.kept := rfl
@[simp] theorem State.kept_bsc (d : Bsc) : State.kept { s with bsc := d } = s.kept := rfl
@[simp] theorem State.kept_ret (d : Retention) : State.kept { s with ret := d } = s.kept := rfl

@[simp] theorem State.kept_placeFrame (k : FrameKind) (l : List Byte) : (s.placeFrame k l).kept = s.kept := by
  unfold State.placeFrame; split <;> simp

theorem State.kept_putTimer {id : TimerId} (h : ofJobs id = true) (x : Timer) : (s.putTimer id x).kept = s.kept := by
  cases id <;> simp [ofJobs, State.putTimer] at h ⊢

theorem State.kept_start {id : TimerId} (h : ofJobs id = true) (d : Nat) : (s.start id d).kept = s.kept :=
  s.kept_putTimer h _

theorem State.kept_cancel {id : TimerId} (h : ofJobs id = true) : (s.cancel id).kept = s.kept := s.kept_putTimer h _

@[simp] theorem kept_start_pulse (c : PulseChannel) (d : Nat) : (s.start (.pulse c) d).kept = s.kept :=
  s.kept_start rfl d
@[simp] theorem kept_cancel_pulse (c : PulseChannel) : (s.cancel (.pulse c)).kept = s.kept :=
  s.kept_cancel rfl
@[simp] theorem kept_start_confirm (b : Breaker) (d : Nat) : (s.start (.confirm b) d).kept = s.kept :=
  s.kept_start rfl d
@[simp] theorem kept_cancel_confirm (b : Breaker) : (s.cancel (.confirm b)).kept = s.kept :=
  s.kept_cancel rfl
@[simp] theorem kept_start_window (d : Nat) : (s.start .window d).kept = s.kept :=
  s.kept_start rfl d
@[simp] theorem kept_cancel_window : (s.cancel .window).kept = s.kept :=
  s.kept_cancel rfl
@[simp] theorem kept_start_holdoff (d : Nat) : (s.start .holdoff d).kept = s.kept :=
  s.kept_start rfl d
@[simp] theorem kept_cancel_holdoff : (s.cancel .holdoff).kept = s.kept :=
  s.kept_cancel rfl
@[simp] theorem kept_start_stop (d : Nat) : (s.start .stop d).kept = s.kept :=
  s.kept_start rfl d
@[simp] theorem kept_cancel_stop : (s.cancel .stop).kept = s.kept :=
  s.kept_cancel rfl
@[simp] theorem kept_start_loss (d : Nat) : (s.start .loss d).kept = s.kept :=
  s.kept_start rfl d
@[simp] theorem kept_cancel_loss : (s.cancel .loss).kept = s.kept :=
  s.kept_cancel rfl
@[simp] theorem kept_start_rest (d : Nat) : (s.start .rest d).kept = s.kept :=
  s.kept_start rfl d
@[simp] theorem kept_cancel_rest : (s.cancel .rest).kept = s.kept :=
  s.kept_cancel rfl
@[simp] theorem kept_start_spool (d : Nat) : (s.start .spool d).kept = s.kept :=
  s.kept_start rfl d
@[simp] theorem kept_cancel_spool : (s.cancel .spool).kept = s.kept :=
  s.kept_cancel rfl
@[simp] theorem kept_start_sync (d : Nat) : (s.start .sync d).kept = s.kept :=
  s.kept_start rfl d
@[simp] theorem kept_cancel_sync : (s.cancel .sync).kept = s.kept :=
  s.kept_cancel rfl
@[simp] theorem kept_start_unload (d : Nat) : (s.start .unload d).kept = s.kept :=
  s.kept_start rfl d
@[simp] theorem kept_cancel_unload : (s.cancel .unload).kept = s.kept :=
  s.kept_cancel rfl
@[simp] theorem kept_start_cooldown (d : Nat) : (s.start .cooldown d).kept = s.kept :=
  s.kept_start rfl d
@[simp] theorem kept_cancel_cooldown : (s.cancel .cooldown).kept = s.kept :=
  s.kept_cancel rfl
@[simp] theorem kept_start_ripeness (p : Port) (d : Nat) : (s.start (.ripeness p) d).kept = s.kept :=
  s.kept_start rfl d
@[simp] theorem kept_cancel_ripeness (p : Port) : (s.cancel (.ripeness p)).kept = s.kept :=
  s.kept_cancel rfl
@[simp] theorem kept_start_restoreQual (d : Nat) : (s.start .restoreQual d).kept = s.kept :=
  s.kept_start rfl d
@[simp] theorem kept_cancel_restoreQual : (s.cancel .restoreQual).kept = s.kept :=
  s.kept_cancel rfl
@[simp] theorem kept_start_stepSpacing (d : Nat) : (s.start .stepSpacing d).kept = s.kept :=
  s.kept_start rfl d
@[simp] theorem kept_cancel_stepSpacing : (s.cancel .stepSpacing).kept = s.kept :=
  s.kept_cancel rfl
@[simp] theorem kept_start_overload (d : Nat) : (s.start .overload d).kept = s.kept :=
  s.kept_start rfl d
@[simp] theorem kept_cancel_overload : (s.cancel .overload).kept = s.kept :=
  s.kept_cancel rfl
@[simp] theorem kept_start_dead (d : Nat) : (s.start .dead d).kept = s.kept :=
  s.kept_start rfl d
@[simp] theorem kept_cancel_dead : (s.cancel .dead).kept = s.kept :=
  s.kept_cancel rfl
@[simp] theorem kept_start_recover (d : Nat) : (s.start .recover d).kept = s.kept :=
  s.kept_start rfl d
@[simp] theorem kept_cancel_recover : (s.cancel .recover).kept = s.kept :=
  s.kept_cancel rfl
@[simp] theorem kept_start_guard (d : Nat) : (s.start .guard d).kept = s.kept :=
  s.kept_start rfl d
@[simp] theorem kept_cancel_guard : (s.cancel .guard).kept = s.kept :=
  s.kept_cancel rfl
@[simp] theorem kept_start_stuck (d : Nat) : (s.start .stuck d).kept = s.kept :=
  s.kept_start rfl d
@[simp] theorem kept_cancel_stuck : (s.cancel .stuck).kept = s.kept :=
  s.kept_cancel rfl
@[simp] theorem kept_start_slot (d : Nat) : (s.start .slot d).kept = s.kept :=
  s.kept_start rfl d
@[simp] theorem kept_cancel_slot : (s.cancel .slot).kept = s.kept :=
  s.kept_cancel rfl
@[simp] theorem kept_start_hold (d : Nat) : (s.start .hold d).kept = s.kept :=
  s.kept_start rfl d
@[simp] theorem kept_cancel_hold : (s.cancel .hold).kept = s.kept :=
  s.kept_cancel rfl
@[simp] theorem kept_start_liveWait (d : Nat) : (s.start .liveWait d).kept = s.kept :=
  s.kept_start rfl d
@[simp] theorem kept_cancel_liveWait : (s.cancel .liveWait).kept = s.kept :=
  s.kept_cancel rfl

@[simp] theorem State.kept_beginPulse (c : PulseChannel) (r : Requester) (w : Nat) : (s.beginPulse c r w).kept = s.kept := by
  simp [State.beginPulse]

@[simp] theorem State.kept_openWindow (b : Breaker) (r : Requester) (x : Bool) : (s.openWindow b r x).2.kept = s.kept := by
  unfold State.openWindow; (repeat' split) <;> simp

@[simp] theorem State.kept_openWindowIf (y : Bool) (b : Breaker) (r : Requester) (x : Bool) :
    (s.openWindowIf y b r x).2.kept = s.kept := by unfold State.openWindowIf; split <;> simp

@[simp] theorem State.kept_requestClose (b : Breaker) (r : Requester) (w : Nat) (x : Bool) :
    (s.requestClose b r w x).2.kept = s.kept := by simp only [State.requestClose]; (repeat' split) <;> simp

@[simp] theorem State.kept_cutCloseForTrip (b : Breaker) : (s.cutCloseForTrip b).kept = s.kept := by
  simp only [State.cutCloseForTrip]; split <;> simp

@[simp] theorem State.kept_requestTrip (b : Breaker) (r : Requester) (w : Nat) (x : Bool) :
    (s.requestTrip b r w x).2.kept = s.kept := by simp only [State.requestTrip]; (repeat' split) <;> simp

theorem kept_of_requestClose {s t : State} {b : Breaker} {r : Requester} {w : Nat} {x : Bool} {a : PulseReply}
    (h : s.requestClose b r w x = (a, t)) : t.kept = s.kept := by
  have := s.kept_requestClose b r w x; rw [h] at this; exact this

theorem kept_of_requestTrip {s t : State} {b : Breaker} {r : Requester} {w : Nat} {x : Bool} {a : PulseReply}
    (h : s.requestTrip b r w x = (a, t)) : t.kept = s.kept := by have := s.kept_requestTrip b r w x; rw [h] at this; exact this

@[simp] theorem State.kept_cut (c : PulseChannel) : (s.cut c).kept = s.kept := by simp [State.cut]

@[simp] theorem State.kept_requestCrank (w : Nat) : (s.requestCrank w).kept = s.kept := by
  unfold State.requestCrank; split <;> simp

@[simp] theorem State.kept_cutLocal (p : Port) : (s.cutLocal p).kept = s.kept := by simp [State.cutLocal]

/-- Acts taken in turn that each leave the rest alone leave it alone together. -/
theorem kept_foldl {α : Type} {f : State → α → State} (h : ∀ s a, (f s a).kept = s.kept) (l : List α) (s : State) :
    (l.foldl f s).kept = s.kept := by
  induction l generalizing s with
  | nil => rfl
  | cons a l ih => rw [List.foldl_cons, ih, h]

/-! ### Machine/Permit.lean -/

@[simp] theorem sessionEnd_kept : (sessionEnd s).kept = s.kept := by simp [sessionEnd]
@[simp] theorem bscWithdraw_kept : (bscWithdraw s).kept = s.kept := by simp only [bscWithdraw]; (repeat' split) <;> simp
@[simp] theorem startGuard_kept (origin : GuardOrigin) : (startGuard origin s).kept = s.kept := by simp [startGuard]
@[simp] theorem bscRequest_kept : (bscRequest s).2.kept = s.kept := by simp only [bscRequest]; (repeat' split) <;> simp

theorem kept_of_bscRequest {s t : State} {a : Bool} (h : bscRequest s = (a, t)) : t.kept = s.kept := by
  have := bscRequest_kept s; rw [h] at this; exact this

@[simp] theorem startHold_kept : (startHold s).kept = s.kept := by simp [startHold]
@[simp] theorem bscConfirmed_kept : (bscConfirmed s).kept = s.kept := by simp only [bscConfirmed]; (repeat' split) <;> simp
@[simp] theorem bscCloseFailed_kept : (bscCloseFailed s).kept = s.kept := by
  simp only [bscCloseFailed]; (repeat' split) <;> simp
@[simp] theorem bscHoldLive_kept : (bscHoldLive s).kept = s.kept := by simp only [bscHoldLive]; (repeat' split) <;> simp

/-! ### Machine/DieselOps.lean -/

@[simp] theorem setBias_kept (v : Int) : (setBias v s).kept = s.kept := by simp [setBias]
@[simp] theorem dsEnter_kept (st : DieselState) : (dsEnter st s).kept = s.kept := by
  simp only [dsEnter]; (repeat' split) <;> simp
@[simp] theorem dropIntent_kept : (dropIntent s).kept = s.kept := by simp [dropIntent]
@[simp] theorem openIntent_kept (k : IntentKind) : (openIntent k s).kept = s.kept := by simp [openIntent]
@[simp] theorem dsWithdraw_kept : (dsWithdraw s).kept = s.kept := by simp only [dsWithdraw]; (repeat' split) <;> simp
@[simp] theorem dsTrip_kept (confirm : Bool) : (dsTrip confirm s).2.kept = s.kept := by simp [dsTrip]

theorem kept_of_dsTrip {s t : State} {confirm : Bool} {a : PulseReply} (h : dsTrip confirm s = (a, t)) : t.kept = s.kept := by
  have := dsTrip_kept s confirm; rw [h] at this; exact this

@[simp] theorem dsEnterFailed_kept : (dsEnterFailed s).kept = s.kept := by simp [dsEnterFailed]
@[simp] theorem dsEnterOff_kept : (dsEnterOff s).kept = s.kept := by simp [dsEnterOff]
@[simp] theorem dsEnterSpool_kept : (dsEnterSpool s).kept = s.kept := by simp [dsEnterSpool]
@[simp] theorem dsEnterCrank_kept : (dsEnterCrank s).kept = s.kept := by simp only [dsEnterCrank]; (repeat' split) <;> simp
@[simp] theorem dsStartAtDark_kept : (dsStartAtDark s).kept = s.kept := by simp [dsStartAtDark]
@[simp] theorem dsEnterStandby_kept : (dsEnterStandby s).kept = s.kept := by
  simp only [dsEnterStandby]; (repeat' split) <;> simp
@[simp] theorem dsEnterIntent_kept : (dsEnterIntent s).kept = s.kept := by simp [dsEnterIntent]
@[simp] theorem dsWithdrawStart_kept : (dsWithdrawStart s).kept = s.kept := by simp [dsWithdrawStart]
@[simp] theorem dsEnterSync_kept : (dsEnterSync s).kept = s.kept := by simp [dsEnterSync]
@[simp] theorem dsEnterArbitrate_kept : (dsEnterArbitrate s).kept = s.kept := by
  simp only [dsEnterArbitrate]; (repeat' split) <;> first | simp; done | simp [kept_of_bscRequest ‹_›]
@[simp] theorem dsEnterStopIntent_kept : (dsEnterStopIntent s).kept = s.kept := by simp [dsEnterStopIntent]
@[simp] theorem dsForcedStop_kept : (dsForcedStop s).kept = s.kept := by simp [dsForcedStop]
@[simp] theorem dsBackOnline_kept : (dsBackOnline s).kept = s.kept := by simp [dsBackOnline]
@[simp] theorem dsAbandonUnload_kept : (dsAbandonUnload s).kept = s.kept := by simp [dsAbandonUnload]
@[simp] theorem dsConfirmed_kept : (dsConfirmed s).kept = s.kept := by simp only [dsConfirmed]; (repeat' split) <;> simp
@[simp] theorem dsClosingFailed_kept : (dsClosingFailed s).kept = s.kept := by
  simp only [dsClosingFailed]; (repeat' split) <;> simp
@[simp] theorem dsNotConfirmed_kept : (dsNotConfirmed s).kept = s.kept := by
  simp only [dsNotConfirmed]; (repeat' split) <;> simp
@[simp] theorem dsEnterClosing_kept (deadBus confirmed : Bool) : (dsEnterClosing deadBus confirmed s).kept = s.kept := by
  simp only [dsEnterClosing]; (repeat' split) <;> simp
@[simp] theorem dsCloseFromSync_kept : (dsCloseFromSync s).kept = s.kept := by
  simp only [dsCloseFromSync]; (repeat' split) <;> first | simp; done | simp [kept_of_requestClose ‹_›]
@[simp] theorem dsWon_kept : (dsWon s).kept = s.kept := by
  simp only [dsWon]; (repeat' split) <;> first | simp; done | simp [kept_of_requestClose ‹_›]
@[simp] theorem dsLostOrLive_kept : (dsLostOrLive s).kept = s.kept := by simp only [dsLostOrLive]; (repeat' split) <;> simp
@[simp] theorem dsEnterOpening_kept : (dsEnterOpening s).kept = s.kept := by
  simp only [dsEnterOpening]; (repeat' split) <;> simp
@[simp] theorem dsJudgeSpool_kept : (dsJudgeSpool s).kept = s.kept := by simp only [dsJudgeSpool]; (repeat' split) <;> simp
@[simp] theorem dsTripOffDark_kept : (dsTripOffDark s).kept = s.kept := by simp [dsTripOffDark]
@[simp] theorem dsDark_kept : (dsDark s).kept = s.kept := by simp only [dsDark]; (repeat' split) <;> simp
@[simp] theorem dsIslandChange_kept : (dsIslandChange s).kept = s.kept := by
  simp only [dsIslandChange]; (repeat' split) <;> simp
@[simp] theorem dsClearLockout_kept : (dsClearLockout s).kept = s.kept := by
  simp only [dsClearLockout]; (repeat' split) <;> simp
@[simp] theorem dsInhibitAsserted_kept : (dsInhibitAsserted s).kept = s.kept := by
  simp only [dsInhibitAsserted]; (repeat' split) <;> simp
@[simp] theorem dsInhibitReleased_kept : (dsInhibitReleased s).kept = s.kept := by
  simp only [dsInhibitReleased]; (repeat' split) <;> simp
@[simp] theorem dsIntentNotice_kept (sender : Nat) (kind : IntentKind) (rank : Nat) :
    (dsIntentNotice sender kind rank s).kept = s.kept := by simp only [dsIntentNotice]; (repeat' split) <;> simp
@[simp] theorem dsLossNotice_kept : (dsLossNotice s).kept = s.kept := by simp only [dsLossNotice]; (repeat' split) <;> simp
@[simp] theorem dsHold_kept : (dsHold s).kept = s.kept := by simp only [dsHold]; (repeat' split) <;> simp
@[simp] theorem dsAlone_kept : (dsAlone s).kept = s.kept := by simp only [dsAlone]; (repeat' split) <;> simp
@[simp] theorem dsResume_kept : (dsResume s).kept = s.kept := by simp only [dsResume]; (repeat' split) <;> simp

/-! ### Machine/IslandOps.lean -/

@[simp] theorem State.kept_setIsland (i : Island) : (State.setIsland s i).kept = s.kept := by simp [State.setIsland]
@[simp] theorem clearPreDark_kept : (clearPreDark s).kept = s.kept := by simp [clearPreDark]
@[simp] theorem bscEnterLive_kept : (bscEnterLive s).kept = s.kept := by simp [bscEnterLive]
@[simp] theorem bscLook_kept : (bscLook s).kept = s.kept := by simp only [bscLook]; (repeat' split) <;> simp

/-! ### Machine/Feeder.lean -/

@[simp] theorem flEnter_kept (p : Port) (st : PortState) (dest : Option Destination) (cause : Option ShedCause) :
    (flEnter p st dest cause s).kept = s.kept := by simp only [flEnter]; (repeat' split) <;> simp
@[simp] theorem flAbandonSwap_kept : (flAbandonSwap s).kept = s.kept := by simp [flAbandonSwap]
@[simp] theorem flCloseConfirmed_kept (p : Port) : (flCloseConfirmed p s).kept = s.kept := by simp [flCloseConfirmed]
@[simp] theorem flClose_kept (p : Port) : (flClose p s).2.kept = s.kept := by
  simp only [flClose]; (repeat' split) <;> first | simp; done | simp [kept_of_requestClose ‹_›]

theorem kept_of_flClose {s t : State} {p : Port} {a : Bool} (h : flClose p s = (a, t)) : t.kept = s.kept := by
  have := flClose_kept s p; rw [h] at this; exact this

@[simp] theorem flRestartSpacing_kept : (flRestartSpacing s).kept = s.kept := by
  simp only [flRestartSpacing]; (repeat' split) <;> simp
@[simp] theorem flAnnounceStep_kept (p : Port) : (flAnnounceStep p s).kept = s.kept := by simp [flAnnounceStep]
@[simp] theorem flSwapClose_kept (w : Swap) : (flSwapClose w s).kept = s.kept := by
  simp only [flSwapClose]; (repeat' split) <;> first | simp; done | simp [kept_of_flClose ‹_›]
@[simp] theorem flOpenConfirmed_kept (p : Port) : (flOpenConfirmed p s).kept = s.kept := by
  simp only [flOpenConfirmed]; (repeat' split) <;> simp
@[simp] theorem flTrip_kept (p : Port) (dest : Destination) : (flTrip p dest s).2.kept = s.kept := by
  simp only [flTrip]; (repeat' split) <;> first | simp; done | simp [kept_of_requestTrip ‹_›]

theorem kept_of_flTrip {s t : State} {p : Port} {dest : Destination} {a : Bool} (h : flTrip p dest s = (a, t)) : t.kept = s.kept := by
  have := flTrip_kept s p dest; rw [h] at this; exact this

@[simp] theorem flTripAll_kept (dest : Destination) (ports : List Port) : (flTripAll dest ports s).kept = s.kept :=
  kept_foldl (by simp) _ _
@[simp] theorem flConfirmed_kept (p : Port) : (flConfirmed p s).kept = s.kept := by
  simp only [flConfirmed]; (repeat' split) <;> simp
@[simp] theorem flNotConfirmed_kept (p : Port) : (flNotConfirmed p s).kept = s.kept := by
  simp only [flNotConfirmed]; (repeat' split) <;> simp
@[simp] theorem flCloseEnded_kept (p : Port) : (flCloseEnded p s).kept = s.kept := by simp [flCloseEnded]
@[simp] theorem flTripEnded_kept (p : Port) : (flTripEnded p s).kept = s.kept := by
  simp only [flTripEnded]; (repeat' split) <;> simp
@[simp] theorem flBreakerChange_kept (p : Port) (assertedNow : Bool) : (flBreakerChange p assertedNow s).kept = s.kept := by
  simp only [flBreakerChange]; (repeat' split) <;> simp
@[simp] theorem flLocalAsserted_kept (p : Port) : (flLocalAsserted p s).kept = s.kept := by
  simp only [flLocalAsserted]; (repeat' split) <;> simp
@[simp] theorem flLocalReleased_kept (p : Port) : (flLocalReleased p s).kept = s.kept := by
  simp only [flLocalReleased]; (repeat' split) <;> simp
@[simp] theorem flStage_kept (f : Option Nat)  (k : Port) : (flStage f s k).kept = s.kept := by
  simp only [flStage]; (repeat' split) <;> simp
@[simp] theorem flQualify_kept (f : Option Nat) : (flQualify f s).kept = s.kept := by
  simp only [flQualify]; (repeat' split) <;> simp
@[simp] theorem flRecord_kept (f : Option Nat) : (flRecord f s).kept = s.kept := by
  simp only [flRecord]; (repeat' split) <;> simp [kept_foldl (f := flStage _) (by simp)]
@[simp] theorem flShed_kept (demand : Int) (cause : ShedCause) : (flShed demand cause s).kept = s.kept := by simp [flShed]
@[simp] theorem flLoss_kept (role : Role) (lostOutput lostRating : Nat) : (flLoss role lostOutput lostRating s).kept = s.kept := by
  simp only [flLoss]; (repeat' split) <;> simp
@[simp] theorem flJudgeOverload_kept : (flJudgeOverload s).kept = s.kept := by
  simp only [flJudgeOverload]; (repeat' split) <;> simp
@[simp] theorem flOverloadExpired_kept : (flOverloadExpired s).kept = s.kept := by simp [flOverloadExpired]
@[simp] theorem flRestore_kept : (flRestore s).kept = s.kept := by
  simp only [flRestore]; (repeat' split) <;> first | simp; done | simp [kept_of_flClose ‹_›]
@[simp] theorem flStartSwap_kept : (flStartSwap s).kept = s.kept := by
  simp only [flStartSwap]; (repeat' split) <;> first | simp; done | simp [kept_of_flTrip ‹_›]
@[simp] theorem flRecordLoads_kept : (flRecordLoads s).kept = s.kept := kept_foldl (by simp) _ _
@[simp] theorem flFigures_kept : (flFigures s).kept = s.kept := by simp only [flFigures]; (repeat' split) <;> simp
@[simp] theorem flStepNotice_kept : (flStepNotice s).kept = s.kept := by simp only [flStepNotice]; (repeat' split) <;> simp
@[simp] theorem flDarkPort_kept (p : Port) : (flDarkPort s p).kept = s.kept := by
  simp only [flDarkPort]; (repeat' split) <;> simp
@[simp] theorem flDark_kept : (flDark s).kept = s.kept := kept_foldl (by simp) _ _
@[simp] theorem flUnqualify_kept : (flUnqualify s).kept = s.kept := by simp [flUnqualify]
@[simp] theorem flIslandChange_kept : (flIslandChange s).kept = s.kept := by
  simp only [flIslandChange]; (repeat' split) <;> simp
@[simp] theorem flDropOwed_kept : (flDropOwed s).kept = s.kept := kept_foldl (by simp) _ _
@[simp] theorem flModeChange_kept (old : Mode) : (flModeChange old s).kept = s.kept := by
  simp only [flModeChange]; (repeat' split) <;> simp
@[simp] theorem flRecoverExpired_kept : (flRecoverExpired s).kept = s.kept := kept_foldl (by intro s a; split <;> simp) _ _
@[simp] theorem flReconstructPort_kept (p : Port) : (flReconstructPort s p).kept = s.kept := by
  simp only [flReconstructPort]; (repeat' split) <;> simp
@[simp] theorem flReconstruct_kept : (flReconstruct s).kept = s.kept := (kept_foldl (by simp) _ _).trans (by simp)

/-! ### Machine/Diesel.lean -/

@[simp] theorem dsLost_kept (engineStop : Bool) : (dsLost engineStop s).kept = s.kept := by
  simp only [dsLost]; (repeat' split) <;> simp
@[simp] theorem dsUnexpectedClose_kept : (dsUnexpectedClose s).kept = s.kept := by simp [dsUnexpectedClose]
@[simp] theorem dsSrcAsserted_kept : (dsSrcAsserted s).kept = s.kept := by simp only [dsSrcAsserted]; (repeat' split) <;> simp
@[simp] theorem dsSrcReleased_kept : (dsSrcReleased s).kept = s.kept := by simp only [dsSrcReleased]; (repeat' split) <;> simp
@[simp] theorem dsRunAsserted_kept : (dsRunAsserted s).kept = s.kept := by simp only [dsRunAsserted]; (repeat' split) <;> simp
@[simp] theorem dsRunReleased_kept : (dsRunReleased s).kept = s.kept := by simp only [dsRunReleased]; (repeat' split) <;> simp
@[simp] theorem dsCrankEnded_kept : (dsCrankEnded s).kept = s.kept := by simp only [dsCrankEnded]; (repeat' split) <;> simp
@[simp] theorem dsJudgeSync_kept (r : CycleRecord) : (dsJudgeSync r s).kept = s.kept := by
  simp only [dsJudgeSync]; (repeat' split) <;> simp
@[simp] theorem dsRecord_kept (r : CycleRecord) : (dsRecord r s).kept = s.kept := by
  simp only [dsRecord]; (repeat' split) <;> simp
@[simp] theorem dsBiasOnline_kept : (dsBiasOnline s).kept = s.kept := by simp only [dsBiasOnline]; (repeat' split) <;> simp
@[simp] theorem dsBiasSync_kept : (dsBiasSync s).kept = s.kept := by simp only [dsBiasSync]; (repeat' split) <;> simp
@[simp] theorem dsBiasStep_kept : (dsBiasStep s).kept = s.kept := by simp only [dsBiasStep]; (repeat' split) <;> simp
@[simp] theorem dsJudgeStart_kept : (dsJudgeStart s).kept = s.kept := by simp only [dsJudgeStart]; (repeat' split) <;> simp
@[simp] theorem dsJudgeStop_kept : (dsJudgeStop s).kept = s.kept := by simp only [dsJudgeStop]; (repeat' split) <;> simp
@[simp] theorem dsJudgeStopIntent_kept : (dsJudgeStopIntent s).kept = s.kept := by
  simp only [dsJudgeStopIntent]; (repeat' split) <;> simp
@[simp] theorem dsJudgeUnload_kept : (dsJudgeUnload s).kept = s.kept := by simp only [dsJudgeUnload]; (repeat' split) <;> simp
@[simp] theorem dsJudge_kept : (dsJudge s).kept = s.kept := by simp only [dsJudge]; (repeat' split) <;> simp
@[simp] theorem dsFigures_kept : (dsFigures s).kept = s.kept := by simp only [dsFigures]; (repeat' split) <;> simp
@[simp] theorem dsWindowExpired_kept : (dsWindowExpired s).kept = s.kept := by
  simp only [dsWindowExpired]; (repeat' split) <;> simp
@[simp] theorem dsStopExpired_kept : (dsStopExpired s).kept = s.kept := by simp only [dsStopExpired]; (repeat' split) <;> simp
@[simp] theorem dsRestExpired_kept : (dsRestExpired s).kept = s.kept := by simp only [dsRestExpired]; (repeat' split) <;> simp
@[simp] theorem dsSpoolExpired_kept : (dsSpoolExpired s).kept = s.kept := by
  simp only [dsSpoolExpired]; (repeat' split) <;> simp
@[simp] theorem dsSyncExpired_kept : (dsSyncExpired s).kept = s.kept := by simp only [dsSyncExpired]; (repeat' split) <;> simp
@[simp] theorem dsUnloadExpired_kept : (dsUnloadExpired s).kept = s.kept := by
  simp only [dsUnloadExpired]; (repeat' split) <;> simp
@[simp] theorem dsCooldownExpired_kept : (dsCooldownExpired s).kept = s.kept := by
  simp only [dsCooldownExpired]; (repeat' split) <;> simp
@[simp] theorem dsRest_kept : (dsRest s).kept = s.kept := by simp only [dsRest]; (repeat' split) <;> simp
@[simp] theorem dsFoundClosed_kept : (dsFoundClosed s).kept = s.kept := by simp only [dsFoundClosed]; (repeat' split) <;> simp
@[simp] theorem dsFoundOnline_kept : (dsFoundOnline s).kept = s.kept := by simp only [dsFoundOnline]; (repeat' split) <;> simp
@[simp] theorem dsFoundRunning_kept : (dsFoundRunning s).kept = s.kept := by
  simp only [dsFoundRunning]; (repeat' split) <;> simp
@[simp] theorem dsReconstruct_kept : (dsReconstruct s).kept = s.kept := by simp only [dsReconstruct]; (repeat' split) <;> simp

/-! ### Machine/Solar.lean -/

@[simp] theorem scEnter_kept (st : SolarState) : (scEnter st s).kept = s.kept := by simp [scEnter]
@[simp] theorem scCommand_kept (cap : Int) (override : CapOverride) : (scCommand cap override s).kept = s.kept := by
  simp [scCommand]
@[simp] theorem scRun_kept : (scRun s).kept = s.kept := by simp [scRun]
@[simp] theorem scFigures_kept : (scFigures s).kept = s.kept := by simp only [scFigures]; (repeat' split) <;> simp
@[simp] theorem scZero_kept (override : CapOverride) : (scZero override s).kept = s.kept := by
  simp only [scZero]; (repeat' split) <;> simp
@[simp] theorem scConfirmed_kept : (scConfirmed s).kept = s.kept := by simp only [scConfirmed]; (repeat' split) <;> simp
@[simp] theorem scNotConfirmed_kept : (scNotConfirmed s).kept = s.kept := by simp [scNotConfirmed]
@[simp] theorem scTripAtDark_kept : (scTripAtDark s).kept = s.kept := by
  simp only [scTripAtDark]; (repeat' split) <;> first | simp; done | simp [kept_of_requestTrip ‹_›]
@[simp] theorem scIslandChange_kept : (scIslandChange s).kept = s.kept := by
  simp only [scIslandChange]; (repeat' split) <;> simp
@[simp] theorem scAsserted_kept : (scAsserted s).kept = s.kept := by simp only [scAsserted]; (repeat' split) <;> simp
@[simp] theorem scLost_kept (output : Nat) : (scLost output s).kept = s.kept := by simp [scLost]
@[simp] theorem scReleased_kept : (scReleased s).kept = s.kept := by simp only [scReleased]; (repeat' split) <;> simp
@[simp] theorem scStart_kept : (scStart s).kept = s.kept := by simp only [scStart]; (repeat' split) <;> simp

/-! ### Machine/Island.lean -/

@[simp] theorem markWasClosed_kept : (markWasClosed s).kept = s.kept := by simp [markWasClosed]
@[simp] theorem writePreDark_kept : (writePreDark s).kept = s.kept := by simp [writePreDark]
@[simp] theorem reportIsland_kept : (reportIsland s).kept = s.kept := by simp [reportIsland]
@[simp] theorem bscEnterDark_kept : (bscEnterDark s).kept = s.kept := by simp [bscEnterDark]
@[simp] theorem bscEnterDeadWait_kept (origin : Origin) : (bscEnterDeadWait origin s).kept = s.kept := by
  simp [bscEnterDeadWait]
@[simp] theorem bscEnterRecover_kept : (bscEnterRecover s).kept = s.kept := by simp [bscEnterRecover]
@[simp] theorem bscFollow_kept (c : Condition) : (bscFollow c s).kept = s.kept := by
  unfold bscFollow; split <;> first | simp; done | skip
  dsimp only; split <;> simp
@[simp] theorem bscDeadExpired_kept : (bscDeadExpired s).kept = s.kept := by
  simp only [bscDeadExpired]; (repeat' split) <;> simp
@[simp] theorem bscRecoverExpired_kept : (bscRecoverExpired s).kept = s.kept := by
  simp only [bscRecoverExpired]; (repeat' split) <;> simp
@[simp] theorem bscBusLive_kept (c : Condition) : (bscBusLive c s).kept = s.kept := by
  simp only [bscBusLive]; (repeat' split) <;> simp
@[simp] theorem bscReconstruct_kept (c : Condition) : (bscReconstruct c s).kept = s.kept := by
  simp only [bscReconstruct]
  (repeat' split) <;> simp [kept_foldl (f := fun s p => flEnter p .blackOpen none none s) (by simp)]
@[simp] theorem bscRecord_kept (c : Condition) : (bscRecord c s).kept = s.kept := by
  simp only [bscRecord]; (repeat' split) <;> simp
@[simp] theorem bscStart_kept : (bscStart s).kept = s.kept := by simp [bscStart]
@[simp] theorem bscJoin_kept : (bscJoin s).kept = s.kept := by simp [bscJoin]
@[simp] theorem bscGuardExpired_kept : (bscGuardExpired s).kept = s.kept := by
  simp only [bscGuardExpired]; (repeat' split) <;> simp
@[simp] theorem bscFall_kept : (bscFall s).kept = s.kept := by simp only [bscFall]; (repeat' split) <;> simp
@[simp] theorem bscRise_kept : (bscRise s).kept = s.kept := by simp only [bscRise]; (repeat' split) <;> simp
@[simp] theorem bscStuckExpired_kept : (bscStuckExpired s).kept = s.kept := by
  simp only [bscStuckExpired]; (repeat' split) <;> simp
@[simp] theorem bscDriveBit_kept (i : Nat) : (bscDriveBit i s).kept = s.kept := by simp [bscDriveBit]
@[simp] theorem bscWin_kept : (bscWin s).kept = s.kept := by simp only [bscWin]; (repeat' split) <;> simp
@[simp] theorem bscSample_kept : (bscSample s).kept = s.kept := by simp only [bscSample]; (repeat' split) <;> simp
@[simp] theorem bscSlotExpired_kept : (bscSlotExpired s).kept = s.kept := by
  simp only [bscSlotExpired]; (repeat' split) <;> simp
@[simp] theorem bscHoldExpired_kept : (bscHoldExpired s).kept = s.kept := by
  simp only [bscHoldExpired]; (repeat' split) <;> simp
@[simp] theorem bscHold_kept : (bscHold s).kept = s.kept := by simp only [bscHold]; (repeat' split) <;> simp

end Sys2Proof.Machine
end

