-- ==== Sys2Proof/Laws/State.lean ====
section
/-! SUPPORT. The fields of the state after each of the updates that Machine/Ops.lean names: one lemma a field and update. -/

namespace Sys2Proof.Machine

variable (s : State)

/-! ### stamp -/

@[simp] theorem State.stamp_phase (t : Tick) : (s.stamp t).phase = s.phase := rfl
@[simp] theorem State.stamp_address (t : Tick) : (s.stamp t).address = s.address := rfl
@[simp] theorem State.stamp_tac (t : Tick) : (s.stamp t).tac = s.tac := rfl
@[simp] theorem State.stamp_ret (t : Tick) : (s.stamp t).ret = s.ret := rfl
@[simp] theorem State.stamp_mu (t : Tick) : (s.stamp t).mu = s.mu := rfl
@[simp] theorem State.stamp_ilc (t : Tick) : (s.stamp t).ilc = s.ilc := rfl
@[simp] theorem State.stamp_pv (t : Tick) : (s.stamp t).pv = s.pv := rfl
@[simp] theorem State.stamp_be (t : Tick) : (s.stamp t).be = s.be := rfl
@[simp] theorem State.stamp_ds (t : Tick) : (s.stamp t).ds = s.ds := rfl
@[simp] theorem State.stamp_sc (t : Tick) : (s.stamp t).sc = s.sc := rfl
@[simp] theorem State.stamp_fl (t : Tick) : (s.stamp t).fl = s.fl := rfl
@[simp] theorem State.stamp_bsc (t : Tick) : (s.stamp t).bsc = s.bsc := rfl
@[simp] theorem State.stamp_cr (t : Tick) : (s.stamp t).cr = s.cr := rfl
@[simp] theorem State.stamp_mp (t : Tick) : (s.stamp t).mp = s.mp := rfl
@[simp] theorem State.stamp_freeCount (t : Tick) : (s.stamp t).freeCount = s.freeCount := rfl
@[simp] theorem State.stamp_pending (t : Tick) : (s.stamp t).pending = s.pending := rfl

/-! ### stampRunning -/

@[simp] theorem State.stampRunning_phase (t : Tick) : (s.stampRunning t).phase = s.phase := by unfold State.stampRunning; split <;> rfl
@[simp] theorem State.stampRunning_address (t : Tick) : (s.stampRunning t).address = s.address := by unfold State.stampRunning; split <;> rfl
@[simp] theorem State.stampRunning_tac (t : Tick) : (s.stampRunning t).tac = s.tac := by unfold State.stampRunning; split <;> rfl
@[simp] theorem State.stampRunning_ret (t : Tick) : (s.stampRunning t).ret = s.ret := by unfold State.stampRunning; split <;> rfl
@[simp] theorem State.stampRunning_mu (t : Tick) : (s.stampRunning t).mu = s.mu := by unfold State.stampRunning; split <;> rfl
@[simp] theorem State.stampRunning_ilc (t : Tick) : (s.stampRunning t).ilc = s.ilc := by unfold State.stampRunning; split <;> rfl
@[simp] theorem State.stampRunning_pv (t : Tick) : (s.stampRunning t).pv = s.pv := by unfold State.stampRunning; split <;> rfl
@[simp] theorem State.stampRunning_be (t : Tick) : (s.stampRunning t).be = s.be := by unfold State.stampRunning; split <;> rfl
@[simp] theorem State.stampRunning_ds (t : Tick) : (s.stampRunning t).ds = s.ds := by unfold State.stampRunning; split <;> rfl
@[simp] theorem State.stampRunning_sc (t : Tick) : (s.stampRunning t).sc = s.sc := by unfold State.stampRunning; split <;> rfl
@[simp] theorem State.stampRunning_fl (t : Tick) : (s.stampRunning t).fl = s.fl := by unfold State.stampRunning; split <;> rfl
@[simp] theorem State.stampRunning_bsc (t : Tick) : (s.stampRunning t).bsc = s.bsc := by unfold State.stampRunning; split <;> rfl
@[simp] theorem State.stampRunning_cr (t : Tick) : (s.stampRunning t).cr = s.cr := by unfold State.stampRunning; split <;> rfl
@[simp] theorem State.stampRunning_mp (t : Tick) : (s.stampRunning t).mp = s.mp := by unfold State.stampRunning; split <;> rfl
@[simp] theorem State.stampRunning_freeCount (t : Tick) : (s.stampRunning t).freeCount = s.freeCount := by unfold State.stampRunning; split <;> rfl
@[simp] theorem State.stampRunning_pending (t : Tick) : (s.stampRunning t).pending = s.pending := by unfold State.stampRunning; split <;> rfl

/-! ### putPulse -/

@[simp] theorem State.putPulse_phase (c : PulseChannel) (x : Pulse) : (s.putPulse c x).phase = s.phase := rfl
@[simp] theorem State.putPulse_tb (c : PulseChannel) (x : Pulse) : (s.putPulse c x).tb = s.tb := rfl
@[simp] theorem State.putPulse_address (c : PulseChannel) (x : Pulse) : (s.putPulse c x).address = s.address := rfl
@[simp] theorem State.putPulse_ret (c : PulseChannel) (x : Pulse) : (s.putPulse c x).ret = s.ret := rfl
@[simp] theorem State.putPulse_mu (c : PulseChannel) (x : Pulse) : (s.putPulse c x).mu = s.mu := rfl
@[simp] theorem State.putPulse_ilc (c : PulseChannel) (x : Pulse) : (s.putPulse c x).ilc = s.ilc := rfl
@[simp] theorem State.putPulse_pv (c : PulseChannel) (x : Pulse) : (s.putPulse c x).pv = s.pv := rfl
@[simp] theorem State.putPulse_be (c : PulseChannel) (x : Pulse) : (s.putPulse c x).be = s.be := rfl
@[simp] theorem State.putPulse_ds (c : PulseChannel) (x : Pulse) : (s.putPulse c x).ds = s.ds := rfl
@[simp] theorem State.putPulse_sc (c : PulseChannel) (x : Pulse) : (s.putPulse c x).sc = s.sc := rfl
@[simp] theorem State.putPulse_fl (c : PulseChannel) (x : Pulse) : (s.putPulse c x).fl = s.fl := rfl
@[simp] theorem State.putPulse_bsc (c : PulseChannel) (x : Pulse) : (s.putPulse c x).bsc = s.bsc := rfl
@[simp] theorem State.putPulse_cr (c : PulseChannel) (x : Pulse) : (s.putPulse c x).cr = s.cr := rfl
@[simp] theorem State.putPulse_mp (c : PulseChannel) (x : Pulse) : (s.putPulse c x).mp = s.mp := rfl
@[simp] theorem State.putPulse_freeCount (c : PulseChannel) (x : Pulse) : (s.putPulse c x).freeCount = s.freeCount := rfl
@[simp] theorem State.putPulse_pending (c : PulseChannel) (x : Pulse) : (s.putPulse c x).pending = s.pending := rfl

/-! ### putWindow -/

@[simp] theorem State.putWindow_phase (b : Breaker) (w : Window) : (s.putWindow b w).phase = s.phase := rfl
@[simp] theorem State.putWindow_tb (b : Breaker) (w : Window) : (s.putWindow b w).tb = s.tb := rfl
@[simp] theorem State.putWindow_address (b : Breaker) (w : Window) : (s.putWindow b w).address = s.address := rfl
@[simp] theorem State.putWindow_ret (b : Breaker) (w : Window) : (s.putWindow b w).ret = s.ret := rfl
@[simp] theorem State.putWindow_mu (b : Breaker) (w : Window) : (s.putWindow b w).mu = s.mu := rfl
@[simp] theorem State.putWindow_ilc (b : Breaker) (w : Window) : (s.putWindow b w).ilc = s.ilc := rfl
@[simp] theorem State.putWindow_pv (b : Breaker) (w : Window) : (s.putWindow b w).pv = s.pv := rfl
@[simp] theorem State.putWindow_be (b : Breaker) (w : Window) : (s.putWindow b w).be = s.be := rfl
@[simp] theorem State.putWindow_ds (b : Breaker) (w : Window) : (s.putWindow b w).ds = s.ds := rfl
@[simp] theorem State.putWindow_sc (b : Breaker) (w : Window) : (s.putWindow b w).sc = s.sc := rfl
@[simp] theorem State.putWindow_fl (b : Breaker) (w : Window) : (s.putWindow b w).fl = s.fl := rfl
@[simp] theorem State.putWindow_bsc (b : Breaker) (w : Window) : (s.putWindow b w).bsc = s.bsc := rfl
@[simp] theorem State.putWindow_cr (b : Breaker) (w : Window) : (s.putWindow b w).cr = s.cr := rfl
@[simp] theorem State.putWindow_mp (b : Breaker) (w : Window) : (s.putWindow b w).mp = s.mp := rfl
@[simp] theorem State.putWindow_freeCount (b : Breaker) (w : Window) : (s.putWindow b w).freeCount = s.freeCount := rfl
@[simp] theorem State.putWindow_pending (b : Breaker) (w : Window) : (s.putWindow b w).pending = s.pending := rfl

/-! ### modifyPort -/

@[simp] theorem State.modifyPort_phase (p : Port) (g : PortRecord → PortRecord) : (s.modifyPort p g).phase = s.phase := rfl
@[simp] theorem State.modifyPort_tb (p : Port) (g : PortRecord → PortRecord) : (s.modifyPort p g).tb = s.tb := rfl
@[simp] theorem State.modifyPort_address (p : Port) (g : PortRecord → PortRecord) : (s.modifyPort p g).address = s.address := rfl
@[simp] theorem State.modifyPort_tac (p : Port) (g : PortRecord → PortRecord) : (s.modifyPort p g).tac = s.tac := rfl
@[simp] theorem State.modifyPort_ret (p : Port) (g : PortRecord → PortRecord) : (s.modifyPort p g).ret = s.ret := rfl
@[simp] theorem State.modifyPort_mu (p : Port) (g : PortRecord → PortRecord) : (s.modifyPort p g).mu = s.mu := rfl
@[simp] theorem State.modifyPort_ilc (p : Port) (g : PortRecord → PortRecord) : (s.modifyPort p g).ilc = s.ilc := rfl
@[simp] theorem State.modifyPort_pv (p : Port) (g : PortRecord → PortRecord) : (s.modifyPort p g).pv = s.pv := rfl
@[simp] theorem State.modifyPort_be (p : Port) (g : PortRecord → PortRecord) : (s.modifyPort p g).be = s.be := rfl
@[simp] theorem State.modifyPort_ds (p : Port) (g : PortRecord → PortRecord) : (s.modifyPort p g).ds = s.ds := rfl
@[simp] theorem State.modifyPort_sc (p : Port) (g : PortRecord → PortRecord) : (s.modifyPort p g).sc = s.sc := rfl
@[simp] theorem State.modifyPort_bsc (p : Port) (g : PortRecord → PortRecord) : (s.modifyPort p g).bsc = s.bsc := rfl
@[simp] theorem State.modifyPort_cr (p : Port) (g : PortRecord → PortRecord) : (s.modifyPort p g).cr = s.cr := rfl
@[simp] theorem State.modifyPort_mp (p : Port) (g : PortRecord → PortRecord) : (s.modifyPort p g).mp = s.mp := rfl
@[simp] theorem State.modifyPort_freeCount (p : Port) (g : PortRecord → PortRecord) : (s.modifyPort p g).freeCount = s.freeCount := rfl
@[simp] theorem State.modifyPort_pending (p : Port) (g : PortRecord → PortRecord) : (s.modifyPort p g).pending = s.pending := rfl

/-! ### putDieselTimers -/

@[simp] theorem State.putDieselTimers_phase (t : DieselTimers) : (s.putDieselTimers t).phase = s.phase := rfl
@[simp] theorem State.putDieselTimers_tb (t : DieselTimers) : (s.putDieselTimers t).tb = s.tb := rfl
@[simp] theorem State.putDieselTimers_address (t : DieselTimers) : (s.putDieselTimers t).address = s.address := rfl
@[simp] theorem State.putDieselTimers_tac (t : DieselTimers) : (s.putDieselTimers t).tac = s.tac := rfl
@[simp] theorem State.putDieselTimers_ret (t : DieselTimers) : (s.putDieselTimers t).ret = s.ret := rfl
@[simp] theorem State.putDieselTimers_mu (t : DieselTimers) : (s.putDieselTimers t).mu = s.mu := rfl
@[simp] theorem State.putDieselTimers_ilc (t : DieselTimers) : (s.putDieselTimers t).ilc = s.ilc := rfl
@[simp] theorem State.putDieselTimers_pv (t : DieselTimers) : (s.putDieselTimers t).pv = s.pv := rfl
@[simp] theorem State.putDieselTimers_be (t : DieselTimers) : (s.putDieselTimers t).be = s.be := rfl
@[simp] theorem State.putDieselTimers_sc (t : DieselTimers) : (s.putDieselTimers t).sc = s.sc := rfl
@[simp] theorem State.putDieselTimers_fl (t : DieselTimers) : (s.putDieselTimers t).fl = s.fl := rfl
@[simp] theorem State.putDieselTimers_bsc (t : DieselTimers) : (s.putDieselTimers t).bsc = s.bsc := rfl
@[simp] theorem State.putDieselTimers_cr (t : DieselTimers) : (s.putDieselTimers t).cr = s.cr := rfl
@[simp] theorem State.putDieselTimers_mp (t : DieselTimers) : (s.putDieselTimers t).mp = s.mp := rfl
@[simp] theorem State.putDieselTimers_freeCount (t : DieselTimers) : (s.putDieselTimers t).freeCount = s.freeCount := rfl
@[simp] theorem State.putDieselTimers_pending (t : DieselTimers) : (s.putDieselTimers t).pending = s.pending := rfl

/-! ### putSession -/

@[simp] theorem State.putSession_phase (x : Session) : (s.putSession x).phase = s.phase := rfl
@[simp] theorem State.putSession_tb (x : Session) : (s.putSession x).tb = s.tb := rfl
@[simp] theorem State.putSession_address (x : Session) : (s.putSession x).address = s.address := rfl
@[simp] theorem State.putSession_tac (x : Session) : (s.putSession x).tac = s.tac := rfl
@[simp] theorem State.putSession_ret (x : Session) : (s.putSession x).ret = s.ret := rfl
@[simp] theorem State.putSession_mu (x : Session) : (s.putSession x).mu = s.mu := rfl
@[simp] theorem State.putSession_ilc (x : Session) : (s.putSession x).ilc = s.ilc := rfl
@[simp] theorem State.putSession_pv (x : Session) : (s.putSession x).pv = s.pv := rfl
@[simp] theorem State.putSession_be (x : Session) : (s.putSession x).be = s.be := rfl
@[simp] theorem State.putSession_ds (x : Session) : (s.putSession x).ds = s.ds := rfl
@[simp] theorem State.putSession_sc (x : Session) : (s.putSession x).sc = s.sc := rfl
@[simp] theorem State.putSession_fl (x : Session) : (s.putSession x).fl = s.fl := rfl
@[simp] theorem State.putSession_cr (x : Session) : (s.putSession x).cr = s.cr := rfl
@[simp] theorem State.putSession_mp (x : Session) : (s.putSession x).mp = s.mp := rfl
@[simp] theorem State.putSession_freeCount (x : Session) : (s.putSession x).freeCount = s.freeCount := rfl
@[simp] theorem State.putSession_pending (x : Session) : (s.putSession x).pending = s.pending := rfl

/-! ### writePwm -/

@[simp] theorem State.writePwm_phase (v : Int) : (s.writePwm v).phase = s.phase := rfl
@[simp] theorem State.writePwm_tb (v : Int) : (s.writePwm v).tb = s.tb := rfl
@[simp] theorem State.writePwm_address (v : Int) : (s.writePwm v).address = s.address := rfl
@[simp] theorem State.writePwm_ret (v : Int) : (s.writePwm v).ret = s.ret := rfl
@[simp] theorem State.writePwm_mu (v : Int) : (s.writePwm v).mu = s.mu := rfl
@[simp] theorem State.writePwm_ilc (v : Int) : (s.writePwm v).ilc = s.ilc := rfl
@[simp] theorem State.writePwm_pv (v : Int) : (s.writePwm v).pv = s.pv := rfl
@[simp] theorem State.writePwm_be (v : Int) : (s.writePwm v).be = s.be := rfl
@[simp] theorem State.writePwm_ds (v : Int) : (s.writePwm v).ds = s.ds := rfl
@[simp] theorem State.writePwm_sc (v : Int) : (s.writePwm v).sc = s.sc := rfl
@[simp] theorem State.writePwm_fl (v : Int) : (s.writePwm v).fl = s.fl := rfl
@[simp] theorem State.writePwm_bsc (v : Int) : (s.writePwm v).bsc = s.bsc := rfl
@[simp] theorem State.writePwm_cr (v : Int) : (s.writePwm v).cr = s.cr := rfl
@[simp] theorem State.writePwm_mp (v : Int) : (s.writePwm v).mp = s.mp := rfl
@[simp] theorem State.writePwm_freeCount (v : Int) : (s.writePwm v).freeCount = s.freeCount := rfl
@[simp] theorem State.writePwm_pending (v : Int) : (s.writePwm v).pending = s.pending := rfl

/-! ### writeCapCode -/

@[simp] theorem State.writeCapCode_phase (c : Int) : (s.writeCapCode c).phase = s.phase := rfl
@[simp] theorem State.writeCapCode_tb (c : Int) : (s.writeCapCode c).tb = s.tb := rfl
@[simp] theorem State.writeCapCode_address (c : Int) : (s.writeCapCode c).address = s.address := rfl
@[simp] theorem State.writeCapCode_ret (c : Int) : (s.writeCapCode c).ret = s.ret := rfl
@[simp] theorem State.writeCapCode_mu (c : Int) : (s.writeCapCode c).mu = s.mu := rfl
@[simp] theorem State.writeCapCode_ilc (c : Int) : (s.writeCapCode c).ilc = s.ilc := rfl
@[simp] theorem State.writeCapCode_pv (c : Int) : (s.writeCapCode c).pv = s.pv := rfl
@[simp] theorem State.writeCapCode_be (c : Int) : (s.writeCapCode c).be = s.be := rfl
@[simp] theorem State.writeCapCode_ds (c : Int) : (s.writeCapCode c).ds = s.ds := rfl
@[simp] theorem State.writeCapCode_sc (c : Int) : (s.writeCapCode c).sc = s.sc := rfl
@[simp] theorem State.writeCapCode_fl (c : Int) : (s.writeCapCode c).fl = s.fl := rfl
@[simp] theorem State.writeCapCode_bsc (c : Int) : (s.writeCapCode c).bsc = s.bsc := rfl
@[simp] theorem State.writeCapCode_cr (c : Int) : (s.writeCapCode c).cr = s.cr := rfl
@[simp] theorem State.writeCapCode_mp (c : Int) : (s.writeCapCode c).mp = s.mp := rfl
@[simp] theorem State.writeCapCode_freeCount (c : Int) : (s.writeCapCode c).freeCount = s.freeCount := rfl
@[simp] theorem State.writeCapCode_pending (c : Int) : (s.writeCapCode c).pending = s.pending := rfl

/-! ### writeRun -/

@[simp] theorem State.writeRun_phase (b : Bool) : (s.writeRun b).phase = s.phase := rfl
@[simp] theorem State.writeRun_tb (b : Bool) : (s.writeRun b).tb = s.tb := rfl
@[simp] theorem State.writeRun_address (b : Bool) : (s.writeRun b).address = s.address := rfl
@[simp] theorem State.writeRun_tac (b : Bool) : (s.writeRun b).tac = s.tac := rfl
@[simp] theorem State.writeRun_mu (b : Bool) : (s.writeRun b).mu = s.mu := rfl
@[simp] theorem State.writeRun_ilc (b : Bool) : (s.writeRun b).ilc = s.ilc := rfl
@[simp] theorem State.writeRun_pv (b : Bool) : (s.writeRun b).pv = s.pv := rfl
@[simp] theorem State.writeRun_be (b : Bool) : (s.writeRun b).be = s.be := rfl
@[simp] theorem State.writeRun_ds (b : Bool) : (s.writeRun b).ds = s.ds := rfl
@[simp] theorem State.writeRun_sc (b : Bool) : (s.writeRun b).sc = s.sc := rfl
@[simp] theorem State.writeRun_fl (b : Bool) : (s.writeRun b).fl = s.fl := rfl
@[simp] theorem State.writeRun_bsc (b : Bool) : (s.writeRun b).bsc = s.bsc := rfl
@[simp] theorem State.writeRun_cr (b : Bool) : (s.writeRun b).cr = s.cr := rfl
@[simp] theorem State.writeRun_mp (b : Bool) : (s.writeRun b).mp = s.mp := rfl
@[simp] theorem State.writeRun_freeCount (b : Bool) : (s.writeRun b).freeCount = s.freeCount := rfl
@[simp] theorem State.writeRun_pending (b : Bool) : (s.writeRun b).pending = s.pending := rfl

/-! ### setAlarm -/

@[simp] theorem State.setAlarm_phase (c : AlarmCause) (b : Bool) : (s.setAlarm c b).phase = s.phase := rfl
@[simp] theorem State.setAlarm_tb (c : AlarmCause) (b : Bool) : (s.setAlarm c b).tb = s.tb := rfl
@[simp] theorem State.setAlarm_address (c : AlarmCause) (b : Bool) : (s.setAlarm c b).address = s.address := rfl
@[simp] theorem State.setAlarm_ret (c : AlarmCause) (b : Bool) : (s.setAlarm c b).ret = s.ret := rfl
@[simp] theorem State.setAlarm_mu (c : AlarmCause) (b : Bool) : (s.setAlarm c b).mu = s.mu := rfl
@[simp] theorem State.setAlarm_ilc (c : AlarmCause) (b : Bool) : (s.setAlarm c b).ilc = s.ilc := rfl
@[simp] theorem State.setAlarm_pv (c : AlarmCause) (b : Bool) : (s.setAlarm c b).pv = s.pv := rfl
@[simp] theorem State.setAlarm_be (c : AlarmCause) (b : Bool) : (s.setAlarm c b).be = s.be := rfl
@[simp] theorem State.setAlarm_ds (c : AlarmCause) (b : Bool) : (s.setAlarm c b).ds = s.ds := rfl
@[simp] theorem State.setAlarm_sc (c : AlarmCause) (b : Bool) : (s.setAlarm c b).sc = s.sc := rfl
@[simp] theorem State.setAlarm_fl (c : AlarmCause) (b : Bool) : (s.setAlarm c b).fl = s.fl := rfl
@[simp] theorem State.setAlarm_bsc (c : AlarmCause) (b : Bool) : (s.setAlarm c b).bsc = s.bsc := rfl
@[simp] theorem State.setAlarm_cr (c : AlarmCause) (b : Bool) : (s.setAlarm c b).cr = s.cr := rfl
@[simp] theorem State.setAlarm_mp (c : AlarmCause) (b : Bool) : (s.setAlarm c b).mp = s.mp := rfl
@[simp] theorem State.setAlarm_freeCount (c : AlarmCause) (b : Bool) : (s.setAlarm c b).freeCount = s.freeCount := rfl
@[simp] theorem State.setAlarm_pending (c : AlarmCause) (b : Bool) : (s.setAlarm c b).pending = s.pending := rfl

/-! ### drivePermit -/

@[simp] theorem State.drivePermit_phase (b : Bool) : (s.drivePermit b).phase = s.phase := rfl
@[simp] theorem State.drivePermit_tb (b : Bool) : (s.drivePermit b).tb = s.tb := rfl
@[simp] theorem State.drivePermit_address (b : Bool) : (s.drivePermit b).address = s.address := rfl
@[simp] theorem State.drivePermit_ret (b : Bool) : (s.drivePermit b).ret = s.ret := rfl
@[simp] theorem State.drivePermit_mu (b : Bool) : (s.drivePermit b).mu = s.mu := rfl
@[simp] theorem State.drivePermit_ilc (b : Bool) : (s.drivePermit b).ilc = s.ilc := rfl
@[simp] theorem State.drivePermit_pv (b : Bool) : (s.drivePermit b).pv = s.pv := rfl
@[simp] theorem State.drivePermit_be (b : Bool) : (s.drivePermit b).be = s.be := rfl
@[simp] theorem State.drivePermit_ds (b : Bool) : (s.drivePermit b).ds = s.ds := rfl
@[simp] theorem State.drivePermit_sc (b : Bool) : (s.drivePermit b).sc = s.sc := rfl
@[simp] theorem State.drivePermit_fl (b : Bool) : (s.drivePermit b).fl = s.fl := rfl
@[simp] theorem State.drivePermit_bsc (b : Bool) : (s.drivePermit b).bsc = s.bsc := rfl
@[simp] theorem State.drivePermit_cr (b : Bool) : (s.drivePermit b).cr = s.cr := rfl
@[simp] theorem State.drivePermit_mp (b : Bool) : (s.drivePermit b).mp = s.mp := rfl
@[simp] theorem State.drivePermit_freeCount (b : Bool) : (s.drivePermit b).freeCount = s.freeCount := rfl
@[simp] theorem State.drivePermit_pending (b : Bool) : (s.drivePermit b).pending = s.pending := rfl

/-! ### setPermitEdges -/

@[simp] theorem State.setPermitEdges_phase (b : Bool) : (s.setPermitEdges b).phase = s.phase := rfl
@[simp] theorem State.setPermitEdges_tb (b : Bool) : (s.setPermitEdges b).tb = s.tb := rfl
@[simp] theorem State.setPermitEdges_address (b : Bool) : (s.setPermitEdges b).address = s.address := rfl
@[simp] theorem State.setPermitEdges_ret (b : Bool) : (s.setPermitEdges b).ret = s.ret := rfl
@[simp] theorem State.setPermitEdges_mu (b : Bool) : (s.setPermitEdges b).mu = s.mu := rfl
@[simp] theorem State.setPermitEdges_ilc (b : Bool) : (s.setPermitEdges b).ilc = s.ilc := rfl
@[simp] theorem State.setPermitEdges_pv (b : Bool) : (s.setPermitEdges b).pv = s.pv := rfl
@[simp] theorem State.setPermitEdges_be (b : Bool) : (s.setPermitEdges b).be = s.be := rfl
@[simp] theorem State.setPermitEdges_ds (b : Bool) : (s.setPermitEdges b).ds = s.ds := rfl
@[simp] theorem State.setPermitEdges_sc (b : Bool) : (s.setPermitEdges b).sc = s.sc := rfl
@[simp] theorem State.setPermitEdges_fl (b : Bool) : (s.setPermitEdges b).fl = s.fl := rfl
@[simp] theorem State.setPermitEdges_bsc (b : Bool) : (s.setPermitEdges b).bsc = s.bsc := rfl
@[simp] theorem State.setPermitEdges_cr (b : Bool) : (s.setPermitEdges b).cr = s.cr := rfl
@[simp] theorem State.setPermitEdges_mp (b : Bool) : (s.setPermitEdges b).mp = s.mp := rfl
@[simp] theorem State.setPermitEdges_freeCount (b : Bool) : (s.setPermitEdges b).freeCount = s.freeCount := rfl
@[simp] theorem State.setPermitEdges_pending (b : Bool) : (s.setPermitEdges b).pending = s.pending := rfl

/-! ### writeLockout -/

@[simp] theorem State.writeLockout_phase (b : Bool) : (s.writeLockout b).phase = s.phase := rfl
@[simp] theorem State.writeLockout_tb (b : Bool) : (s.writeLockout b).tb = s.tb := rfl
@[simp] theorem State.writeLockout_address (b : Bool) : (s.writeLockout b).address = s.address := rfl
@[simp] theorem State.writeLockout_tac (b : Bool) : (s.writeLockout b).tac = s.tac := rfl
@[simp] theorem State.writeLockout_mu (b : Bool) : (s.writeLockout b).mu = s.mu := rfl
@[simp] theorem State.writeLockout_ilc (b : Bool) : (s.writeLockout b).ilc = s.ilc := rfl
@[simp] theorem State.writeLockout_pv (b : Bool) : (s.writeLockout b).pv = s.pv := rfl
@[simp] theorem State.writeLockout_be (b : Bool) : (s.writeLockout b).be = s.be := rfl
@[simp] theorem State.writeLockout_ds (b : Bool) : (s.writeLockout b).ds = s.ds := rfl
@[simp] theorem State.writeLockout_sc (b : Bool) : (s.writeLockout b).sc = s.sc := rfl
@[simp] theorem State.writeLockout_fl (b : Bool) : (s.writeLockout b).fl = s.fl := rfl
@[simp] theorem State.writeLockout_bsc (b : Bool) : (s.writeLockout b).bsc = s.bsc := rfl
@[simp] theorem State.writeLockout_cr (b : Bool) : (s.writeLockout b).cr = s.cr := rfl
@[simp] theorem State.writeLockout_mp (b : Bool) : (s.writeLockout b).mp = s.mp := rfl
@[simp] theorem State.writeLockout_freeCount (b : Bool) : (s.writeLockout b).freeCount = s.freeCount := rfl
@[simp] theorem State.writeLockout_pending (b : Bool) : (s.writeLockout b).pending = s.pending := rfl

/-! ### retainPort -/

@[simp] theorem State.retainPort_phase (p : Port) (st : PortState) (cause : Option ShedCause) : (s.retainPort p st cause).phase = s.phase := rfl
@[simp] theorem State.retainPort_tb (p : Port) (st : PortState) (cause : Option ShedCause) : (s.retainPort p st cause).tb = s.tb := rfl
@[simp] theorem State.retainPort_address (p : Port) (st : PortState) (cause : Option ShedCause) : (s.retainPort p st cause).address = s.address := rfl
@[simp] theorem State.retainPort_tac (p : Port) (st : PortState) (cause : Option ShedCause) : (s.retainPort p st cause).tac = s.tac := rfl
@[simp] theorem State.retainPort_mu (p : Port) (st : PortState) (cause : Option ShedCause) : (s.retainPort p st cause).mu = s.mu := rfl
@[simp] theorem State.retainPort_ilc (p : Port) (st : PortState) (cause : Option ShedCause) : (s.retainPort p st cause).ilc = s.ilc := rfl
@[simp] theorem State.retainPort_pv (p : Port) (st : PortState) (cause : Option ShedCause) : (s.retainPort p st cause).pv = s.pv := rfl
@[simp] theorem State.retainPort_be (p : Port) (st : PortState) (cause : Option ShedCause) : (s.retainPort p st cause).be = s.be := rfl
@[simp] theorem State.retainPort_ds (p : Port) (st : PortState) (cause : Option ShedCause) : (s.retainPort p st cause).ds = s.ds := rfl
@[simp] theorem State.retainPort_sc (p : Port) (st : PortState) (cause : Option ShedCause) : (s.retainPort p st cause).sc = s.sc := rfl
@[simp] theorem State.retainPort_fl (p : Port) (st : PortState) (cause : Option ShedCause) : (s.retainPort p st cause).fl = s.fl := rfl
@[simp] theorem State.retainPort_bsc (p : Port) (st : PortState) (cause : Option ShedCause) : (s.retainPort p st cause).bsc = s.bsc := rfl
@[simp] theorem State.retainPort_cr (p : Port) (st : PortState) (cause : Option ShedCause) : (s.retainPort p st cause).cr = s.cr := rfl
@[simp] theorem State.retainPort_mp (p : Port) (st : PortState) (cause : Option ShedCause) : (s.retainPort p st cause).mp = s.mp := rfl
@[simp] theorem State.retainPort_freeCount (p : Port) (st : PortState) (cause : Option ShedCause) : (s.retainPort p st cause).freeCount = s.freeCount := rfl
@[simp] theorem State.retainPort_pending (p : Port) (st : PortState) (cause : Option ShedCause) : (s.retainPort p st cause).pending = s.pending := rfl

/-! ### putSlot -/

@[simp] theorem State.putSlot_phase (k : FrameKind) (x : Slot) : (s.putSlot k x).phase = s.phase := rfl
@[simp] theorem State.putSlot_tb (k : FrameKind) (x : Slot) : (s.putSlot k x).tb = s.tb := rfl
@[simp] theorem State.putSlot_address (k : FrameKind) (x : Slot) : (s.putSlot k x).address = s.address := rfl
@[simp] theorem State.putSlot_tac (k : FrameKind) (x : Slot) : (s.putSlot k x).tac = s.tac := rfl
@[simp] theorem State.putSlot_ret (k : FrameKind) (x : Slot) : (s.putSlot k x).ret = s.ret := rfl
@[simp] theorem State.putSlot_mu (k : FrameKind) (x : Slot) : (s.putSlot k x).mu = s.mu := rfl
@[simp] theorem State.putSlot_pv (k : FrameKind) (x : Slot) : (s.putSlot k x).pv = s.pv := rfl
@[simp] theorem State.putSlot_be (k : FrameKind) (x : Slot) : (s.putSlot k x).be = s.be := rfl
@[simp] theorem State.putSlot_ds (k : FrameKind) (x : Slot) : (s.putSlot k x).ds = s.ds := rfl
@[simp] theorem State.putSlot_sc (k : FrameKind) (x : Slot) : (s.putSlot k x).sc = s.sc := rfl
@[simp] theorem State.putSlot_fl (k : FrameKind) (x : Slot) : (s.putSlot k x).fl = s.fl := rfl
@[simp] theorem State.putSlot_bsc (k : FrameKind) (x : Slot) : (s.putSlot k x).bsc = s.bsc := rfl
@[simp] theorem State.putSlot_cr (k : FrameKind) (x : Slot) : (s.putSlot k x).cr = s.cr := rfl
@[simp] theorem State.putSlot_mp (k : FrameKind) (x : Slot) : (s.putSlot k x).mp = s.mp := rfl
@[simp] theorem State.putSlot_freeCount (k : FrameKind) (x : Slot) : (s.putSlot k x).freeCount = s.freeCount := rfl
@[simp] theorem State.putSlot_pending (k : FrameKind) (x : Slot) : (s.putSlot k x).pending = s.pending := rfl

/-! ### putCounters -/

@[simp] theorem State.putCounters_phase (c : LinkCounters) : (s.putCounters c).phase = s.phase := rfl
@[simp] theorem State.putCounters_tb (c : LinkCounters) : (s.putCounters c).tb = s.tb := rfl
@[simp] theorem State.putCounters_address (c : LinkCounters) : (s.putCounters c).address = s.address := rfl
@[simp] theorem State.putCounters_tac (c : LinkCounters) : (s.putCounters c).tac = s.tac := rfl
@[simp] theorem State.putCounters_ret (c : LinkCounters) : (s.putCounters c).ret = s.ret := rfl
@[simp] theorem State.putCounters_mu (c : LinkCounters) : (s.putCounters c).mu = s.mu := rfl
@[simp] theorem State.putCounters_pv (c : LinkCounters) : (s.putCounters c).pv = s.pv := rfl
@[simp] theorem State.putCounters_be (c : LinkCounters) : (s.putCounters c).be = s.be := rfl
@[simp] theorem State.putCounters_ds (c : LinkCounters) : (s.putCounters c).ds = s.ds := rfl
@[simp] theorem State.putCounters_sc (c : LinkCounters) : (s.putCounters c).sc = s.sc := rfl
@[simp] theorem State.putCounters_fl (c : LinkCounters) : (s.putCounters c).fl = s.fl := rfl
@[simp] theorem State.putCounters_bsc (c : LinkCounters) : (s.putCounters c).bsc = s.bsc := rfl
@[simp] theorem State.putCounters_cr (c : LinkCounters) : (s.putCounters c).cr = s.cr := rfl
@[simp] theorem State.putCounters_mp (c : LinkCounters) : (s.putCounters c).mp = s.mp := rfl
@[simp] theorem State.putCounters_freeCount (c : LinkCounters) : (s.putCounters c).freeCount = s.freeCount := rfl
@[simp] theorem State.putCounters_pending (c : LinkCounters) : (s.putCounters c).pending = s.pending := rfl

/-! ### spoilSector -/

@[simp] theorem State.spoilSector_phase : (s.spoilSector).phase = s.phase := rfl
@[simp] theorem State.spoilSector_tb : (s.spoilSector).tb = s.tb := rfl
@[simp] theorem State.spoilSector_address : (s.spoilSector).address = s.address := rfl
@[simp] theorem State.spoilSector_tac : (s.spoilSector).tac = s.tac := rfl
@[simp] theorem State.spoilSector_ret : (s.spoilSector).ret = s.ret := rfl
@[simp] theorem State.spoilSector_mu : (s.spoilSector).mu = s.mu := rfl
@[simp] theorem State.spoilSector_ilc : (s.spoilSector).ilc = s.ilc := rfl
@[simp] theorem State.spoilSector_pv : (s.spoilSector).pv = s.pv := rfl
@[simp] theorem State.spoilSector_be : (s.spoilSector).be = s.be := rfl
@[simp] theorem State.spoilSector_ds : (s.spoilSector).ds = s.ds := rfl
@[simp] theorem State.spoilSector_sc : (s.spoilSector).sc = s.sc := rfl
@[simp] theorem State.spoilSector_fl : (s.spoilSector).fl = s.fl := rfl
@[simp] theorem State.spoilSector_bsc : (s.spoilSector).bsc = s.bsc := rfl
@[simp] theorem State.spoilSector_mp : (s.spoilSector).mp = s.mp := rfl
@[simp] theorem State.spoilSector_pending : (s.spoilSector).pending = s.pending := rfl

/-! ### What an update writes -/

@[simp] theorem State.stamp_tb (t : Tick) : (s.stamp t).tb = t := rfl
@[simp] theorem State.putSession_bsc (x : Session) : (s.putSession x).bsc = { s.bsc with session := x } := rfl
@[simp] theorem State.putDieselTimers_ds (t : DieselTimers) : (s.putDieselTimers t).ds = { s.ds with timers := t } := rfl
@[simp] theorem State.writePwm_tac (v : Int) : (s.writePwm v).tac = { s.tac with pwm := clamp (-1000) 1000 v } := rfl
@[simp] theorem State.writeCapCode_tac (c : Int) :
    (s.writeCapCode c).tac = { s.tac with capCode := (clamp 0 4095 c).toNat } := rfl
@[simp] theorem State.writeRun_ret (b : Bool) : (s.writeRun b).ret = { s.ret with run := b } := rfl
@[simp] theorem State.setAlarm_tac (c : AlarmCause) (b : Bool) :
    (s.setAlarm c b).tac = { s.tac with alarm := s.tac.alarm.put c b } := rfl
@[simp] theorem State.drivePermit_tac (b : Bool) : (s.drivePermit b).tac = { s.tac with permitPull := b } := rfl
@[simp] theorem State.setPermitEdges_tac (b : Bool) : (s.setPermitEdges b).tac = { s.tac with permitEdges := b } := rfl
@[simp] theorem State.writeLockout_ret (b : Bool) : (s.writeLockout b).ret = { s.ret with lockout := b } := rfl
@[simp] theorem State.retainPort_ret (p : Port) (st : PortState) (cause : Option ShedCause) :
    (s.retainPort p st cause).ret = { s.ret with ports := s.ret.ports.set p (some (st, cause)) } := rfl
@[simp] theorem State.putSlot_ilc (k : FrameKind) (x : Slot) :
    (s.putSlot k x).ilc = { s.ilc with slots := s.ilc.slots.set k x } := rfl
@[simp] theorem State.putCounters_ilc (c : LinkCounters) : (s.putCounters c).ilc = { s.ilc with counters := c } := rfl
@[simp] theorem State.modifyPort_fl (p : Port) (g : PortRecord → PortRecord) : (s.modifyPort p g).fl = s.fl.modify p g := rfl

/-! ### Read after write -/

variable {α : Type}

@[simp] theorem Quad.get_set_same (q : Quad α) (p : Port) (a : α) : (q.set p a).get p = a := by cases p <;> rfl

theorem Quad.get_set_other (q : Quad α) {p r : Port} (a : α) (h : r ≠ p) : (q.set p a).get r = q.get r := by
  cases p <;> cases r <;> first | rfl | exact absurd rfl h

@[simp] theorem Quad.get_all (a : α) (p : Port) : (Quad.all a).get p = a := by cases p <;> rfl

@[simp] theorem Quad.get_of (f : Port → α) (p : Port) : (Quad.of f).get p = f p := by cases p <;> rfl

@[simp] theorem State.pulse_putPulse_same (c : PulseChannel) (x : Pulse) : (s.putPulse c x).pulse c = x := by
  cases c <;> simp [State.putPulse, State.pulse]

theorem State.pulse_putPulse_other {c d : PulseChannel} (x : Pulse) (h : d ≠ c) : (s.putPulse c x).pulse d = s.pulse d := by
  cases c <;> cases d <;> simp_all [State.putPulse, State.pulse, Quad.get_set_other]

@[simp] theorem State.pulse_putWindow (b : Breaker) (w : Window) (c : PulseChannel) :
    (s.putWindow b w).pulse c = s.pulse c := by
  cases b <;> cases c <;> rfl

@[simp] theorem State.window_putPulse (c : PulseChannel) (x : Pulse) (b : Breaker) :
    (s.putPulse c x).window b = s.window b := by
  cases c <;> cases b <;> rfl

@[simp] theorem State.window_putWindow_same (b : Breaker) (w : Window) : (s.putWindow b w).window b = w := by
  cases b <;> simp [State.putWindow, State.window]

theorem State.window_putWindow_other {b d : Breaker} (w : Window) (h : d ≠ b) : (s.putWindow b w).window d = s.window d := by
  cases b <;> cases d <;> simp_all [State.putWindow, State.window, Quad.get_set_other]

@[simp] theorem AlarmSet.has_put_same (a : AlarmSet) (c : AlarmCause) (b : Bool) : (a.put c b).has c = b := by
  cases c <;> simp [AlarmSet.put, AlarmSet.has]

theorem AlarmSet.has_put_other (a : AlarmSet) {c d : AlarmCause} (b : Bool) (h : d ≠ c) : (a.put c b).has d = a.has d := by
  cases c <;> cases d <;> simp_all [AlarmSet.put, AlarmSet.has, Quad.get_set_other]

@[simp] theorem Slots.get_set_same (q : Slots) (k : FrameKind) (x : Slot) : (q.set k x).get k = x := by cases k <;> rfl

theorem Slots.get_set_other (q : Slots) {k j : FrameKind} (x : Slot) (h : j ≠ k) : (q.set k x).get j = q.get j := by
  cases k <;> cases j <;> first | rfl | exact absurd rfl h

/-! ### Timers -/

/-- A command at a timer's expiry runs on the state whose timer is STOPPED and whose time base stands at the instant. -/
theorem atExpiry_due {id : TimerId} {t : Tick} {s : State} (f : State → State) (h : (s.timer id).expiry = some t) :
    atExpiry id f s = f ((s.stamp t).cancel id) := by
  simp [atExpiry, State.expire, h]

/-- A timer that does not expire makes its command leave the state as it is. -/
theorem atExpiry_idle {id : TimerId} {s : State} (f : State → State) (h : (s.timer id).expiry = none) :
    atExpiry id f s = s := by
  simp [atExpiry, State.expire, h]

/-- A timer's expiry as a command, where the timer is due. -/
theorem onExpiry_due {id : TimerId} {t : Tick} {s : State} (f : State → State) (h : s.runs = true)
    (ht : (s.timer id).expiry = some t) : onExpiry id f s = .next (f ((s.stamp t).cancel id)) := by
  simp [onExpiry, whileRunning, h, atExpiry_due f ht]

/-- A command taken while the station runs. -/
theorem whileRunning_runs {s : State} (f : State → State) (h : s.runs = true) : whileRunning f s = .next (f s) := by
  simp [whileRunning, h]

/-- A command while a reset holds the station leaves the state as it is. -/
theorem whileRunning_held {s : State} (f : State → State) (h : s.runs = false) : whileRunning f s = .next s := by
  simp [whileRunning, h]

/-- The step with a command in front of the queue. -/
theorem step_cons {s : State} {c : Instr} {rest : List Instr} (h : s.pending = c :: rest) :
    step s = exec c { s with pending := rest } := by
  simp [step, h]

/-- The step on an empty queue. -/
theorem step_nil {s : State} (h : s.pending = []) : step s = .next s.tick := by simp [step, h]

end Sys2Proof.Machine
end

