-- ==== Sys2Proof/Laws/Ops.lean ====
section
/-! SUPPORT. What each shared operation of Machine/Arith.lean and Machine/Ops.lean can do, said once, so that later proofs cite it
instead of unfolding the operation. -/

namespace Sys2Proof.Machine

/-! ### Arithmetic -/

/-- A clamped value lies between its bounds. -/
theorem clamp_bounds {lo hi : Int} (a : Int) (h : lo ≤ hi) : lo ≤ clamp lo hi a ∧ clamp lo hi a ≤ hi := by
  unfold clamp; split <;> [omega; split <;> omega]

/-- A value inside the bounds is left as it is. -/
theorem clamp_inside {lo hi a : Int} (h : lo ≤ a) (h' : a ≤ hi) : clamp lo hi a = a := by
  unfold clamp; split <;> [omega; split <;> omega]

/-- A value clamped to a field of two bytes fits it. -/
theorem clamp16_le (a : Int) : clamp16 a ≤ 65535 := by
  have := clamp_bounds (lo := 0) (hi := 65535) a (by decide)
  unfold clamp16; omega

/-- The natural number in a clamped field is the clamped value. -/
theorem clamp16_cast (a : Int) : (clamp16 a : Int) = clamp 0 65535 a := by
  have := clamp_bounds (lo := 0) (hi := 65535) a (by decide)
  unfold clamp16; omega

/-- A counter that stands still at 65,535 never passes it. -/
theorem saturate_le {n : Nat} (h : n ≤ 65535) : saturate n ≤ 65535 := by unfold saturate; split <;> omega

/-- `k` bytes are `k` bytes. -/
@[simp] theorem bytesBE_length (k n : Nat) : (bytesBE k n).length = k := by
  induction k generalizing n <;> simp_all [bytesBE]

/-- The CRC as characters has two. -/
@[simp] theorem crcBytes_length (l : List Byte) : (crcBytes l).length = 2 := bytesBE_length 2 _

/-- A sector left broken has its 256 bytes. -/
theorem brokenSector_length (n : Nat) : (brokenSector n).length = 256 := by
  unfold brokenSector
  dsimp only
  split <;> simp

/-- A member of a list with one inserted is that one or a member of the list. -/
theorem mem_insertBy {α : Type} (before : α → α → Bool) (a x : α) (l : List α) :
    x ∈ insertBy before a l ↔ x = a ∨ x ∈ l := by
  induction l with
  | nil => simp [insertBy]
  | cons b l ih =>
    unfold insertBy
    split <;> simp_all
    tauto

/-- Ordering a list keeps its members. -/
theorem mem_sortBy {α : Type} (before : α → α → Bool) (x : α) (l : List α) : x ∈ sortBy before l ↔ x ∈ l := by
  induction l <;> simp_all [sortBy, mem_insertBy]

/-! ### Timers -/

/-- The expiry instant of a timer that is due, and its duration. -/
theorem Timer.expiry_eq_some {x : Timer} {t : Tick} (h : x.expiry = some t) :
    ∃ start d, x = .running start d ∧ d ≤ segmentTicks ∧ t = after start d := by
  cases x with
  | stopped => simp [Timer.expiry] at h
  | running start d =>
    simp only [Timer.expiry] at h
    split at h
    · exact ⟨start, d, rfl, ‹_›, by simpa using h.symm⟩
    · cases h

/-- A segment completes only with more than one to run, and takes exactly one from the duration. -/
theorem Timer.segment_eq_some {x y : Timer} {t : Tick} (h : x.segment = some (t, y)) :
    ∃ start d, x = .running start d ∧ segmentTicks < d ∧ t = after start segmentTicks ∧ y = .running t (d - segmentTicks) := by
  cases x with
  | stopped => simp [Timer.segment] at h
  | running start d =>
    simp only [Timer.segment] at h
    split at h
    · simp only [Option.some.injEq, Prod.mk.injEq] at h
      obtain ⟨rfl, rfl⟩ := h
      exact ⟨start, d, rfl, ‹_›, rfl, rfl⟩
    · cases h

/-- An expiry stops the timer and sets the time base to its instant. -/
theorem State.expire_eq_some {s u : State} {id : TimerId} (h : s.expire id = some u) :
    ∃ t, (s.timer id).expiry = some t ∧ u = (s.stamp t).cancel id := by
  simp only [State.expire, Option.map_eq_some_iff] at h
  obtain ⟨t, ht, rfl⟩ := h
  exact ⟨t, ht, rfl⟩

/-! ### Pulse requests -/

/-- A confirmation window reports at once, or waits for the breaker's input. -/
theorem State.openWindow_cases (s : State) (b : Breaker) (r : Requester) (closed : Bool) :
    (s.level (positionInput b) = (if closed then .asserted else .released) ∧
      s.openWindow b r closed = (true, s.putWindow b .closedOut)) ∨
    (s.level (positionInput b) ≠ (if closed then .asserted else .released) ∧
      s.openWindow b r closed = (false, s.putWindow b (.watching r closed (.running s.tb (ms s.par.diesel.confirmTime))))) := by
  by_cases h : s.level (positionInput b) = (if closed then .asserted else .released)
  · exact .inl ⟨h, by simp [State.openWindow, h]⟩
  · exact .inr ⟨h, by simp [State.openWindow, h]⟩

/-- A close request is refused under LOCAL, ignored while the close is active, refused while the trip is, and else begins the pulse and
opens the window. -/
theorem State.requestClose_cases (s : State) (b : Breaker) (r : Requester) (w : Nat) (confirm : Bool) :
    (s.localRefuses b = true ∧ s.requestClose b r w confirm = (⟨.refused, false, false⟩, s)) ∨
    (s.localRefuses b = false ∧ (s.pulse (closeChannel b)).isActive = true ∧
      s.requestClose b r w confirm = (⟨.ignored, false, false⟩, s)) ∨
    (s.localRefuses b = false ∧ (s.pulse (closeChannel b)).isActive = false ∧ (s.pulse (tripChannel b)).isActive = true ∧
      s.requestClose b r w confirm = (⟨.refused, false, false⟩, s)) ∨
    (s.localRefuses b = false ∧ (s.pulse (closeChannel b)).isActive = false ∧ (s.pulse (tripChannel b)).isActive = false ∧
      s.requestClose b r w confirm =
        let x := (s.beginPulse (closeChannel b) r w).openWindowIf confirm b r true
        (⟨.started, false, x.1⟩, x.2)) := by
  unfold State.requestClose
  cases s.localRefuses b <;> cases (s.pulse (closeChannel b)).isActive <;> cases (s.pulse (tripChannel b)).isActive <;> simp

/-- A trip request is refused under LOCAL, ignored while the trip is active, and else cuts an active close, begins the pulse and opens
the window. -/
theorem State.requestTrip_cases (s : State) (b : Breaker) (r : Requester) (w : Nat) (confirm : Bool) :
    (s.localRefuses b = true ∧ s.requestTrip b r w confirm = (⟨.refused, false, false⟩, s)) ∨
    (s.localRefuses b = false ∧ (s.pulse (tripChannel b)).isActive = true ∧
      s.requestTrip b r w confirm = (⟨.ignored, false, false⟩, s)) ∨
    (s.localRefuses b = false ∧ (s.pulse (tripChannel b)).isActive = false ∧
      s.requestTrip b r w confirm =
        let cut := (s.pulse (closeChannel b)).isActive
        let x := ((if cut then s.cutCloseForTrip b else s).beginPulse (tripChannel b) r w).openWindowIf confirm b r false
        (⟨.started, cut, x.1⟩, x.2)) := by
  unfold State.requestTrip
  cases s.localRefuses b <;> cases (s.pulse (tripChannel b)).isActive <;> simp

/-- A trip's cut leaves the close channel IDLE, and the window closed where it waited for the close. -/
theorem State.cutCloseForTrip_cases (s : State) (b : Breaker) :
    (∃ r x, s.window b = .watching r true x ∧ s.cutCloseForTrip b = (s.putPulse (closeChannel b) .idle).putWindow b .closedOut) ∨
    ((∀ r x, s.window b ≠ .watching r true x) ∧ s.cutCloseForTrip b = s.putPulse (closeChannel b) .idle) := by
  unfold State.cutCloseForTrip
  simp only [State.window_putPulse]
  cases h : s.window b with
  | closedOut => exact .inr ⟨by simp, rfl⟩
  | watching r closed x => cases closed <;> simp

/-- A crank request begins the pulse on an IDLE channel and does nothing on an active one. -/
theorem State.requestCrank_cases (s : State) (w : Nat) :
    ((s.pulse .crank).isActive = true ∧ s.requestCrank w = s) ∨
    ((s.pulse .crank).isActive = false ∧ s.requestCrank w = s.beginPulse .crank .ds w) := by
  unfold State.requestCrank
  cases (s.pulse .crank).isActive <;> simp

/-! ### The transmit queue and the generator -/

/-- A frame waits in its kind's slot where the transmitter is enabled, and is discarded where it is DISABLED. -/
theorem State.placeFrame_cases (s : State) (k : FrameKind) (payload : List Byte) :
    (s.ilc.transmitter.enabled = true ∧
      s.placeFrame k payload = s.putSlot k { s.ilc.slots.get k with frame := some payload }) ∨
    (s.ilc.transmitter.enabled = false ∧ s.placeFrame k payload = s) := by
  unfold State.placeFrame
  cases s.ilc.transmitter.enabled <;> simp

/-- A draw moves the generator on and gives its value. -/
theorem State.draw_some {s : State} {x : BitVec 16} (h : s.ilc.random = some x) :
    s.draw = ((lfsrDraw x).toNat, { s with ilc := { s.ilc with random := some (lfsrDraw x) } }) := by
  simp [State.draw, h]

/-! ### The lines -/

/-- Within a reset the time base stands, and otherwise it is set to the instant. -/
theorem State.stampRunning_cases (s : State) (t : Tick) :
    (s.runs = true ∧ s.stampRunning t = s.stamp t) ∨ (s.runs = false ∧ s.stampRunning t = s) := by
  cases h : s.runs <;> simp [State.stampRunning, h]

/-- The others' drive of PERMIT changes the pin, and the time base while the station runs. -/
theorem State.othersDrive_eq (s : State) (t : Tick) (pulled : Bool) :
    s.othersDrive t pulled = { s.stampRunning t with tac := { s.tac with permitOthers := pulled } } := by
  simp [State.othersDrive]

/-- A rise is a capture from a low output, or from one that fell with the wave, onto a wave that rises through the upper level. -/
theorem State.capturedFrom_iff (s : State) (high : Bool) (x : Swing) :
    s.capturedFrom high x = true ↔
      (high = false ∨ fallsThrough x s.crossingV = true) ∧ risesThrough x s.crossingV = true := by
  simp [State.capturedFrom, State.afterFall]

/-- The bits of a character, sampled, form that character without a framing error. -/
theorem linkChar_charBits (c : Byte) : linkChar (charBits c) = some ⟨c, false⟩ := by
  revert c; decide

/-- The character driven at an instant of an attempt is the one whose 400 ticks the instant lies in, and ends with them. -/
theorem drivenChar_eq_some {sent : List Byte} {start now t : Tick} {c : Byte} (h : drivenChar sent start now = some (c, t)) :
    ∃ i, i = elapsed now start / 400 ∧ sent[i]? = some c ∧ t = after start (400 * (i + 1)) := by
  simp only [drivenChar, Option.map_eq_some_iff, Prod.mk.injEq] at h
  obtain ⟨a, ha, rfl, rfl⟩ := h
  exact ⟨_, rfl, ha, rfl⟩

/-! ### The view -/

/-- The view holds the FRESH entries, and none under an address conflict. -/
theorem State.mem_view {s : State} {e : Entry} : e ∈ s.view ↔ s.pv.conflict = false ∧ e ∈ s.pv.table ∧ e.fresh = true := by
  unfold State.view
  cases s.pv.conflict <;> simp

/-- The entry of an address is one of the table's, and bears the address. -/
theorem Pv.entry_mem {v : Pv} {a : Nat} {e : Entry} (h : v.entry a = some e) : e ∈ v.table ∧ e.address = a := by
  unfold Pv.entry at h
  exact ⟨List.mem_of_find?_eq_some h, by simpa using List.find?_some h⟩

/-! ### The maintenance port -/

/-- All that the close of a request can do: it is discarded, judged at once, kept waiting, or finds the buffer occupied. -/
theorem mpRequest_cases (t : Tick) (r : Request) (s : State) :
    (s.mp.discarding = true ∧ mpRequest t r s = { s with tb := t, mp := { s.mp with discarding := false } }) ∨
    (s.mp.discarding = false ∧ s.mp.response = none ∧ mpRequest t r s = mpJudge r { s with tb := t }) ∨
    (s.mp.discarding = false ∧ s.mp.response ≠ none ∧ s.mp.waiting = none ∧
      mpRequest t r s = { s with tb := t, mp := { s.mp with waiting := some r } }) ∨
    (s.mp.discarding = false ∧ s.mp.response ≠ none ∧ s.mp.waiting ≠ none ∧ mpRequest t r s = { s with tb := t }) := by
  cases hd : s.mp.discarding <;> cases hr : s.mp.response <;> cases hw : s.mp.waiting <;>
    simp [mpRequest, State.stamp, hd, hr, hw]

/-- All that the end of a response can do: nothing without one, a reset after a RESTART, a request judged, or a free port. -/
theorem mpSent_cases (more : Bool) (s : State) :
    (s.mp.response = none ∧ mpSent more s = s) ∨
    (s.mp.response ≠ none ∧ s.mp.restartAfter = true ∧ mpSent more s = stationReset .heldByRestart s) ∨
    (s.mp.response ≠ none ∧ s.mp.restartAfter = false ∧ s.mp.waiting = none ∧
      mpSent more s = { s with mp := { s.mp with response := none } }) ∨
    ∃ r, s.mp.response ≠ none ∧ s.mp.restartAfter = false ∧ s.mp.waiting = some r ∧
      mpSent more s = mpJudge r { s with mp := { s.mp with response := none, waiting := none, discarding := more } } := by
  cases hr : s.mp.response <;> cases hb : s.mp.restartAfter <;> cases hw : s.mp.waiting <;> simp [mpSent, hr, hb, hw]

end Sys2Proof.Machine
end

