-- ==== Sys2Proof/Tests/Slice0.lean ====
section
/-! SUPPORT. Tests: an ill-formed term for each check of WellFormed, the spec's own worked examples, and for each statement with
hypotheses a witness that meets them. -/

-- One test at a time: tests that wait for the kernel side by side would each hold a thread.
set_option Elab.async false

namespace Sys2Proof.Tests

open Sys2Proof Sys2Proof.Machine

/-! ### Well-formed commands -/

theorem test_wf_stale_address_zero : (Instr.staleTimerExpiry 0).wf = false := by decide
theorem test_wf_removal_address_33 : (Instr.removalTimerExpiry 33).wf = false := by decide
theorem test_wf_segment_of_no_peer : (Instr.timerSegmentComplete (.stale 33)).wf = false := by decide
theorem test_wf_segment_of_no_removal : (Instr.timerSegmentComplete (.removal 0)).wf = false := by decide
theorem test_wf_write_short_payload : (Instr.writeConfig 0 0 2 [7]).wf = false := by decide
theorem test_wf_write_overlong_payload : (Instr.writeConfig 0 0 39 (List.replicate 39 7)).wf = false := by decide
theorem test_wf_swing_upside_down : (Instr.c0Capture ⟨0, ⟨1, 0⟩⟩).wf = false ∧ (Instr.c1Capture ⟨0, ⟨1, 0⟩⟩).wf = false := by decide
theorem test_wf_peer_32 : (Instr.staleTimerExpiry 32).wf = true := by decide
theorem test_wf_write_38 : (Instr.writeConfig 0 0 38 (List.replicate 38 7)).wf = true := by decide

/-- The table gives no row any bits. -/
theorem test_no_word_decodes : decodeTableWord 0 0 = none ∧ State.reset.withFetchWord 32 5 = State.reset := by decide +kernel

/-! ### The spec's worked examples of single rules -/

/-- R2's two examples. -/
theorem test_calibrated_examples : calibrated ⟨5, 100⟩ 3000 = 970 ∧ calibrated ⟨-64, 255⟩ 4095 = 2047 := by decide

/-- A half rounds away from zero (00_scope.md, Conventions). -/
theorem test_round_half : roundDiv 5 2 = 3 ∧ roundDiv (-5) 2 = -3 := by decide

/-- R40: the CRC over the nine characters "123456789". -/
theorem test_crc_check_value : crc16 [0x31, 0x32, 0x33, 0x34, 0x35, 0x36, 0x37, 0x38, 0x39] = 0x29B1 := by decide +kernel

/-- Chapter 01, the frequency window: before and after the fifth period, and at the fourth capture after the spurious crossing. -/
theorem test_window_case :
    windowFrequency [204082, 204100, 204050, 204090] = some 49000 ∧
      windowFrequency (windowAfter [204082, 204100, 204050, 204090] (some 204200)) = some 48993 ∧
      cycleFrequency 204200 = 48972 ∧ windowAfter [204100, 204050, 204090, 204200] (some 95000) = [] ∧
      windowFrequency (windowAfter [204130, 204110, 204120] (some 204100)) = some 48992 := by decide +kernel

/-- Chapter 01, a synchronising record: a lead and a lag of 4.5 degrees. -/
theorem test_sync_case :
    syncRecord 2500 0 200000 50000 50120 80 = ⟨120, 45, 80⟩ ∧ syncRecord 197500 0 200000 50000 50120 80 = ⟨120, -45, -10⟩ := by
  decide +kernel

/-- R133's example: 544 kW of 800 kW with the offset +4. -/
theorem test_cap_code_example : clamp 0 4095 (roundDiv (544 * 4095) 800 + 4) = 2789 := by decide

/-- R129's example: f = 51,000 mHz at a station of 800 kW with the deadband 200 mHz and the slope 40 %/Hz. -/
theorem test_fw_cap_example : fwCap (some 51000) 50000 ⟨200, 40, 10, 0, 0, 1⟩ 800 = 544 := by decide

/-- R130's examples: a ramp below 1 kW a period is raised to 1. -/
theorem test_ramp_step_example : rampStep 600 10 100 = 1 ∧ rampStep 500 10 100 = 1 := by decide

/-- R37: the ten bits of a character, as they are driven and as they are sampled, are that character. -/
theorem test_char_bits :
    (List.range 10).map (charLevel 0xC5) = [false, true, false, true, false, false, false, true, true, true] ∧
      linkChar (charBits 0xC5) = some ⟨0xC5, false⟩ := by decide

/-! ### The test station -/

/-- A swing through both levels of a crossing comparator at any nominal voltage of a test, the peak of 400 V RMS. -/
def full : Swing := ⟨-565685, 565685⟩

/-- The next state of a command, or the state itself where it answers none. -/
def next (c : Instr) (s : State) : State :=
  match exec c s with
  | .next u => u
  | _ => s

/-- A GENSET station of 500 kW with two feeder ports. -/
def par : Params where
  station := ⟨.genset, 50, 3, 400, 1000, 1000, 1000, 800, 500, 4, 2, 2, 5, 10⟩
  balance := ⟨200, 60, 50, 30, 100⟩
  diesel := ⟨5, 50, 10, 60, 500, 10, 6, 10, 3, 10, 200, 100, 5, 8, 60, 80, 200, 200, 20, 50, 40, 60, 120⟩
  solar := ⟨200, 40, 10, 240, -3, 40⟩
  port := ⟨⟨5, 1, false, 150, 200⟩, ⟨3, 2, true, 150, 200⟩, ⟨7, 0, false, 150, 200⟩, ⟨8, 0, false, 150, 200⟩⟩
  stage := ⟨⟨1000, 1, 200⟩, ⟨1500, 3, 200⟩, ⟨2000, 2, 200⟩, ⟨2500, 1, 200⟩⟩
  restore := ⟨500, 10, 15, 3, 5, 30, 30, 10⟩
  black := ⟨3, 12, 2000, 100, 1000, 15⟩

/-- A port in a state, with nothing pending. -/
def port (st : PortState) : PortRecord :=
  ⟨st, none, if st = .shed then some .deficit else none, 0, 50, false, false, none, false, .stopped⟩

/-- A timer that expires at 5. -/
def soon : Timer := .running 0 5

/-- The test station in operation on a live island: F1 CLOSED, F2 SHED, the set in STANDBY. -/
def base : State :=
  { State.reset with
    mu := { Mu.reset with started := true, synthetic := soon, srcTimeout := soon }
    ilc := { Ilc.reset with
      started := true, transmitter := .ready, receiver := .waiting, idleSince := some 0, status := soon, random := some 1 }
    be := { Be.reset with timer := soon }
    ds := { Ds.reset with state := some .standby }
    fl := { Fl.reset with ports := ⟨some (port .closed), some (port .shed), none, none⟩ }
    bsc := { Bsc.reset with island := some .live, reconstructed := true }
    cr := { State.reset.cr with params := some par, loaded := true, integrity := soon, mode := .coordinated } }

/-- The test station with the set in a state and its timers as given. -/
def diesel (st : DieselState) (timers : DieselTimers) : State := { base with ds := { base.ds with state := some st, timers } }

/-- The test station with an input qualified at a level. -/
def qualified (i : InputLine) (level : InputLevel) (s : State) : State :=
  { s with tac := { s.tac with inputs := s.tac.inputs.set i ⟨level, none, 0, false⟩ } }

/-- The test station with an input due to be qualified at a sample. -/
def sampled (i : InputLine) (x : Bool) (s : State) : State :=
  { s with tac := { s.tac with inputs := s.tac.inputs.set i { s.tac.inputs.get i with sample := some x, due := true } } }

/-- A pulse in hand that ends at 5. -/
def pulsing (c : PulseChannel) (s : State) : State := s.putPulse c (.active .ds soon)

/-- A FRESH peer in a role and summary. -/
def peer (a : Nat) (role : Role) (summary : Summary) (rating output minOrAvail startRank : Nat) (feeders : List FeederRecord) : Entry where
  address := a
  role := role
  summary := summary
  service := false
  noFreshPeers := false
  unavailable := false
  island := .live
  interval := 4
  rating := rating
  output := output
  minOrAvail := minOrAvail
  startRank := startRank
  intent := none
  feeders := feeders
  receipt := 0
  fresh := true
  staleTimer := soon
  removalTimer := soon

/-- The test station with a peer table. -/
def seeing (l : List Entry) (s : State) : State := { s with pv := { s.pv with table := l } }

/-- A GENSET peer ONLINE at address 7. -/
def peer7 : Entry := peer 7 .genset .online 800 400 240 2 [⟨1, .closed, 9, 80⟩]

/-! ### The spec's worked sequences, one step each -/

/-- Chapter 05's worked case: the solar station 2 at the expiry at 0. -/
def solar2 : State :=
  seeing
    [peer 1 .genset .online 800 420 240 1 [], peer 3 .genset .online 800 400 240 2 [], peer 5 .genset .idle 600 0 180 3 [],
      peer 7 .solar .online 400 200 300 0 [⟨1, .closed, 9, 80⟩, ⟨2, .closed, 3, 35⟩]]
    { base with
      address := 2
      ds := .reset
      sc := { Sc.reset with state := some .online, lastCap := 481 }
      mu := { base.mu with sums := ⟨2, 600, .all 0, 1000⟩ }
      fl := { Fl.reset with ports := ⟨some (port .closed), none, none, none⟩ }
      cr := { base.cr with params := some { par with station := { par.station with role := .solar, rating := 600, feederCount := 1 } } } }

/-- Its figures at that expiry. -/
def figures2 : Figures := (next .balancePeriodExpiry solar2).be.figures

/-- The sums, the reserve and the requirement, and the allowance and the own share. -/
theorem test_balance_case :
    ([figures2.ownOutput, figures2.ownAvailable, figures2.cOn, figures2.pGen, figures2.mMin, figures2.cPend, figures2.pPv,
        figures2.aPv] = [300, 500, 1600, 820, 480, 0, 500, 800] ∧
      [figures2.load, figures2.requirement, figures2.shedDemand] = [1320, 300, 0]) ∧
      [figures2.reserve, figures2.headroom, figures2.allowance, figures2.ownShare] = [780, 480, 790, 493] ∧
      [figures2.startNeed, figures2.stopPossible, figures2.overload] = [false, false, false] ∧ figures2.candidate = none := by
  decide +kernel

/-- The cap chain on them: the new cap and its code. -/
theorem test_cap_case :
    ((next .balancePeriodExpiry solar2).sc.finalCap, (next .balancePeriodExpiry solar2).sc.code) = (482, 3287) := by
  decide +kernel

/-- Chapter 02, a trip overtakes a feeder close at 40 ms: the close is cut, and the trip ends at 240 ms. -/
def overtaken : PulseReply × State :=
  State.requestTrip { ((qualified (.feederCb .f2) .released base).requestClose (.feeder .f2) .fl 200 true).2 with tb := 400000 }
    (.feeder .f2) .fl 200 true

theorem test_trip_overtakes_close :
    overtaken.1 = ⟨.started, true, true⟩ ∧ overtaken.2.pulse (.feederClose .f2) = .idle ∧
      (overtaken.2.timer (.pulse (.feederTrip .f2))).expiry = some 2400000 ∧ overtaken.2.window (.feeder .f2) = .closedOut := by
  decide +kernel

/-- Chapter 01's window case as one capture: the period of 204,200 gives f = 48,993. -/
theorem test_capture_closes_cycle :
    (next (.c0Capture ⟨204200, full⟩)
        { base with mu := { base.mu with capRef := some 0, window := [204082, 204100, 204050, 204090] } }).mu.latest.map
      (fun r => (r.f, r.fCycle)) = some (some 48993, some 48972) := by decide +kernel

/-- Chapter 08, deficit shedding at station A: R′ = −100 and D = 130, so F1 is tripped to DEFICIT and F2 stays. -/
def stationA : State :=
  seeing
    [peer 1 .genset .online 1000 600 0 1 [], peer 2 .genset .online 600 500 0 2 [],
      peer 11 .noSource .absent 0 0 0 0 [⟨1, .closed, 4, 90⟩, ⟨2, .closed, 8, 150⟩],
      peer 12 .noSource .absent 0 0 0 0 [⟨1, .closed, 1, 40⟩, ⟨3, .closed, 5, 100⟩]]
    { base with
      address := 10
      ds := .reset
      be := ⟨soon, { Figures.reset with cOn := 1600, pGen := 1100, reserve := 500 }⟩
      fl := { Fl.reset with ports := ⟨some { port .closed with load := 70 }, some { port .closed with load := 120 }, none, none⟩ }
      ilc := { base.ilc with receiver := .collecting (cleanBurst (frameChars 2 .loss (lossPayload .genset 500 600))) false }
      cr := { base.cr with params := some { par with
        station := { par.station with role := .noSource }
        port := ⟨{ par.port.f1 with shedRank := 2 }, { par.port.f2 with shedRank := 6 }, par.port.f3, par.port.f4⟩ } } }

theorem test_loss_sheds_prefix :
    (next .burstClose stationA).portState .f1 = some .opening ∧
      ((next .burstClose stationA).port .f1).bind (·.destination) = some (.shed .deficit) ∧
      (next .burstClose stationA).portState .f2 = some .closed := by decide +kernel

/-- Chapter 09, the black start: the own words of G1 and G2. -/
theorem test_own_words : arbitrationWord 1 2 = 1 ∧ arbitrationWord 2 4 = 35 := by decide

/-- Chapter 03, two STATUS frames collide: the lengths of the frames of two ports and of none. -/
theorem test_status_lengths :
    (frameChars 5 .status (statusPayload base.ownStatus)).length = 27 ∧
      (frameChars 9 .status (statusPayload { base.ownStatus with feeders := [] })).length = 19 := by decide +kernel

/-! ### Witnesses: queue, resets, timers, samples -/

/-- A state in which a capture on V_BUS is a boundary, and so is the synthetic timeout, at 5. -/
def cycling (s : State) : Bool := s.runs && s.mu.started && s.busCapture full && s.mu.synthetic.expiry == some 5

theorem cycling_closes {s : State} (h : cycling s = true) (t : Tick) :
    s.closesCycle (.c0Capture ⟨t, full⟩) t ∧ s.closesCycle .syntheticTimeoutExpiry 5 := by
  simp only [cycling, Bool.and_eq_true, beq_iff_eq] at h
  exact ⟨⟨h.1.1.1, h.1.1.2, .inl ⟨full, rfl, h.1.2⟩⟩, h.1.1.1, h.1.1.2, .inr ⟨rfl, h.2⟩⟩

/-- An input that is due at a level while the station runs. -/
def dueAt (s : State) (i : InputLine) (x : Bool) : Bool :=
  s.runs && (s.tac.inputs.get i).due && (s.tac.inputs.get i).sample == some x

theorem dueAt_qualifies {s : State} {i : InputLine} {x : Bool} (h : dueAt s i x = true) : s.qualifies i x := by
  simpa [dueAt, State.qualifies, and_assoc] using h

/-- The test station with a timer that expires at 5. -/
def timed (id : TimerId) (s : State) : State := s.putTimer id soon

/-- The test station with a cycle of `n` scans of RMS `v` on the bus and on the source. -/
def measured (n v : Nat) (s : State) : State :=
  { s with mu := { s.mu with cycle := { Cycle.empty with n, vBus2 := n * v * v, vSrc2 := n * v * v } } }

theorem witness_StepTakesFrontCommand :
    { base with pending := [.readFigures 7, .burstClose] }.pending = .readFigures 7 :: [.burstClose] := rfl

theorem witness_IdleAndImpossibleLeaveState :
    (base.pending = [] ∧ base.phase = .running) ∧ { base with phase := .heldByLine }.phase ≠ .running ∧
      actsInReset .burstClose = false ∧ actsInReset (.permitRisingEdge 5) = true ∧ expiryOf .guardTimerExpiry = some .guard ∧ (base.timer .guard).expiry = none := by
  decide +kernel

theorem witness_EveryCommandAnswersNext (straps : BitVec 5) :
    Instr.burstClose ≠ .powerOnReset straps ∧ Instr.burstClose ≠ .resetRelease straps ∧
      Instr.burstClose ≠ .restartResetEnd straps := by
  simp

theorem witness_ResetsLeaveResetState :
    base.phase ≠ .heldByLine ∧ { base with phase := .heldByLine }.phase = .heldByLine ∧
      { base with phase := .heldByRestart }.phase = .heldByRestart ∧ base.phase ≠ .heldByRestart := by
  decide +kernel

theorem witness_TimersRunInSegments :
    base.phase = .running ∧
      (base.putTimer .restoreQual (.running 7 1000000001)).timer .restoreQual = .running 7 1000000001 ∧
      (base.putTimer .restoreQual (.running 7 1000000000)).timer .restoreQual = .running 7 1000000000 ∧
      ((timed .restoreQual base).due .restoreQual 5 ∧ (timed .stepSpacing base).due .stepSpacing 5 ∧
        (timed (.ripeness .f1) base).due (.ripeness .f1) 5 ∧ (timed .loss base).due .loss 5 ∧
        (timed .holdoff base).due .holdoff 5) ∧
      ((timed (.ripeness .f1) base).port .f1).isSome = true := by
  unfold State.due
  decide +kernel

theorem witness_SamplesAreRounded :
    (0 : Nat) < 4096 ∧ (0 : Int) ≤ 64 * 2048 ^ 2 ∧ (64 * 2048 ^ 2 : Int) ≤ 64 * 2048 ^ 2 ∧ rmsVolts (64 * 2048 ^ 2) 64 65535 = 65535 ∧
      rmsVolts (64 * 400 ^ 2) 64 1000 = 400 ∧ rmsVolts 0 64 1000 = 0 := by
  decide +kernel

theorem witness_ScanAccumulates :
    base.phase = .running ∧ base.mu.started = true ∧ State.reset.phase = .running ∧ State.reset.mu.started = false := by
  decide +kernel

theorem witness_BoundaryClosesCycle :
    (base.phase = .running ∧ base.mu.window.length ≤ 4 ∧ base.mu.started = true ∧ base.mu.synthetic.expiry = some 5 ∧
        base.busCapture full = true ∧ State.reset.busCapture full = true) ∧
      (measured 31 400 base).mu.cycle.n < 32 ∧ 32 ≤ (measured 32 400 base).mu.cycle.n ∧ State.reset.mu.started = false := by
  decide +kernel

/-- The bus RMS values on both sides of the dead and the live level, 87.5 V and 312.5 V at 400 V. -/
theorem witness_ConditionsFollowTable :
    (cycling (measured 31 400 base) = true ∧ cycling (measured 32 400 base) = true ∧ base.par.black.deadLevel < base.par.black.liveLevel) ∧
      [87, 88, 312, 313].map (fun v => ((next (.c0Capture ⟨9, full⟩) (measured 32 v base)).mu.latest.bind (·.busRms))) =
        [some 87, some 88, some 312, some 313] ∧
      (next .syntheticTimeoutExpiry (measured 32 87 base)).mu.latest.map (fun r => (r.busRms, r.endTime)) = some (some 87, 5) ∧
      (measured 31 400 base).mu.cycle.n < 32 ∧
      exec (.powerOnReset 4) base = .next (next (.powerOnReset 4) base) ∧
      exec (.stationReset 9) base = .next (next (.stationReset 9) base) := by
  refine ⟨by decide +kernel, by decide +kernel, by decide +kernel, by decide +kernel, rfl, rfl⟩

/-- 1 % of the peak of 400 V RMS is 5656.9 mV: on both sides of it, from either output, before the load and after. -/
theorem witness_SourceCapturesFormWindow :
    (base.phase = .running ∧ base.mu.started = true ∧ base.mu.srcWindow.length ≤ 4 ∧ base.mu.srcTimeout.expiry = some 5 ∧
        base.sourceCapture full = true) ∧
      (State.reset.phase = .running ∧ State.reset.mu.started = false ∧ State.reset.sourceCapture full = true) ∧
      [base, State.reset, { base with tac := { base.tac with c0High := true } }].map (fun s =>
          [(⟨-5657, 5657⟩ : Swing), ⟨-5656, 5657⟩, ⟨-5657, 5656⟩, ⟨-5656, 5656⟩].map s.busCapture) =
        [[true, true, false, false], [true, true, false, false], [true, false, false, false]] := by
  decide +kernel

/-- The test station at the capture of chapter 01's synchronising case. -/
def syncing : State :=
  { base with mu := { base.mu with
      capRef := some 0, window := [200000, 200000, 200000, 200000], srcWindow := [199521, 199521, 199521, 199521]
      lastSrc := some 197500 } }

theorem witness_PredictedPhaseAdvances :
    (cycling syncing = true ∧ syncing.windowsOk ∧ syncing.par.diesel.breakerClose ≤ 500) ∧
      exec (.c0Capture ⟨200000, full⟩) syncing = .next (next (.c0Capture ⟨200000, full⟩) syncing) ∧
      (next (.c0Capture ⟨200000, full⟩) syncing).mu.latest.bind (·.sync) = some ⟨120, 45, 80⟩ ∧
      (syncing.mu.lastSrc = some 197500 ∧ (next (.c0Capture ⟨200000, full⟩) syncing).mu.window.getLast? = some 200000 ∧
        (next (.c0Capture ⟨200000, full⟩) syncing).mu.latest.map (fun r => (r.f, r.fSrc)) = some (some 50000, some 50120)) ∧
      (next (.c0Capture ⟨200000, full⟩) { syncing with mu := { syncing.mu with lastSrc := some 2500 } }).mu.latest.bind
        (·.sync.map (·.phase)) = some (-45) := by
  refine ⟨⟨by decide +kernel, ?_, by decide +kernel⟩, rfl, by decide +kernel, by decide +kernel, by decide +kernel⟩
  unfold State.windowsOk windowOk
  decide +kernel

/-! ### Witnesses: channels and inputs -/

theorem witness_PairRuleDecidesRequests :
    (base.localRefuses .source = false ∧ base.localRefuses (.feeder .f1) = false) ∧
      ((pulsing .srcClose base).pulse .srcClose).isActive = true ∧ ((pulsing .srcClose base).pulse .srcTrip).isActive = false ∧
      ((pulsing .srcTrip base).pulse .srcClose).isActive = false ∧ ((pulsing .srcTrip base).pulse .srcTrip).isActive = true ∧
      (base.pulse .srcClose).isActive = false ∧ (base.pulse .srcTrip).isActive = false ∧
      (qualified (.feederLocal .f1) .asserted base).level (.feederLocal .f1) = .asserted ∧
      (qualified .srcCb .asserted base).level (positionInput .source) = (if true then .asserted else .released) ∧
      base.level (positionInput .source) ≠ (if false then .asserted else .released) ∧
      (pulsing .srcClose (qualified .srcCb .released base)).level (positionInput .source) = .released ∧
      (pulsing .srcClose base).level (positionInput .source) ≠ .released ∧
      (pulsing .srcClose base).localRefuses .source = false := by
  decide +kernel

/-- The test station with a window of a breaker that expires at 5. -/
def watching (b : Breaker) (r : Requester) (closed : Bool) (s : State) : State := s.putWindow b (.watching r closed soon)

/-- The test station with F1 in a state. -/
def f1 (st : PortState) : State := { base with fl := { base.fl with ports := ⟨some (port st), some (port .shed), none, none⟩ } }

/-- F1 in a state, watched, and the set in a state, watched, each window expiring at 5. -/
def unconfirmed (st : PortState) (d : DieselState) (r : Requester) (closed : Bool) : State :=
  watching (.feeder .f1) .fl closed (watching .source r closed { f1 st with ds := { base.ds with state := some d } })

theorem witness_PulsesEnd :
    ((pulsing .srcClose base).due (.pulse .srcClose) 5 ∧ (pulsing .srcTrip base).due (.pulse .srcTrip) 5) ∧
      ((pulsing .crank base).due (.pulse .crank) 5 ∧ (pulsing .crank base).ds.state ≠ some .crank) ∧
      ((pulsing .crank (diesel .crank .stopped)).due (.pulse .crank) 5 ∧
        (pulsing .crank (diesel .crank .stopped)).ds.state = some .crank) ∧
      ((pulsing (.feederClose .f1) base).due (.pulse (.feederClose .f1)) 5 ∧
        (pulsing (.feederTrip .f1) base).due (.pulse (.feederTrip .f1)) 5 ∧
        (pulsing (.feederTrip .f1) base).port .f1 = some (port .closed) ∧ (port .closed).tripOwed = none) ∧
      ((unconfirmed .closing .closing .ds true).due (.confirm (.feeder .f1)) 5 ∧
        (unconfirmed .closing .closing .ds true).window (.feeder .f1) = .watching .fl true soon ∧
        (unconfirmed .closing .closing .ds true).port .f1 = some (port .closing)) ∧
      ((unconfirmed .opening .opening .ds false).due (.confirm (.feeder .f1)) 5 ∧
        (unconfirmed .opening .opening .ds false).window (.feeder .f1) = .watching .fl false soon ∧
        (unconfirmed .opening .opening .ds false).port .f1 = some (port .opening)) ∧
      ((unconfirmed .closed .off .sc false).due (.confirm .source) 5 ∧
        (unconfirmed .closed .off .sc false).window .source = .watching .sc false soon) ∧
      ((unconfirmed .closing .closing .ds true).due (.confirm .source) 5 ∧
        (unconfirmed .closing .closing .ds true).window .source = .watching .ds true soon ∧
        (unconfirmed .closing .closing .ds true).ds.state = some .closing ∧
        ((unconfirmed .closing .closing .ds true).pulse .srcTrip).isActive = false) ∧
      (unconfirmed .opening .opening .ds false).due (.confirm .source) 5 ∧
      (unconfirmed .opening .opening .ds false).window .source = .watching .ds false soon ∧
      (unconfirmed .opening .opening .ds false).ds.state = some .opening := by
  unfold State.due
  decide +kernel

/-- F1 in a state that owes a trip, with its trip pulse about to end and its breaker at a level. -/
def owing (st : PortState) (dest : Destination) (cb : InputLevel) : State :=
  let s := pulsing (.feederTrip .f1) (qualified (.feederCb .f1) cb (f1 st))
  { s with fl := { s.fl with ports := s.fl.ports.set .f1 (some { port st with tripOwed := some dest }) } }

/-- An owed trip asked for again on a breaker that is closed, on one that is open already, and not asked for again. -/
theorem witness_PulsesEnd_owed :
    [(PortState.closed, InputLevel.asserted, Destination.blackOpen), (.closing, .released, .shed .deficit),
        (.closing, .released, .blackOpen), (.shed, .released, .blackOpen)].map (fun (st, cb, dest) =>
      let s := owing st dest cb
      let u := next (.pulseTimerExpiry (.feederTrip .f1)) s
      (s.runs && (s.timer (.pulse (.feederTrip .f1))).expiry == some 5 && s.port .f1 == some { port st with tripOwed := some dest } &&
          s.level (.feederLocal .f1) != .asserted && s.level (.feederCb .f1) == cb && s.fl.swap == none &&
          (s.pulse (.feederTrip .f1)).isActive, u.portState .f1, (u.pulse (.feederTrip .f1)).isActive)) =
      [(true, some .opening, true), (true, some .shed, true), (true, some .blackOpen, true), (true, some .shed, false)] := by
  decide +kernel


theorem witness_PeriodsAndSamplesFollow :
    base.phase = .running ∧ (base.tac.inputs.get .runFb).due = false ∧
      ((sampled .runFb true base).tac.inputs.get .runFb).due = true ∧
      ((sampled .runFb true base).tac.inputs.get .runFb).sample = some true := by
  decide +kernel

/-- F1 in a state with LOCAL due at a level and its breaker qualified. -/
def localDue (x : Bool) (cb : InputLevel) (st : PortState) : State :=
  sampled (.feederLocal .f1) x (qualified (.feederCb .f1) cb (f1 st))

theorem witness_LocalHoldsPort :
    [(true, InputLevel.released, PortState.closed), (false, .asserted, .held), (false, .released, .held),
        (false, .released, .shed)].all (fun (x, cb, st) =>
      let s := localDue x cb st
      s.phase == .running && (s.tac.inputs.get (.feederLocal .f1)).due && s.port .f1 == some (port st) &&
        (s.tac.inputs.get (.feederLocal .f1)).sample == some x && s.level (.feederCb .f1) == cb) = true := by
  decide +kernel

/-- The set in a state, with an input of it due as released and its breaker qualified. -/
def losing (i : InputLine) (cb : InputLevel) (st : DieselState) : State := sampled i false (qualified .srcCb cb (diesel st .stopped))

theorem witness_LostSetFails :
    [(InputLine.srcCb, InputLevel.asserted, DieselState.unload), (.srcCb, .asserted, .stopIntent), (.runFb, .asserted, .online)].all
      (fun (i, cb, st) =>
        let s := losing i cb st
        s.phase == .running && s.ds.state == some st && s.sc.state == none && (s.tac.inputs.get i).due &&
          (s.tac.inputs.get i).sample == some false && s.level .srcCb == cb && s.window .source == .closedOut) = true := by
  decide +kernel

/-- The solar station ONLINE or OFFLINE with an output, SRC_CB due at a level, and its trip watched or not. -/
def inverter (st : SolarState) (output : Int) (x : Bool) (trip : Bool) : State :=
  sampled .srcCb x (solar2.putWindow .source (if trip then .watching .sc false soon else .closedOut) |> fun s =>
    { s with sc := { s.sc with state := some st, trip }, mu := { s.mu with mean := { s.mu.mean with src := output } } })

/-- The loss threshold of 40 kW; the solar station at DARK, in operation with its breaker or its trip as given, and in SERVICE. -/
theorem witness_LostSetFails_solar :
    [(SolarState.offline, (0 : Int), true, false), (.online, 0, true, false), (.offline, 0, false, false), (.online, 40, false, false),
        (.online, 41, false, false), (.online, 41, false, true)].all (fun (st, output, x, trip) =>
      let s := inverter st output x trip
      dueAt s .srcCb x && s.ds.state == none && s.sc.state == some st && s.sc.trip == trip && s.islandUp &&
        (s.par.solar.lossThreshold < clamp16 s.mu.mean.src) == decide (40 < output) &&
        s.window .source == (if trip then .watching .sc false soon else .closedOut)) = true ∧
      [(Mode.coordinated, InputLevel.asserted, Pulse.idle), (.autonomous, .released, .idle), (.coordinated, .asserted, .active .sc soon),
        (.service, .asserted, .idle)].all (fun (mode, cb, trip) =>
      let s := timed .dead (qualified .srcCb cb (({ solar2 with
        bsc := { base.bsc with island := some .deadWait }, cr := { solar2.cr with mode } }).putPulse .srcTrip trip))
      s.runs && (s.timer .dead).expiry == some 5 && s.bsc.island == some .deadWait && s.ds.state == none &&
        s.sc.state == some .online && !s.sc.trip && s.operating == (mode != .service) && s.level .srcCb == cb &&
        s.pulse .srcTrip == trip) = true := by
  decide +kernel

theorem witness_ServiceHoldsJobs :
    ((sampled .service true base).phase = .running ∧ ((sampled .service true base).tac.inputs.get .service).due = true ∧
        (sampled .service true base).senderFollows ∧ ((sampled .service true base).tac.inputs.get .service).sample = some true ∧
        base.cr.mode = .coordinated) ∧
      ((diesel .arbitrate .stopped).ds.state = some .arbitrate ∧ (diesel .stopIntent .stopped).ds.state = some .stopIntent) ∧
      ((sampled .service false { base with cr := { base.cr with mode := .service } }).tac.inputs.get .service).sample = some false ∧
      (sampled .service false { base with cr := { base.cr with mode := .service } }).senderFollows ∧
      base.cr.commit ≠ .running := by
  unfold State.senderFollows
  decide +kernel

/-- F1 in a state and with a destination, its window as given and its breaker due at a level. -/
def moving (w : Window) (x : Bool) (st : PortState) (d : Option Destination) : State :=
  let s := f1 st
  sampled (.feederCb .f1) x
    ({ s with fl := { s.fl with ports := s.fl.ports.set .f1 (some { port st with destination := d }) } }.putWindow (.feeder .f1) w)

theorem witness_BreakerPositionsMovePorts :
    [(Window.watching .fl true soon, true, PortState.closing, none), (.watching .fl false soon, false, .opening, some (.shed .overload)),
        (.watching .fl false soon, false, .opening, some .blackOpen), (.closedOut, false, .closed, none), (.closedOut, true, .shed, none),
        (.closedOut, true, .blackOpen, none)].all (fun (w, x, st, d) =>
      let s := moving w x st d
      s.phase == .running && s.fl.swap == none && (s.tac.inputs.get (.feederCb .f1)).due &&
        (s.tac.inputs.get (.feederCb .f1)).sample == some x && s.window (.feeder .f1) == w &&
        s.port .f1 == some { port st with destination := d }) = true := by
  decide +kernel

/-! ### Witnesses: permit arbitration -/

/-- The test station in a session. -/
def session (x : Session) : State :=
  { base with bsc := { base.bsc with session := x }, tac := { base.tac with permitEdges := true } }

/-- A session in a phase, with every timer STOPPED. -/
def phased (phase : PermitPhase) : Session := { Session.idle with phase }

theorem witness_SessionFollowsLine :
    ((session { phased .waiting with guard := soon }).phase = .running ∧
        (session { phased .waiting with guard := soon }).permitLow = false ∧
        (session { phased .waiting with guard := soon }).tac.permitEdges = true ∧
        (session { phased .waiting with guard := soon }).bsc.session.phase = .waiting ∧
        (session { phased .waiting with guard := soon }).bsc.session.guard.isRunning = true ∧
        (session { phased .waiting with guard := soon }).bsc.session.guard.expiry = some 5 ∧ some (4 : Tick) ≠ some 5 ∧
        (session { phased .waiting with guard := soon, guardOrigin := .edge }).bsc.session.guardOrigin = .edge) ∧
      ({ session (phased .waiting) with tac := { base.tac with permitOthers := true } }.phase = .running ∧
        { session (phased .waiting) with tac := { base.tac with permitOthers := true } }.tac.permitPull = false ∧
        { session (phased .waiting) with tac := { base.tac with permitOthers := true } }.tac.permitOthers = true ∧
        { session (phased .waiting) with tac := { base.tac with permitOthers := true } }.bsc.session.phase = .waiting) ∧
      ((session { phased .waiting with guard := soon }).due .guard 5 ∧
        (session { phased .waiting with stuck := soon }).due .stuck 5 ∧
        (session { phased .waiting with stuck := soon }).bsc.session.phase = .waiting) ∧
      ((session { phased .hold with hold := soon }).due .hold 5 ∧ (session { phased .hold with hold := soon }).bsc.session.phase = .hold) ∧
      (session { phased .hold with liveWait := soon }).due .liveWait 5 ∧
      (session { phased .hold with liveWait := soon }).bsc.session.phase = .hold := by
  unfold State.due
  decide +kernel

/-- "Either way the slot start is that instant and the station pulls, so the two orders agree" (R167), for both origins. -/
theorem test_guard_expiry_and_fall_agree :
    [GuardOrigin.request, .edge].all (fun guardOrigin =>
      let s := session { phased .waiting with guard := soon, guardOrigin }
      let u := next .guardTimerExpiry (next (.permitFallingEdge 5 false) s)
      next (.permitFallingEdge 5 false) (next .guardTimerExpiry s) == u && u.bsc.session.slotStart == 5 && u.tac.permitPull &&
        u.permitPhase == .start) = true := by
  decide +kernel

/-- The set in ARBITRATE at a slot point: the next one, what comes there, the bit, the own word, and the last bus condition. -/
def contest (phase : PermitPhase) (sample : Bool) (bit word : Nat) (bus : Condition) : State :=
  { base with
    mu := { base.mu with latest := (next (.c0Capture ⟨9, full⟩) base).mu.latest.map fun r => { r with busCondition := bus } }
    bsc := { base.bsc with
      session := { phased phase with bit, sampleNext := sample, slot := soon }, ownWord := word, island := some .dark }
    ds := { base.ds with state := some .arbitrate } }

/-- Bit 0 of the words 511 and 512 is 0 and 1, bit 9 of the words 34 and 35 is 0 and 1; the bits 8 and 9 end the contest. -/
theorem witness_SlotPointsRunContest :
    ([(PermitPhase.start, false, 0, 511, Condition.dead), (.bits, false, 8, 35, .dead), (.bits, true, 8, 35, .dead),
        (.bits, true, 0, 512, .dead), (.bits, true, 9, 34, .live), (.bits, true, 9, 34, .dead)].all
      fun (phase, sample, bit, word, bus) =>
        let s := contest phase sample bit word bus
        s.runs && (s.timer .slot).expiry == some 5 && s.bsc.session.phase == phase && s.bsc.session.sampleNext == sample &&
          s.bsc.session.bit == bit && s.ds.state == some .arbitrate && s.mu.latest.map (·.busCondition) == some bus &&
          s.tac.permitPull == false && s.pulse .srcClose == .idle && s.pulse .srcTrip == .idle && s.level .srcCb != .asserted) = true ∧
      [(511, 0), (512, 0), (34, 9), (35, 9)].map (fun (w, i) => !(contest .bits true i w .dead).bsc.ownWord.testBit (9 - i)) =
        [true, false, true, false] := by
  decide +kernel

/-! ### Witnesses: the island link and the peer view -/

/-- The test station with its receiver as given. -/
def receiving (r : Receiver) (s : State) : State := { s with ilc := { s.ilc with receiver := r } }

/-- The test station with its transmitter as given. -/
def transmitting (x : Transmitter) (s : State) : State := { s with ilc := { s.ilc with transmitter := x } }

/-- 0x154 is a low start bit with the byte 0xAA and a low stop bit, 0x3FF a glitch; an idle of 800 opens a burst, as an end idle does, one
of 799 and a fall 20 ticks before the end of the last character do not. -/
theorem witness_FallsFormCharacters :
    (base.phase = .running ∧ (0x3FF : BitVec 10).getLsbD 0 = true ∧ (0x154 : BitVec 10).getLsbD 0 = false) ∧
      (State.reset.phase = .running ∧ State.reset.ilc.started = false) ∧ base.ilc.started = true ∧
      (transmitting (.sending .loss [1] 0 []) base).ilc.transmitter = .sending .loss [1] 0 [] ∧
      (base.ilc.transmitter = .ready ∧ base.ilc.finishing = none ∧ base.ilc.receiver = .waiting ∧ base.ilc.idleSince = some 0 ∧
        (400 < ((0 : Tick) - 800).toNat ∧ 800 ≤ ((800 : Tick) - 0).toNat) ∧
        base.ilc.endIdle = false ∧ ((799 : Tick) - 0).toNat < 800 ∧ ((0 : Tick) - (0 - 20)).toNat ≤ 400 ∧
        { base with ilc := { base.ilc with endIdle := true } }.ilc.endIdle = true) ∧
      (receiving (.collecting [⟨0xC5, false⟩] false) base).ilc.receiver = .collecting [⟨0xC5, false⟩] false ∧
      (receiving .ignoring base).ilc.receiver = .ignoring ∧
      { base with ilc := { base.ilc with finishing := some 300 } }.ilc.finishing ≠ none ∧
      ((frameChars 1 .loss [1])[0]? = some 0xC5 ∧ 400 * (frameChars 1 .loss [1]).length ≤ ((2800 : Tick) - 0).toNat) := by
  decide +kernel

/-- A station that has received a frame of an address. -/
def heard (a : Nat) (k : FrameKind) (payload : List Byte) (s : State) : State :=
  receiving (.collecting (cleanBurst (frameChars a k payload)) false) s

theorem witness_BurstsAreJudged :
    (base.phase = .running ∧ base.ilc.idleSince = some 0 ∧ base.ilc.counters.receiveErrors < 65535 ∧
        (receiving .ignoring base).ilc.receiver = .ignoring) ∧
      ((receiving (.collecting [⟨0xC5, true⟩] false) base).ilc.receiver = .collecting [⟨0xC5, true⟩] false ∧
        judgeBurst [⟨0xC5, true⟩] false = none) ∧
      ((heard 7 .loss (lossPayload .genset 5 500) base).ilc.receiver =
          .collecting (cleanBurst (frameChars 7 .loss (lossPayload .genset 5 500))) false ∧
        judgeBurst (cleanBurst (frameChars 7 .loss (lossPayload .genset 5 500))) false = some ⟨7, .loss .genset 5 500⟩ ∧
        7 ≠ base.address ∧ base.pv.table = [] ∧ base.ilc.counters.unknownSender < 65535) := by
  decide +kernel

/-- The table of the one GENSET peer is formed. -/
theorem tableFormed_peer7 {s : State} (b : Bool) (h : s.pv.table = [{ peer7 with fresh := b }]) (ha : s.address = 1)
    (hr : s.runs = true) : s.tableFormed := by
  simp [State.tableFormed, Entry.inRange, FeederRecord.inRange, h, ha, hr, peer7, peer]

/-- A full table of 31 peers without feeders. -/
def fullTable : List Entry := (List.range 31).map fun i => peer (i + 2) .noSource .absent 0 0 0 0 []

/-- A STATUS of the test station's own state, as another station might send it. -/
def someStatus : StatusMsg := { base.ownStatus with intent := some .start }

theorem witness_StatusMakesEntryFresh :
    ((heard 7 .status (statusPayload someStatus) (seeing [peer7] base)).phase = .running ∧
        (heard 7 .status (statusPayload someStatus) (seeing [peer7] base)).tableFormed ∧
        (heard 7 .status (statusPayload someStatus) (seeing [peer7] base)).ilc.idleSince = some 0 ∧
        (heard 7 .status (statusPayload someStatus) (seeing [peer7] base)).ilc.receiver =
          .collecting (cleanBurst (frameChars 7 .status (statusPayload someStatus))) false ∧
        judgeBurst (cleanBurst (frameChars 7 .status (statusPayload someStatus))) false = some ⟨7, .status someStatus⟩ ∧
        (seeing [peer7] base).pv.entry 7 = some peer7 ∧ base.address ≠ 7) ∧
      ({ seeing fullTable base with address := 33 }.tableFormed ∧ (seeing fullTable base).pv.entry 1 = none ∧
        (seeing fullTable base).pv.table.length = 31 ∧
        judgeBurst (cleanBurst (frameChars 1 .status (statusPayload someStatus))) false = some ⟨1, .status someStatus⟩) := by
  refine ⟨⟨by decide +kernel, tableFormed_peer7 true rfl rfl rfl, by decide +kernel, by decide +kernel, by decide +kernel,
    by decide +kernel, by decide +kernel⟩, ⟨by decide +kernel, by decide +kernel, ?_, by decide +kernel⟩, by decide +kernel,
    by decide +kernel, by decide +kernel⟩
  intro e he
  simp only [seeing, fullTable, List.mem_map, List.mem_range] at he
  obtain ⟨i, hi, rfl⟩ := he
  simp [peer, Entry.inRange]
  omega

/-- The test station in AUTONOMOUS with the GENSET peer STALE, as its STATUS arrives. -/
def reached : State :=
  heard 7 .status (statusPayload someStatus) (seeing [{ peer7 with fresh := false }] { base with cr := { base.cr with mode := .autonomous } })

theorem witness_StatusMakesEntryFresh_coordinated :
    reached.tableFormed ∧ reached.phase = .running ∧ reached.cr.mode = .autonomous ∧ reached.pv.conflict = false ∧
      (∀ e ∈ reached.pv.table, e.fresh = false) ∧ (next .burstClose reached).cr.mode = .coordinated := by
  refine ⟨tableFormed_peer7 false rfl rfl rfl, by decide +kernel, by decide +kernel, by decide +kernel, by decide +kernel,
    by decide +kernel⟩

theorem witness_NoticesReachEntryAndJobs :
    ((seeing [peer7] base).tableFormed ∧ (seeing [peer7] base).pv.entry 7 = some peer7 ∧ 7 ≠ base.address) ∧
      judgeBurst (cleanBurst (frameChars 7 .loss (lossPayload .genset 5 500))) false = some ⟨7, .loss .genset 5 500⟩ ∧
      (judgeBurst (cleanBurst (frameChars 7 .intent (intentPayload .start 4 500))) false = some ⟨7, .intent .start 4 500⟩ ∧
        judgeBurst (cleanBurst (frameChars 7 .intent (intentPayload .start 5 500))) false = some ⟨7, .intent .start 5 500⟩ ∧
        judgeBurst (cleanBurst (frameChars 7 .intent (intentPayload .stop 1 500))) false = some ⟨7, .intent .stop 1 500⟩) ∧
      judgeBurst (cleanBurst (frameChars 7 .step (stepPayload 4 255 65535))) false = some ⟨7, .step 4 255 65535⟩ ∧
      ((heard 7 .intent (intentPayload .start 4 500) (seeing [peer7] (diesel .intent .stopped))).ds.state = some .intent ∧
        (heard 7 .intent (intentPayload .start 4 500) (seeing [peer7] (diesel .intent .stopped))).bsc.island = some .live ∧
        4 < par.diesel.startRank ∧ par.diesel.startRank = 5) ∧
      base.cr.params.isSome = true ∧ 1 ≤ base.par.station.feederCount := by
  refine ⟨⟨tableFormed_peer7 true rfl rfl rfl, ?_⟩, ?_⟩ <;> decide +kernel

theorem witness_OwnAddressIsConflict :
    ((heard 1 .step (stepPayload 1 1 0) base).phase = .running ∧ (heard 1 .step (stepPayload 1 1 0) base).ilc.idleSince = some 0 ∧
        judgeBurst (cleanBurst (frameChars 1 .step (stepPayload 1 1 0))) false = some ⟨base.address, .step 1 1 0⟩ ∧
        base.ilc.counters.ownAddress < 65535) ∧
      base.ilc.conflict = false ∧ (heard 1 .step (stepPayload 1 1 0) base).senderFollows ∧ base.cr.mode = .coordinated ∧
      { base with ilc := { base.ilc with conflict := true } }.ilc.conflict = true := by
  unfold State.senderFollows
  decide +kernel

theorem witness_StatusFallsDue :
    (base.due .status 5 ∧ base.ilc.random = some 1 ∧ base.ilc.transmitter.enabled = true ∧ (1 : BitVec 16) ≠ 0) ∧
      (base.par.station.role = .genset ∧ base.ds.state = some .standby ∧ solar2.par.station.role = .solar ∧
        solar2.sc.state = some .online ∧ stationA.par.station.role = .noSource) ∧
      base.port .f1 = some (port .closed) ∧ Port.f1.num ≤ base.par.station.feederCount := by
  unfold State.due
  decide +kernel

/-- The test station with a LOSS and a STATUS frame waiting, the first with a backoff. -/
def waiting : State :=
  { base with ilc := { base.ilc with slots := { Slots.empty with loss := ⟨some [1], 1, 3⟩, status := ⟨some [2], 0, 0⟩ } } }

/-- The STATUS requires an idle of 2,000 and the LOSS one of 6,000: before and at the second. -/
theorem witness_AttemptTakesHighestPriority :
    (base.phase = .running ∧ base.ilc.transmitter = .ready ∧ base.ilc.receiver = .waiting ∧ base.ilc.idleSince = some 0 ∧
        (base.tb - 0).toNat < 2 ^ 31 ∧ base.ilc.slots = .empty) ∧
      (waiting.ilc.slots.loss.frame ≠ none ∧ waiting.ilc.slots.status.frame ≠ none ∧ waiting.ilc.slots.loss.backoff = 3) ∧
      [(5999 : Tick), 6000].map (fun t => (next .attemptStart { waiting with tb := t }).ilc.transmitter) =
        [.sending .status [2] 5999 [], .sending .loss [1] 6000 []] := by
  decide +kernel

/-- The test station as it sends a LOSS frame from 0, with the echoes so far and the attempt count. -/
def sending (echoes : List LinkChar) (attempts : Nat) : State :=
  transmitting (.sending .loss [1, 0, 5, 0, 9] 0 echoes)
    { base with ilc := { base.ilc with slots := { Slots.empty with loss := ⟨none, attempts, 0⟩ } } }

theorem witness_AttemptsEnd :
    (base.phase = .running ∧ { base with ilc := { base.ilc with finishing := some 7 } }.ilc.finishing = some 7) ∧
      ((sending (cleanBurst (frameChars 1 .loss [1, 0, 5, 0, 9])) 1).ilc.transmitter =
          .sending .loss [1, 0, 5, 0, 9] 0 (cleanBurst (frameChars 1 .loss [1, 0, 5, 0, 9])) ∧
        (sending (cleanBurst (frameChars 1 .loss [1, 0, 5, 0, 9])) 1).ilc.idleSince = some 0 ∧ base.ilc.counters.sent < 65535) ∧
      ((sending [] 3).ilc.random = some 1 ∧ (sending [] 3).ilc.slots.loss.attempts < 4 ∧
        4 ≤ (sending [] 4).ilc.slots.loss.attempts ∧ ([] : List LinkChar).length < (frameChars 1 .loss [1, 0, 5, 0, 9]).length ∧
        base.ilc.counters.collisions < 65535 ∧ base.ilc.counters.drops < 65535) ∧
      [⟨0xC4, false⟩].getLast? = some (⟨0xC4, false⟩ : LinkChar) ∧
      (frameChars 1 .loss [1, 0, 5, 0, 9])[0]? = some 0xC5 ∧ (0xC4 : Byte) ≠ 0xC5 := by
  decide +kernel

theorem witness_FramesReadBack :
    someStatus.wf ∧ { someStatus with role := .solar, startRank := 0, interval := 20, rating := 65535, feeders := [] }.wf := by
  unfold StatusMsg.wf
  decide +kernel

/-- A STALE entry of the GENSET peer. -/
def stale7 : Entry := { peer7 with fresh := false }

theorem witness_FreshnessTimersExpire :
    ((seeing [peer7] base).tableFormed ∧ (seeing [peer7] base).pv.entry 7 = some peer7 ∧ (seeing [peer7] base).due (.stale 7) 5 ∧
        peer7.fresh = true ∧ base.cr.mode = .coordinated) ∧
      ((seeing [stale7] base).tableFormed ∧ (seeing [stale7] base).pv.entry 7 = some stale7 ∧
        (seeing [stale7] base).due (.removal 7) 5 ∧ (seeing [stale7] base).due (.stale 7) 5 ∧ stale7.fresh = false) := by
  refine ⟨⟨tableFormed_peer7 true rfl rfl rfl, ?_⟩, tableFormed_peer7 false rfl rfl rfl, ?_⟩
  all_goals
    unfold State.due
    decide +kernel

/-- The set in a state, forced to stop or not, when the only peer becomes STALE: what becomes of it. -/
theorem witness_FreshnessTimersExpire_alone :
    [(DieselState.stopIntent, false), (.unload, false), (.stopIntent, true), (.online, false)].map (fun (st, forcedStop) =>
      let s := seeing [peer7] { base with ds := { base.ds with state := some st, forcedStop } }
      (s.cr.mode == .coordinated && s.ds.state == some st && s.ds.forcedStop == forcedStop,
        (next (.staleTimerExpiry 7) s).cr.mode, (next (.staleTimerExpiry 7) s).ds.state)) =
      [(true, .autonomous, some .online), (true, .autonomous, some .online), (true, .autonomous, some .stopIntent),
        (true, .autonomous, some .online)] := by
  decide +kernel

/-! ### Witnesses: balance, solar cap, diesel -/

/-- The period sums of two cycles, and a demand that the peer's feeders and the own shed port make. -/
def summed : State := { base with mu := { base.mu with sums := ⟨2, 600, .all 40, 1000⟩ } }

theorem witness_BalanceExpiryHandsOver :
    base.due .balance 5 ∧ base.mu.sums.count = 0 ∧ summed.due .balance 5 ∧ 0 < summed.mu.sums.count := by
  unfold State.due
  decide +kernel

theorem witness_IslandSumsCountStations : base.due .balance 5 ∧ solar2.due .balance 5 := by
  unfold State.due
  decide +kernel

/-- With F2 SHED there is a candidate, with the solar station none; no diesel of the first is ONLINE. -/
theorem witness_FiguresFollowSums :
    (base.due .balance 5 ∧ (next .balancePeriodExpiry base).be.figures.candidate = some ⟨1, 2, .shed, 3, 50, 150⟩ ∧
        (next .balancePeriodExpiry solar2).be.figures.candidate = none) ∧
      (seeing [peer7] base).tableFormed ∧ (∀ p, (base.par.port.get p).coldLoad ≤ 300) ∧
      (∀ p r, base.port p = some r → r.load ≤ 65535) ∧
      ((∀ e ∈ base.view, ¬ (e.role = .genset ∧ e.summary = .online)) ∧
        ¬ (base.par.station.role = .genset ∧ base.summary = .online)) := by
  refine ⟨?_, tableFormed_peer7 true rfl rfl rfl, ?_, ?_, ?_⟩
  · unfold State.due
    decide +kernel
  · intro p
    cases p <;> decide +kernel
  · intro p r h
    cases p <;> cases h <;> decide
  · decide +kernel

theorem witness_CandidateIsFirst :
    base.due .balance 5 ∧ (next .balancePeriodExpiry base).be.figures.candidate ≠ none ∧
      (next .balancePeriodExpiry solar2).be.figures.candidate = none := by
  unfold State.due
  decide +kernel

/-- The solar station finding f at the deadband's edge and 1 mHz above it. -/
def solarAt (f : Nat) : State :=
  { solar2 with mu := { solar2.mu with latest := (next (.c0Capture ⟨9, full⟩) base).mu.latest.map fun r => { r with f := some f } } }

theorem witness_CapChainRuns :
    (solar2.due .balance 5 ∧ solar2.sc.state.isSome = true ∧ solar2.par.station.rating ≤ 20000 ∧ solar2.par.solar.ramp ≤ 100 ∧
        solar2.par.station.balancePeriod ≤ 10 ∧ 0 ≤ solar2.sc.lastCap ∧ solar2.par.solar.fallbackCap ≤ solar2.par.station.rating) ∧
      [50200, 50201].map (fun f => (next .balancePeriodExpiry (solarAt f)).be.figures.f) = [some 50200, some 50201] ∧
      (next .balancePeriodExpiry solar2).be.figures.f = none := by
  unfold State.due
  decide +kernel

theorem witness_BiasStepsByState :
    [DieselState.online, .stopIntent, .sync, .unload, .closing, .opening, .cooldown, .crank, .standby, .failed].all (fun d =>
        let s := diesel d .stopped
        s.runs && (s.timer .balance).expiry == some 5 && s.ds.state == some d && s.operating) = true ∧
      { diesel .online .stopped with cr := { base.cr with mode := .service } }.operating = false := by
  decide +kernel

/-- The test station of 10 s start delay with a need that began at an instant; at 5 it is judged. -/
def needing (since : Tick) : State :=
  seeing [{ peer7 with output := 800 }] { diesel .standby .stopped with ds := { base.ds with needSince := some since } }

/-- A need of 100,000,000 ticks starts the set, one tick less does not; without load there is no need. -/
theorem witness_StartIsJudged :
    ((needing 0).due .balance 5 ∧ (needing 0).operating = true ∧ (needing 0).islandUp = true ∧ (needing 0).ds.state = some .standby ∧
        (needing 0).ds.timers.holdoff = .stopped) ∧
      [(5 : Tick) - 100000000, 5 - 99999999].map (fun x =>
          ((next .balancePeriodExpiry (needing x)).be.figures.startNeed, ((5 : Tick) - x).toNat)) =
        [(true, 100000000), (true, 99999999)] ∧
      (next .balancePeriodExpiry (seeing [{ peer7 with output := 0 }] (needing 0))).be.figures.startNeed = false := by
  unfold State.due
  decide +kernel

/-- The GENSET peer with an intent. -/
def intending (k : IntentKind) (rank : Nat) : Entry := { peer7 with intent := some ⟨k, rank, 800, 0⟩ }

/-- The set in a state as its peer, of a load and an intent, is seen, with the mean output and the forced stop as given. -/
def judged (st : DieselState) (e : Entry) (mode : Mode) (forced : Bool) (output : Int) : State :=
  seeing [e] { diesel st .stopped with
    ds := { (diesel st .stopped).ds with forcedStop := forced }
    cr := { base.cr with mode }
    mu := { base.mu with mean := { base.mu.mean with src := output } } }

/-- A better intent is one of rank 4, a worse one of rank 6, and at rank 5 the peer's higher address is the worse. -/
theorem witness_StartIsJudged_intent :
    [{ intending .start 4 with output := 800 }, { intending .start 5 with output := 800 }, peer7].map (fun e =>
        let s := judged .intent e .coordinated false 0
        (s.runs && (s.timer .balance).expiry == some 5 && s.operating && s.view == [e],
          (next .balancePeriodExpiry s).be.figures.startNeedOther, (next .balancePeriodExpiry s).ds.state)) =
      [(true, true, some .standby), (true, true, some .intent), (true, false, some .standby)] := by
  decide +kernel

/-- Of the peer's 1500 kW 800 suffice for 400 but not for 1300; the unload threshold is 40 kW. -/
theorem witness_StartIsJudged_running :
    [(DieselState.online, { peer7 with rating := 1500 }, Mode.coordinated, false, (0 : Int)),
        (.online, { peer7 with rating := 1500, startRank := 6 }, .coordinated, false, 0), (.online, peer7, .autonomous, false, 0),
        (.stopIntent, { peer7 with rating := 1500 }, .coordinated, false, 0),
        (.stopIntent, { intending .stop 5 with rating := 1500 }, .coordinated, false, 0),
        (.stopIntent, { peer7 with output := 1300 }, .coordinated, true, 0), (.unload, { peer7 with output := 800 }, .coordinated, false, 0),
        (.unload, { peer7 with rating := 1500 }, .coordinated, false, 40), (.unload, { peer7 with rating := 1500 }, .coordinated, true, 41)].map
      (fun (st, e, mode, forced, output) =>
        let s := judged st e mode forced output
        let g := (next .balancePeriodExpiry s).be.figures
        (s.runs && (s.timer .balance).expiry == some 5 && s.operating && s.pulse .srcTrip == .idle && s.level .srcCb != .released,
          g.stopPossible, g.startNeed, g.ownOutput, (next .balancePeriodExpiry s).ds.state)) =
      [(true, true, false, 0, some .online), (true, true, false, 0, some .online), (true, true, false, 0, some .online),
        (true, true, false, 0, some .stopIntent), (true, true, false, 0, some .online), (true, false, true, 0, some .stopIntent),
        (true, false, true, 0, some .online), (true, false, false, 40, some .opening), (true, false, false, 41, some .unload)] := by
  decide +kernel

/-- The set in a state whose timer expires at 5, with a record that finds the source LIVE. -/
def engine (st : DieselState) (island : Island) : State :=
  { diesel st ⟨soon, soon, soon, soon, soon, soon, soon, soon, soon⟩ with
    bsc := { base.bsc with island := some island }
    mu := { base.mu with latest := (next (.c0Capture ⟨9, full⟩) base).mu.latest.map fun r =>
      { r with srcCondition := .live, fSrc := some 50000 } } }

theorem witness_StartTimersExpire :
    ((engine .intent .live).due .window 5 ∧ (engine .intent .live).ds.state = some .intent ∧
        (engine .intent .live).level .runFb ≠ .asserted ∧
        (qualified .runFb .asserted (engine .intent .live)).level .runFb = .asserted ∧
        (engine .stopIntent .live).ds.state = some .stopIntent) ∧
      ((engine .rest .live).due .rest 5 ∧ (engine .rest .live).ds.state = some .rest ∧
        (engine .rest .live).ds.crankCount < (engine .rest .live).par.diesel.attempts ∧
        par.diesel.attempts ≤ { engine .rest .live with ds := { base.ds with crankCount := 3 } }.ds.crankCount) ∧
      ([Island.live, .recover, .dark, .deadWait].all (fun i =>
          let s := engine .spool i
          s.runs && (s.timer .spool).expiry == some 5 && s.ds.state == some .spool && s.bsc.island == some i &&
            s.permitPhase == .idle && !s.ilc.conflict && s.mu.latest.any fun r => r.srcCondition == .live && r.fSrc.isSome) = true ∧
        ((next (.c0Capture ⟨9, full⟩) base).mu.latest.any fun r => r.srcCondition != .live) = true) ∧
      (engine .sync .live).due .sync 5 ∧ (engine .sync .live).ds.state = some .sync := by
  unfold State.due
  decide +kernel

/-- Every state in which RUN_FB, asserted or released, has an act of its own, and one in which it has none. -/
theorem witness_StartTimersExpire_runFb :
    [(DieselState.crank, true), (.rest, true), (.standby, true), (.spool, false), (.sync, false), (.arbitrate, false), (.closing, false),
        (.cooldown, false)].all (fun (st, x) =>
      let s := sampled .runFb x { session (phased (if st = .closing then .close else .waiting)) with
        ds := { base.ds with state := some st, deadBusClose := st == .closing } }
      dueAt s .runFb x && s.ds.state == some st && s.pulse .crank == .idle && !(s.pulse .srcTrip).isActive &&
        s.contending == (st != .closing) && s.permitPhase == (if st = .closing then .close else .waiting)) = true := by
  decide +kernel

theorem witness_StopTimersExpire :
    ((engine .online .live).due .stop 5 ∧ (engine .online .live).ds.state = some .online) ∧
      ((engine .unload .live).due .unload 5 ∧ (engine .unload .live).ds.state = some .unload ∧
        (engine .unload .live).level .srcCb ≠ .released ∧ (engine .unload .live).pulse .srcTrip = .idle) ∧
      (engine .cooldown .live).due .cooldown 5 ∧ (engine .cooldown .live).ds.state = some .cooldown ∧
      (engine .cooldown .live).bsc.island ≠ some .dark := by
  unfold State.due
  decide +kernel

/-- Every state of R100's table as INHIBIT is asserted, in operation and in SERVICE, and as it is released. -/
theorem witness_StopTimersExpire_inhibit :
    [DieselState.off, .standby, .intent, .crank, .rest, .spool, .sync, .arbitrate, .closing, .online, .stopIntent, .unload, .opening,
        .cooldown, .failed].all (fun st => [true, false].all fun x =>
      let s := sampled .inhibit x { session (phased .waiting) with ds := { base.ds with state := some st, inhibitSeen := true } }
      dueAt s .inhibit x && s.ds.state == some st && s.ds.intent == none && s.operating && s.bsc.island == some .live && s.contending &&
        s.ds.inhibitSeen && s.level .srcCb != .released && (qualified .srcCb .released s).level .srcCb == .released &&
        !{ s with cr := { s.cr with mode := .service } }.operating) = true ∧
      dueAt (sampled .srcCb false (watching .source .ds false (diesel .opening .stopped))) .srcCb false = true ∧
      (sampled .srcCb false (watching .source .ds false (diesel .opening .stopped))).window .source = .watching .ds false soon := by
  decide +kernel

/-- The set in SYNC at a capture with both buses at 400 V, with so many good cycles counted. -/
def synchronising (good : Nat) : State :=
  qualified .runFb .asserted (qualified .srcCb .released
    { measured 64 400 syncing with ds := { base.ds with state := some .sync, good } })

/-- The sync count of 8: after six good cycles, after seven, and at a cycle without a frequency. -/
theorem witness_SyncCyclesCount :
    (cycling (synchronising 6) = true ∧ (synchronising 6).ds.state = some .sync ∧
        (synchronising 6).bsc.reconstructed = true ∧ (synchronising 6).bsc.island = some .live ∧
        (synchronising 6).permitPhase = .idle ∧ (synchronising 6).level .runFb = .asserted ∧
        (synchronising 6).level .srcCb = .released ∧ (synchronising 6).pulse .srcClose = .idle ∧
        (synchronising 6).pulse .srcTrip = .idle) ∧
      [6, 7].map (fun n => ((next (.c0Capture ⟨200000, full⟩) (synchronising n)).mu.latest.map fun r =>
          (r.busCondition, r.srcCondition, r.busRms, r.srcRms))) =
        [some (.live, .live, some 400, some 400), some (.live, .live, some 400, some 400)] ∧
      (6 + 1 < par.diesel.syncCount ∧ par.diesel.syncCount ≤ 7 + 1) ∧
      ((next (.c0Capture ⟨200000, full⟩) { synchronising 6 with mu := { (synchronising 6).mu with window := [] } }).mu.latest.any fun r =>
          r.busCondition == .live && r.srcCondition == .live && r.sync == none) = true := by
  decide +kernel

/-- The close confirmed, with INHIBIT asserted at the confirmation, during CLOSING, or not at all, of a dead-bus close and of another;
and the breaker found closed in every state that has a rule for it. -/
theorem witness_SyncCyclesCount_closed :
    [(InputLevel.asserted, false, true), (.released, true, true), (.released, false, true), (.released, false, false)].all
        (fun (inhibit, noted, dead) =>
      let s := sampled .srcCb true (qualified .inhibit inhibit (watching .source .ds true { session (phased .close) with
        ds := { base.ds with state := some .closing, closingInhibit := noted, deadBusClose := dead } }))
      dueAt s .srcCb true && s.ds.state == some .closing && s.window .source == .watching .ds true soon && s.operating && s.islandUp &&
        s.ds.closingInhibit == noted && s.level .inhibit == inhibit && s.ds.deadBusClose == dead && s.permitPhase == .close) = true ∧
      [(DieselState.sync, InputLevel.asserted), (.sync, .released), (.standby, .released), (.arbitrate, .released), (.off, .released),
        (.failed, .released)].all (fun (st, fb) =>
      let s := sampled .srcCb true (qualified .runFb fb { session (phased .bits) with ds := { base.ds with state := some st } })
      dueAt s .srcCb true && s.sc.state == none && s.window .source == .closedOut && s.ds.state == some st && s.level .runFb == fb &&
        s.pulse .srcTrip == .idle && s.contending) = true ∧
      { session (phased .close) with bsc := { (session (phased .close)).bsc with island := some .dark } }.islandUp = false := by
  decide +kernel

/-! ### Witnesses: feeder ladder and island -/

/-- The test station at the overload timer's expiry with a demand. -/
def overloaded (demand : Int) : State :=
  timed .overload { base with be := { base.be with figures := { base.be.figures with overloadDemand := demand } } }

/-- No record stands ahead of F1: a demand of 0 leaves it, and one of 1 trips it. -/
theorem witness_OverloadShedsByRanking :
    ((overloaded 0).due .overload 5 ∧ (overloaded 0).be.figures.overloadDemand = 0 ∧ (overloaded 0).pv.table = []) ∧
      ((overloaded 1).due .overload 5 ∧ (overloaded 1).be.figures.overloadDemand = 1 ∧
        (overloaded 1).port .f1 = some (port .closed) ∧ (overloaded 1).port .f2 = some (port .shed) ∧
        (overloaded 1).level (.feederLocal .f1) ≠ .asserted ∧ (overloaded 1).level (.feederCb .f1) ≠ .released ∧
        (overloaded 1).pulse (.feederTrip .f1) = .idle) ∧
      (overloaded 0).tableFormed ∧ (overloaded 1).tableFormed := by
  refine ⟨?_, ?_, ⟨by decide, by decide, ?_, by decide⟩, by decide, by decide, ?_, by decide⟩
  · unfold State.due
    decide +kernel
  · unfold State.due
    decide +kernel
  all_goals
    intro e h
    cases h

theorem tableFormed_empty {s : State} (h : s.pv.table = []) : s.tableFormed := by simp [State.tableFormed, h]

theorem stationA_formed : stationA.tableFormed := by
  refine ⟨by decide +kernel, by decide +kernel, ?_, by decide +kernel⟩
  intro e h
  have h : e ∈ [peer 1 .genset .online 1000 600 0 1 [], peer 2 .genset .online 600 500 0 2 [],
      peer 11 .noSource .absent 0 0 0 0 [⟨1, .closed, 4, 90⟩, ⟨2, .closed, 8, 150⟩],
      peer 12 .noSource .absent 0 0 0 0 [⟨1, .closed, 1, 40⟩, ⟨3, .closed, 5, 100⟩]] := h
  simp only [List.mem_cons, List.not_mem_nil, or_false] at h
  rcases h with rfl | rfl | rfl | rfl <;> simp [Entry.inRange, FeederRecord.inRange, peer] <;> decide

/-- Chapter 08's LOSS at station A leaves −100, one of a rating of 500 kW leaves 0; the own set and the own inverter as they are lost. -/
theorem witness_OverloadShedsByRanking_deficit :
    stationA.tableFormed ∧
      (stationA.phase = .running ∧ stationA.cr.params.isSome = true ∧ 1 ≤ stationA.par.station.feederCount ∧
        stationA.ilc.idleSince = some 0 ∧
        judgeBurst (cleanBurst (frameChars 2 .loss (lossPayload .genset 500 600))) false = some ⟨2, .loss .genset 500 600⟩ ∧
        judgeBurst (cleanBurst (frameChars 2 .loss (lossPayload .solar 501 600))) false = some ⟨2, .loss .solar 501 600⟩ ∧
        2 ≠ stationA.address ∧ (stationA.pv.entry 2).isSome = true ∧ stationA.cr.mode = .coordinated ∧ stationA.islandUp = true) ∧
      [600, 500].map (fun r => ((stationA.be.figures.cOn : Int) - r) - stationA.be.figures.pGen) = [-100, 0] ∧
      [500, 501].map (fun o => stationA.be.figures.reserve - o) = [0, -1] ∧
      (dueAt (losing .srcCb .asserted .online) .srcCb false = true ∧ (losing .srcCb .asserted .online).window .source = .closedOut) ∧
      dueAt (seeing [] (inverter .online 41 false false)) .srcCb false = true ∧
      ((losing .srcCb .asserted .online).tableFormed ∧ (seeing [] (inverter .online 41 false false)).tableFormed) ∧
      { stationA with cr := { stationA.cr with mode := .autonomous } }.cr.mode ≠ .coordinated := by
  refine ⟨stationA_formed, by decide +kernel, by decide +kernel, by decide +kernel, by decide +kernel, by decide +kernel,
    ⟨tableFormed_empty rfl, tableFormed_empty rfl⟩, by decide +kernel⟩

/-- A peer of 800 kW that delivers 900 is an overload, one that delivers 800 is none. -/
theorem witness_OverloadShedsByRanking_timer :
    [900, 800].map (fun x =>
        let s := seeing [{ peer7 with output := x }] base
        (s.runs && (s.timer .balance).expiry == some 5 && s.operating && s.islandUp && s.fl.overload == .stopped,
          (next .balancePeriodExpiry s).be.figures.overload)) = [(true, true), (true, false)] ∧
      (timed .overload base).fl.overload ≠ .stopped ∧ { base with cr := { base.cr with mode := .service } }.operating = false := by
  decide +kernel

/-- The test station at a capture with a full window of one period, and F1's stage 1 with a record. -/
def slow (period : Nat) (x : Stage) : State :=
  { base with
    mu := { base.mu with capRef := some 0, window := [period, period, period, period] }
    fl := { base.fl with stages := base.fl.stages.set .f1 x } }

/-- Stage 1 has its pickup at 49,000 mHz, its release at 49,200 and the count 1: f at 48,999, 49,000, 49,199, 49,200 and INVALID. -/
theorem witness_StagesCountAndTrip :
    (cycling (slow 204086 ⟨0, false⟩) = true ∧
        (slow 204086 ⟨0, false⟩).cr.params.isSome = true ∧ 1 ≤ (slow 204086 ⟨0, false⟩).par.station.feederCount ∧
        (slow 204086 ⟨0, false⟩).operating = true ∧ (slow 204086 ⟨0, false⟩).bsc.reconstructed = true) ∧
      [(204086, (204086 : Tick)), (204082, 204082), (203256, 203256), (203252, 203252), (200000, 250001)].map
          (fun (p, t) => (next (.c0Capture ⟨t, full⟩) (slow p ⟨0, true⟩)).mu.latest.bind (·.f)) =
        [some 48999, some 49000, some 49199, some 49200, none] ∧
      (par.stage.f1.count ≤ 0 + 1 ∧ 1 + 1 < par.stage.f2.count ∨ 0 + 1 < par.stage.f2.count) ∧
      (par.port.f1.ufStage = Port.f1.num ∧ (slow 204086 ⟨0, false⟩).port .f1 = some (port .closed) ∧
        (slow 204086 ⟨0, false⟩).pulse (.feederTrip .f1) = .idle ∧
        (slow 204086 ⟨0, false⟩).level (.feederLocal .f1) ≠ .asserted ∧
        (slow 204086 ⟨0, false⟩).level (.feederCb .f1) ≠ .released) := by
  decide +kernel

/-- The restore band of 500 mHz at 50 Hz: f at 49,500 and 49,499, the flag and the timer as they may stand, and a dead bus. -/
theorem witness_StagesCountAndTrip_qualification :
    [202020, 202023].map (fun p => (next (.c0Capture ⟨BitVec.ofNat 32 p, full⟩) (slow p ⟨0, false⟩)).mu.latest.bind (·.f)) =
        [some 49500, some 49499] ∧
      ((slow 202020 ⟨0, false⟩).islandUp = true ∧ (slow 202020 ⟨0, false⟩).fl.qualTimer = .stopped ∧
        (slow 202020 ⟨0, false⟩).fl.qualified = false ∧ (next (.c0Capture ⟨202020, full⟩) (slow 202020 ⟨0, false⟩)).islandUp = true ∧
        cycling (slow 202020 ⟨0, false⟩) = true) ∧
      ((timed .restoreQual (slow 202020 ⟨0, false⟩)).fl.qualTimer.isRunning = true ∧ cycling (timed .restoreQual (slow 202020 ⟨0, false⟩)) = true) ∧
      (next (.c0Capture ⟨202020, full⟩) (measured 64 87 (slow 202020 ⟨0, false⟩))).bsc.island = some .deadWait := by
  decide +kernel

/-- The test station with a reserve that fits F2, qualified for a restore. -/
def restoring : State := seeing [peer7] { base with fl := { base.fl with qualified := true } }

/-- The conditions of R149 in COORDINATED, in AUTONOMOUS where F2 does not fit, and in RECOVER; the close refused; no qualification. -/
theorem witness_RestoreStepCloses :
    ([(Mode.coordinated, Island.live, 400), (.autonomous, .live, 800), (.coordinated, .recover, 400)].map (fun (mode, island, output) =>
        let s := { seeing [{ peer7 with output }] restoring with
          cr := { base.cr with mode }, bsc := { base.bsc with island := some island } }
        (s.runs && (s.timer .balance).expiry == some 5 && s.operating && s.islandUp && s.fl.qualified && s.fl.spacing == .stopped &&
            s.fl.swap == none && !s.latched && !s.closeInFlight && s.port .f2 == some (port .shed) &&
            s.level (.feederLocal .f2) != .asserted && s.level (.feederCb .f2) != .asserted &&
            s.pulse (.feederClose .f2) == .idle && s.pulse (.feederTrip .f2) == .idle && s.port .f1 == some (port .closed) &&
            s.level (.feederCb .f1) != .released,
          (next .balancePeriodExpiry s).be.figures.candidate == some ⟨1, 2, .shed, 3, 50, 150⟩,
          (next .balancePeriodExpiry s).be.figures.candidateFits, (next .balancePeriodExpiry s).portState .f2)) =
      [(true, true, true, some .closing), (true, true, false, some .shed), (true, true, true, some .closing)].map fun x =>
        if x.2.2.1 then x else (x.1, x.2.1, x.2.2.1, some .closing)) ∧
      restoring.cr.params.isSome = true ∧ 1 ≤ restoring.par.station.feederCount ∧
      (qualified (.feederLocal .f2) .asserted restoring).level (.feederLocal .f2) = .asserted ∧ base.fl.qualified = false := by
  decide +kernel

/-- F2 SHED for a rotation and ripe, F1 CLOSED and ripe, both rotating, with a reserve that does not fit F2. -/
def rotating : State :=
  let ripe (st : PortState) : PortRecord := { port st with ripe := true }
  seeing [{ peer7 with output := 800 }] { restoring with fl := { restoring.fl with
    ports := ⟨some (ripe .closed), some (ripe .shed), none, none⟩, queue := [.f1, .f2] } }

/-- A swap whose F1 opens, and one whose F2 closes, with each breaker due. -/
def swapping (step : SwapStep) : State :=
  let open1 : PortRecord := { port .opening with destination := some (.shed .rotation) }
  let (p1, p2) := match step with
    | .opening => (open1, port .shed)
    | .closing => (port .shed, port .closing)
  watching (.feeder .f1) .fl false (watching (.feeder .f2) .fl true (sampled (.feederCb .f1) false (sampled (.feederCb .f2) true
    { restoring with fl := { restoring.fl with ports := ⟨some p1, some p2, none, none⟩, swap := some ⟨.f1, .f2, step⟩ } })))

theorem witness_RestoreStepCloses_swap :
    (rotating.runs && (rotating.timer .balance).expiry == some 5 && rotating.fl.swap == none && rotating.cr.mode == .coordinated &&
        rotating.bsc.island == some .live && !rotating.latched && rotating.fl.qualified && rotating.fl.spacing == .stopped &&
        !rotating.closeInFlight && rotating.oldestRotating .shed == some .f2 && rotating.oldestRotating .closed == some .f1 &&
        rotating.isRipe .f1 && rotating.isRipe .f2 && rotating.level (.feederLocal .f1) != .asserted &&
        rotating.pulse (.feederTrip .f1) == .idle && rotating.level (.feederCb .f1) != .released) = true ∧
      ((next .balancePeriodExpiry rotating).be.figures.candidateFits = false ∧
        (next .balancePeriodExpiry rotating).fl.swap = some ⟨.f1, .f2, .opening⟩ ∧
        (pulsing (.feederTrip .f1) rotating).pulse (.feederTrip .f1) ≠ .idle) ∧
      (dueAt (swapping .opening) (.feederCb .f1) false && (swapping .opening).window (.feeder .f1) == .watching .fl false soon &&
        !(swapping .opening).closeInFlight && (swapping .opening).level (.feederCb .f2) != .asserted &&
        (swapping .opening).level (.feederLocal .f2) != .asserted && (swapping .opening).pulse (.feederClose .f2) == .idle) = true ∧
      (next (.inputQualified (.feederCb .f1)) (swapping .opening)).fl.swap = some ⟨.f1, .f2, .closing⟩ ∧
      (dueAt (swapping .closing) (.feederCb .f2) true && (swapping .closing).window (.feeder .f2) == .watching .fl true soon &&
        (swapping .closing).portState .f2 == some .closing) = true := by
  decide +kernel

theorem witness_IslandTimersExpire :
    ((timed .dead (engine .standby .deadWait)).due .dead 5 ∧ (timed .dead (engine .standby .deadWait)).bsc.island = some .deadWait ∧
        (timed .dead (engine .standby .deadWait)).operating = true ∧
        (timed .dead (engine .standby .deadWait)).ds.state = some .standby ∧
        (timed .dead (engine .standby .deadWait)).level .runFb ≠ .asserted ∧
        (timed .dead (engine .standby .deadWait)).port .f1 = some (port .closed) ∧
        (timed .dead (engine .standby .deadWait)).level (.feederLocal .f1) ≠ .asserted ∧
        (timed .dead (engine .standby .deadWait)).level (.feederCb .f1) ≠ .released ∧
        (timed .dead (engine .standby .deadWait)).pulse (.feederTrip .f1) = .idle) ∧
      ((timed .dead (engine .online .deadWait)).due .dead 5 ∧ (timed .dead (engine .online .deadWait)).ds.state = some .online) ∧
      (solar2.sc.state.isSome = true ∧ { base with cr := { base.cr with mode := .service } }.operating = false) ∧
      ((timed .recover { f1 .blackOpen with bsc := { base.bsc with island := some .recover } }).due .recover 5 ∧
        (timed .recover { f1 .blackOpen with bsc := { base.bsc with island := some .recover } }).bsc.island = some .recover ∧
        (f1 .blackOpen).port .f1 = some (port .blackOpen) ∧ (f1 .blackOpen).portState .f2 ≠ some .blackOpen) := by
  unfold State.due
  decide +kernel

/-- At DARK: a CLOSING port on an open breaker, one whose trip pulse still runs, an OPENING and a SHED one; and a set in INTENT. -/
theorem witness_IslandTimersExpire_ports :
    [(PortState.closing, false), (.closed, true), (.opening, false), (.shed, false)].map (fun (st, running) =>
      let s := timed .dead (qualified (.feederCb .f1) .released { f1 st with
        bsc := { base.bsc with island := some .deadWait }, ds := { base.ds with state := some .intent } })
      let s := if running then pulsing (.feederTrip .f1) s else s
      let u := next .deadTimerExpiry s
      (s.runs && (s.timer .dead).expiry == some 5 && s.operating && s.port .f1 == some (port st) && s.ds.state == some .intent &&
          (s.pulse (.feederTrip .f1)).isActive == running && s.level (.feederLocal .f1) != .asserted,
        u.portState .f1, (u.port .f1).bind (·.tripOwed), u.ds.state)) =
      [(true, some .blackOpen, none, some .crank), (true, some .closed, some .blackOpen, some .crank),
        (true, some .opening, none, some .crank), (true, some .shed, none, some .crank)] := by
  decide +kernel

/-- The test station with F1 in a state, an island state and an origin, at a cycle of so many volts after a bus condition. -/
def following (st : PortState) (i : Island) (o : Origin) (before : Condition) (v : Nat) : State :=
  measured 64 v { f1 st with
    mu := { base.mu with busCondition := before }
    bsc := { base.bsc with island := some i, origin := o } }

/-- Both sides of the dead and of the live level, with a BLACK-OPEN port and without, at a capture and at the synthetic timeout. -/
theorem witness_IslandFollowsBus :
    [(PortState.blackOpen, Island.live, Origin.live, Condition.live, 87), (.blackOpen, .recover, .live, .live, 87),
        (.closed, .deadWait, .live, .dead, 313), (.blackOpen, .deadWait, .recover, .dead, 313), (.closed, .deadWait, .recover, .dead, 313),
        (.blackOpen, .dark, .live, .dead, 313), (.closed, .live, .live, .live, 88), (.closed, .dark, .live, .dead, 312)].map
      (fun (st, i, o, b, v) =>
        let s := following st i o b v
        (cycling s && s.bsc.reconstructed && (i != .recover || !s.noBlackOpen),
          (next (.c0Capture ⟨9, full⟩) s).mu.latest.map (·.busCondition),
          (next .syntheticTimeoutExpiry s).mu.latest.map (·.busCondition))) =
      [(true, some .dead, some .dead), (true, some .dead, some .dead), (true, some .live, some .live), (true, some .live, some .live),
        (true, some .live, some .live), (true, some .live, some .live), (true, some .live, some .live), (true, some .dead, some .dead)] := by
  decide +kernel

/-- A contest in each phase before a win, at a record that finds the bus LIVE and at one that does not. -/
theorem witness_IslandFollowsBus_session :
    [(PermitPhase.waiting, 313), (.start, 313), (.bits, 313), (.bits, 87)].map (fun (phase, v) =>
      let m := measured 64 313 { following .blackOpen .dark .live .dead v with
        bsc := (contest phase true 3 35 .dead).bsc, ds := (contest phase true 3 35 .dead).ds }
      let s := { m with mu := { m.mu with cycle := { m.mu.cycle with vBus2 := 64 * v * v } } }
      let u := next (.c0Capture ⟨9, full⟩) s
      (cycling s && s.bsc.reconstructed && s.permitPhase == phase && s.ds.state == some .arbitrate && 2 ≤ s.par.diesel.syncCount &&
          s.level .runFb != .released, u.mu.latest.map (fun r => (r.busCondition, r.srcCondition == .dead)), u.permitPhase)) =
      [(true, some (.live, false), .idle), (true, some (.live, false), .idle), (true, some (.live, false), .idle),
        (true, some (.dead, false), .bits)] := by
  decide +kernel

/-- The test station after so many records with F2 SHED, its retention record as given. -/
def rebuilding (records : Nat) (valid taken was : Bool) (v : Nat) : State :=
  measured 64 v { base with
    bsc := { base.bsc with island := some .deadWait, reconstructed := false, records }
    ret := { Retention.cleared with valid, darkTaken := taken, wasClosed := .all was } }

/-- The rows of R183: the third record, and the fourth on a live and on a dead bus with the retention record in each condition. -/
theorem witness_IslandFollowsBus_reconstruction :
    [(2, true, true, true, 313), (3, true, true, true, 313), (3, true, true, false, 313), (3, true, false, true, 313),
        (3, false, false, true, 313), (3, true, true, true, 0), (3, true, false, true, 0), (3, false, false, false, 0)].map
      (fun (n, valid, taken, was, v) =>
        let s := rebuilding n valid taken was v
        (cycling s && !s.bsc.reconstructed && s.bsc.island == some .deadWait && s.bsc.records == n && s.portState .f2 == some .shed,
          (next (.c0Capture ⟨9, full⟩) s).bsc.island, (next (.c0Capture ⟨9, full⟩) s).portState .f2)) =
      [(true, some .deadWait, some .shed), (true, some .recover, some .blackOpen), (true, some .live, some .shed),
        (true, some .live, some .shed), (true, some .live, some .shed), (true, some .dark, some .blackOpen),
        (true, some .dark, some .shed), (true, some .dark, some .blackOpen)] := by
  decide +kernel

/-! ### Witnesses: configuration, retention and the maintenance port -/

/-- The bytes 0 to 253 of a configuration record of a GENSET station at 50 Hz with one feeder; every other byte is 0. -/
def body : List Byte :=
  [1, 1, 50, 3] ++ List.replicate 12 0 ++ [1, 5] ++ List.replicate 55 0 ++ [5, 1] ++ List.replicate 55 0 ++ [3, 12] ++
    List.replicate 122 0

/-- The record, and one whose stored CRC is disturbed. -/
def record : List Byte := body ++ crcBytes body
def spoilt : List Byte := body ++ (crcBytes body).map (~~~ ·)

theorem body_length : body.length = 254 := by decide +kernel

theorem sealed_crc {l : List Byte} (h : l.length = 254) :
    (l ++ crcBytes l).take 254 = l ∧ recordCrcOk (l ++ crcBytes l) = true ∧
      recordCrcOk (l ++ (crcBytes l).map (~~~ ·)) = false := by
  have ne (x : Byte) : x ≠ ~~~x := fun e => by simpa using congrArg (·.getLsbD 0) e
  simp [recordCrcOk, h, crcBytes, bytesBE, ne]

theorem record_take : record.take 254 = body := (sealed_crc body_length).1

theorem record_structure : structureOk (clampField record feederCountRange) = true := by decide +kernel

theorem record_valid : recordValid record = true := by
  unfold recordValid
  rw [record_structure, Bool.and_true]
  exact (sealed_crc body_length).2.1

theorem spoilt_invalid : recordValid spoilt = false := by
  unfold recordValid
  rw [Bool.and_eq_false_iff]
  exact .inl (sealed_crc body_length).2.2

/-- The station at its start-up load with a sector. -/
def starting (sector : List Byte) : State := { State.reset with cr := { State.reset.cr with sector } }

/-- The station at its start-up load with every input settled, the RUN latch and the lockout as retained. -/
def settled (sector : List Byte) (run lockout : Bool) (runFb srcCb inhibit : InputLevel) : State :=
  let x : Qualifier := ⟨.released, none, 0, false⟩
  { starting sector with
    tac := { State.reset.tac with inputs := ⟨{ x with level := srcCb }, { x with level := runFb }, { x with level := inhibit }, x, .all x, .all x⟩ }
    ret := { Retention.cleared with run, lockout } }

theorem witness_LoadStartsStation :
    ([starting spoilt, starting record].all (fun s =>
        s.phase == .running && s.cr.mode == .startup && !s.cr.loaded && s.ilc.transmitter == .disabled && !s.allSettled) = true ∧
      [(true, false, InputLevel.asserted, InputLevel.asserted), (true, false, .asserted, .released), (true, false, .released, .asserted),
        (false, false, .released, .released), (true, true, .asserted, .asserted)].all (fun (run, lockout, fb, cb) =>
        let s := settled record run lockout fb cb .released
        s.phase == .running && s.cr.mode == .startup && !s.cr.loaded && s.ilc.transmitter == .disabled && s.allSettled &&
          !s.ilc.conflict && s.ret.lockout == lockout && s.ret.run == run && s.level .runFb == fb && s.level .srcCb == cb) = true) ∧
      (recordValid spoilt = false ∧ recordValid record = true) ∧
      (Params.ofRecord (clampRecord record)).station.role = .genset ∧ (Params.ofRecord (clampRecord record)).station.feederCount = 1 := by
  refine ⟨by decide +kernel, ⟨spoilt_invalid, record_valid⟩, by decide +kernel⟩

/-- The test station with a working copy, the CRC kept for it, a sector and a commit status. -/
def keeping (crc : BitVec 16) (sector : List Byte) (commit : CommitStatus) : State :=
  { base with cr := { base.cr with sector, working := some record, workingCrc := crc, commit } }

theorem witness_SectorAndCopyAreChecked :
    ((keeping (crc16 body) record .idle).due .integrity 5 ∧ (keeping (crc16 body) record .idle).cr.working = some record ∧
        crc16 (record.take 254) = crc16 body ∧ crc16 (record.take 254) ≠ crc16 body + 1) ∧
      ((keeping 0 record .running).cr.commit = .running ∧ (keeping 0 record .idle).cr.commit ≠ .running ∧
        recordValid record = true ∧ recordValid spoilt = false ∧ (keeping 0 spoilt .idle).cr.mode ≠ .fault) ∧
      (keeping 0 record .running).phase = .running ∧ (keeping 0 record .running).cr.reloadDue = false := by
  refine ⟨⟨⟨rfl, rfl⟩, rfl, by rw [record_take], ?_⟩, ⟨rfl, by simp [keeping], record_valid, spoilt_invalid, by simp [keeping, base]⟩,
    rfl, rfl⟩
  rw [record_take]
  simp

/-- A reload due at a commit's end, with a staging buffer that is a valid record and with one that is not. -/
theorem witness_SectorAndCopyAreChecked_reload :
    let s (buffer : List Byte) : State := { base with
      cr := { base.cr with commit := .running, reloadDue := true }, mp := { base.mp with staging := buffer } }
    ((s record).phase = .running ∧ (s record).cr.commit = .running ∧ (s record).cr.reloadDue = true ∧ (s record).cr.mode ≠ .fault) ∧
      recordValid (s record).mp.staging = true ∧ recordValid (s spoilt).mp.staging = false :=
  ⟨⟨rfl, rfl, rfl, by simp [base]⟩, record_valid, spoilt_invalid⟩

/-- SERVICE due as released during a commit, with and without a reload due. -/
theorem witness_SectorAndCopyAreChecked_abandoned :
    [false, true].all (fun due =>
      let s := sampled .service false { base with cr := { base.cr with mode := .service, commit := .running, reloadDue := due } }
      dueAt s .service false && s.cr.commit == .running && s.cr.mode == .service && s.cr.reloadDue == due) = true := by
  decide +kernel

/-- The last byte of a sector, the last of the calibration sector, and one past each. -/
theorem witness_ReadsAreAnswered :
    (base.phase = .running ∧ base.mp.response = none ∧ base.mp.discarding = false ∧ base.address = 1) ∧
      { base with mp := { base.mp with discarding := true } }.mp.discarding = true ∧
      ((33 : Byte).toNat > 32 ∧ (7 : Byte) ≠ 0 ∧ (7 : Byte).toNat ≤ 32 ∧ (7 : Byte).toNat ≠ base.address ∧
        base.pv.entry 7 = none ∧ (seeing [peer7] base).pv.entry 7 = some peer7) ∧
      ((2 : Byte).toNat ≤ 2 ∧ (25 : Byte).toNat + (1 : Byte).toNat ≤ 26 ∧ 26 < (26 : Byte).toNat + (1 : Byte).toNat ∧
        (255 : Byte).toNat + (1 : Byte).toNat ≤ 256 ∧ 256 < (255 : Byte).toNat + (2 : Byte).toNat ∧ 64 < (65 : Byte).toNat) ∧
      (¬ ([(7 : Byte)].length = (2 : Byte).toNat ∧ (2 : Byte).toNat ≤ 38) ∧
        ¬ ((List.replicate 39 (7 : Byte)).length = (39 : Byte).toNat ∧ (39 : Byte).toNat ≤ 38)) ∧
      { base with mp := { base.mp with response := some [0xA3] } }.mp.response ≠ none ∧
      { base with mp := { base.mp with response := some [0xA3] } }.mp.waiting = none ∧
      { base with mp := { base.mp with response := some [0xA3], waiting := some .commit } }.mp.waiting ≠ none := by
  decide +kernel

/-- The test station in a mode with a commit status and a staging buffer. -/
def staging (mode : Mode) (commit : CommitStatus) (buffer : List Byte) : State :=
  { base with cr := { base.cr with mode, commit }, mp := { base.mp with staging := buffer } }

theorem witness_WritesAndCommitsAreJudged :
    ((staging .service .idle record).phase = .running ∧ (staging .service .idle record).mp.response = none ∧
        (staging .service .idle record).mp.discarding = false ∧ [(7 : Byte)].length = (1 : Byte).toNat ∧ (1 : Byte).toNat ≤ 38) ∧
      ¬ (base.cr.mode = .service ∨ base.cr.mode = .fault ∧ base.level .service = .asserted) ∧
      ((staging .service .running record).cr.mode = .service ∧ (staging .service .running record).cr.commit = .running) ∧
      (¬ ((1 : Byte) = 0 ∨ 32 < (1 : Byte).toNat ∨ 256 < (255 : Byte).toNat + (1 : Byte).toNat) ∧
        256 < (255 : Byte).toNat + (2 : Byte).toNat ∧ (List.replicate 33 (7 : Byte)).length = (33 : Byte).toNat) ∧
      ((staging .service .idle record).mp.staging.length = 256 ∧ recordValid (staging .service .idle record).mp.staging = true) ∧
      recordValid (staging .service .idle spoilt).mp.staging = false := by
  refine ⟨by decide +kernel, by decide +kernel, by decide +kernel, by decide +kernel, ⟨by decide +kernel, record_valid⟩,
    spoilt_invalid⟩

theorem witness_LockoutAndRestartAreJudged :
    ([(DieselState.standby, InputLevel.released), (.failed, .asserted), (.failed, .released)].all (fun (st, cb) =>
        let s := qualified .srcCb cb (diesel st .stopped)
        s.phase == .running && s.mp.response == none && !s.mp.discarding && s.par.station.role == .genset && s.ds.state == some st &&
          s.level .srcCb == cb && s.bsc.island != some .dark && s.cr.commit != .running) = true ∧
      solar2.par.station.role ≠ .genset ∧ (staging .service .running record).cr.commit = .running) ∧
      [(some [0xA3], false, none), (some [0xA3], false, some Request.readFigures), (some [0xA3], true, none)].all
        (fun (x : Option (List Byte) × Bool × Option Request) =>
          let s : State := { base with mp := { base.mp with response := x.1, restartAfter := x.2.1, waiting := x.2.2 } }
          s.phase == .running && s.mp.response != none && s.mp.restartAfter == x.2.1 && s.mp.waiting == x.2.2) = true ∧
      base.ret.intact = true := by
  decide +kernel

/-- A request without a payload, with one of a character, and with the longest that the codes allow, as their characters read behind a
0xA3 with a framing error and before another character; cut short after the 0xA3 and after the code; and no 0xA3 at all. -/
theorem test_requests_read_back :
    [Request.commit, .readPeer 0xA3, .writeConfig 0 38 (List.replicate 38 0xA3)].map (fun r =>
        readRequest (⟨0xA3, true⟩ :: cleanBurst (requestChars r) ++ [⟨7, true⟩])) =
      [Request.commit, .readPeer 0xA3, .writeConfig 0 38 (List.replicate 38 0xA3)].map (fun r => some (r, [⟨7, true⟩])) ∧
      [[⟨0xA3, false⟩], [⟨0xA3, false⟩, ⟨7, false⟩], [⟨0xA3, true⟩]].map readRequest =
        [some (.malformed 0, []), some (.malformed 7, []), none] := by
  decide +kernel

/-- A further request that is coming in when a waiting one is judged is discarded, and the one after it is not (R185). -/
theorem test_request_begun_in_occupied_buffer :
    let s : State := { base with mp := { base.mp with response := some [0xA3], waiting := some .readFigures } }
    let u := next (.commit 20) (next (.responseSent ⟨10, true⟩) s)
    (u.mp.waiting, u.mp.discarding, (next (.commit 30) u).mp.waiting) = (none, false, some .commit) := by
  decide +kernel

/-! ### Witnesses: what every step keeps -/

/-- The test station with its ports retained and the balance period's end in front of its queue. -/
def retained : State :=
  { base with
    ret := { Retention.cleared with ports := ⟨some (.closed, none), some (.shed, some .deficit), none, none⟩ }
    pending := [.balancePeriodExpiry] }

/-- What the test station does at its next step. -/
theorem retained_steps : step retained = .next (next .balancePeriodExpiry { retained with pending := [] }) := rfl

theorem witness_PairsStayExclusive : retained.pairsExclusive := by
  intro b
  cases b with
  | source =>
    unfold State.pairExclusive
    decide +kernel
  | feeder p => cases p <;> unfold State.pairExclusive <;> decide +kernel

theorem witness_OutputsStayHeld : retained.outputsFollow ∧ retained.capHeld := by
  unfold State.outputsFollow State.capHeld
  decide +kernel

theorem witness_TablesStayFormed : (seeing [peer7] retained).tableFormed ∧ retained.windowsOk ∧ retained.generatorOk := by
  refine ⟨tableFormed_peer7 true rfl rfl rfl, ?_⟩
  unfold State.windowsOk windowOk State.generatorOk
  decide +kernel

theorem witness_CausesStayShown : retained.causesShown ∧ retained.failedLocked := by
  unfold State.causesShown State.failedLocked
  decide +kernel

theorem witness_SenderStaysEnabledByMode : retained.senderFollows := by
  unfold State.senderFollows
  decide +kernel

theorem witness_SessionStaysFormed : retained.sessionFormed := by
  unfold State.sessionFormed
  decide +kernel

theorem witness_PortsStayShown : retained.portsShown := by
  refine ⟨fun p r h => ?_, fun p => ?_⟩
  · cases p <;> cases h <;> decide +kernel
  · cases p <;> decide +kernel

theorem witness_FeederClosesStaySingle :
    retained.oneCloseInFlight ∧
      step { restoring with pending := [.balancePeriodExpiry] } = .next (next .balancePeriodExpiry restoring) ∧
      (restoring.pulse (.feederClose .f2)).isActive = false ∧
      ((next .balancePeriodExpiry restoring).pulse (.feederClose .f2)).isActive = true := by
  refine ⟨fun p q x y h h' => ?_, rfl, by decide +kernel, by decide +kernel⟩
  cases p <;> cases q <;> cases h <;> cases h' <;> decide +kernel

/-- The last good cycle in SYNC, and the won contest on a dead bus. -/
theorem witness_SourceClosesNeedLiveBusOrWin :
    ((synchronising 7).level .srcCb ≠ .asserted ∧
        step { synchronising 7 with pending := [.c0Capture ⟨200000, full⟩] } = .next (next (.c0Capture ⟨200000, full⟩) (synchronising 7)) ∧
        ((synchronising 7).pulse .srcClose).isActive = false ∧
        ((next (.c0Capture ⟨200000, full⟩) (synchronising 7)).pulse .srcClose).isActive = true) ∧
      ((contest .bits true 9 34 .dead).level .srcCb ≠ .asserted ∧
        step { contest .bits true 9 34 .dead with pending := [.slotTimerExpiry false] } =
          .next (next (.slotTimerExpiry false) (contest .bits true 9 34 .dead)) ∧
        ((contest .bits true 9 34 .dead).pulse .srcClose).isActive = false ∧
        ((next (.slotTimerExpiry false) (contest .bits true 9 34 .dead)).pulse .srcClose).isActive = true) := by
  refine ⟨⟨by decide +kernel, rfl, by decide +kernel, by decide +kernel⟩, by decide +kernel, rfl, by decide +kernel, by decide +kernel⟩

end Sys2Proof.Tests
end

section
/-! SUPPORT. The measurement unit at a boundary: the arithmetic of frequencies and angles, the record that a closing cycle leaves and
what a boundary's command makes of the unit; and with them the statements on the voltage conditions (R12) and on the predicted phase
(R17, R18). -/

namespace Sys2Proof.Machine

/-! ### Rounding -/

/-- Rounding takes no account of the sign. -/
theorem natAbs_roundDiv (a : Int) (d : Nat) : (roundDiv a d).natAbs = (2 * a.natAbs + d) / (2 * d) := by
  unfold roundDiv
  split
  · exact Int.natAbs_natCast _
  · rw [Int.natAbs_neg, Int.natAbs_natCast]

theorem roundDiv_nonneg {a : Int} (d : Nat) (h : 0 ≤ a) : 0 ≤ roundDiv a d := by
  rw [roundDiv, if_pos h]
  exact Int.natCast_nonneg _

/-- A rounded quotient stays below a bound that half a unit more than it does not reach. -/
theorem natAbs_roundDiv_le {a : Int} {d m : Nat} (h : 2 * a.natAbs < (2 * m + 1) * d) : (roundDiv a d).natAbs ≤ m := by
  rw [natAbs_roundDiv, ← Nat.lt_add_one_iff]
  exact Nat.div_lt_of_lt_mul (by linarith)

/-- The rounded quotient of natural numbers lies in a range whose ends, half a unit wider, hold the quotient. -/
theorem roundDiv_toNat_mem {n d lo hi : Nat} (hd : 0 < d) (hlo : 2 * lo * d ≤ 2 * n + d) (hhi : 2 * n < (2 * hi + 1) * d) :
    lo ≤ (roundDiv n d).toNat ∧ (roundDiv n d).toNat ≤ hi := by
  have hge := roundDiv_nonneg d (Int.natCast_nonneg n)
  have habs := natAbs_roundDiv n d
  have hle := natAbs_roundDiv_le (a := n) hhi
  have hlow : lo ≤ (2 * n + d) / (2 * d) := (Nat.le_div_iff_mul_le (by omega)).2 (by linarith)
  rw [Int.natAbs_natCast] at habs
  rw [← habs] at hlow
  omega

/-! ### Frequencies of valid periods (R10, R13, R14) -/

theorem periodInBand_iff (p : Nat) : periodInBand p = true ↔ 142857 ≤ p ∧ p ≤ 250000 := by simp [periodInBand]

/-- A sum lies between as many times the bounds of its terms as it has terms. -/
theorem sumBy_mem {α : Type} {f : α → Nat} {lo hi : Nat} {l : List α} (h : ∀ a ∈ l, lo ≤ f a ∧ f a ≤ hi) :
    lo * l.length ≤ sumBy f l ∧ sumBy f l ≤ hi * l.length := by
  induction l with
  | nil => simp [sumBy]
  | cons a l ih =>
    have ha := h a (by simp)
    have hl := ih fun b hb => h b (by simp [hb])
    have hsum : sumBy f (a :: l) = f a + sumBy f l := rfl
    rw [hsum, List.length_cons, Nat.mul_add_one, Nat.mul_add_one]
    omega

theorem cycleFrequency_mem {p : Nat} (h : periodInBand p = true) : 40000 ≤ cycleFrequency p ∧ cycleFrequency p ≤ 70000 := by
  rw [periodInBand_iff] at h
  exact roundDiv_toNat_mem (n := 10000000000) (by omega) (by omega) (by omega)

/-- A window gives a frequency with four periods and no fewer. -/
theorem windowFrequency_eq_some {w : List Nat} {f : Nat} (h : windowFrequency w = some f) :
    w.length = 4 ∧ f = (roundDiv 40000000000 (sumBy id w)).toNat := by
  unfold windowFrequency at h
  split at h
  · exact ⟨‹_›, (Option.some.inj h).symm⟩
  · cases h

theorem windowFrequency_mem {w : List Nat} {f : Nat} (hw : windowOk w) (h : windowFrequency w = some f) :
    40000 ≤ f ∧ f ≤ 70000 := by
  obtain ⟨hlen, rfl⟩ := windowFrequency_eq_some h
  have hsum := sumBy_mem (f := id) hw.2
  rw [hlen] at hsum
  exact roundDiv_toNat_mem (n := 40000000000) (by omega) (by omega) (by omega)

/-- A valid period pushed onto a window of valid periods leaves one. -/
theorem windowOk_pushPeriod {w : List Nat} {p : Nat} (hw : windowOk w) (hp : periodInBand p = true) :
    windowOk (pushPeriod w p) := by
  refine ⟨by simp [pushPeriod]; omega, fun q hq => ?_⟩
  have hmem := List.mem_of_mem_drop hq
  rcases List.mem_append.1 hmem with h | h
  · exact hw.2 q h
  · rw [List.mem_singleton.1 h]
    exact (periodInBand_iff p).1 hp

theorem windowOk_nil : windowOk [] := ⟨by simp, by simp⟩

/-- Closing a cycle keeps the window one of valid periods, whatever the cycle's period. -/
theorem windowOk_windowAfter {w : List Nat} (hw : windowOk w) (period : Option Nat) : windowOk (windowAfter w period) := by
  cases period with
  | none => exact windowOk_nil
  | some p =>
    unfold windowAfter
    dsimp only
    split
    · exact windowOk_pushPeriod hw ‹_›
    · exact windowOk_nil

/-! ### Angles (R17, R18) -/

theorem wrapPhase_mem (x : Int) : -1800 ≤ wrapPhase x ∧ wrapPhase x ≤ 1799 := by
  unfold wrapPhase
  omega

/-- Mapping an angle adds whole turns to it. -/
theorem exists_wrapPhase_eq (x : Int) : ∃ k : Int, wrapPhase x = x + 3600 * k :=
  ⟨-((x + 1800) / 3600), by unfold wrapPhase; omega⟩

/-- The fraction of a period that has passed, in tenths of a degree, is less than a whole turn. -/
theorem syncPhase_mem (delta : Nat) {pBus : Nat} (h : 0 < pBus) : -1800 ≤ syncPhase delta pBus ∧ syncPhase delta pBus ≤ 1799 := by
  have hturn : delta % pBus * 3600 / pBus < 3600 :=
    Nat.div_lt_of_lt_mul (Nat.mul_lt_mul_of_pos_right (Nat.mod_lt _ h) (by decide))
  unfold syncPhase
  generalize delta % pBus * 3600 / pBus = raw at hturn ⊢
  dsimp only
  split <;> omega

/-- At a slip of at most 30,000 mHz and a close time of at most 500 ms the phase advances by 54,000 at most, fifteen turns. -/
theorem natAbs_advance_le {slip : Int} {closeMs : Nat} (hs : slip.natAbs ≤ 30000) (hc : closeMs ≤ 500) :
    (roundDiv (slip * closeMs * 3600) 1000000).natAbs ≤ 54000 := by
  apply natAbs_roundDiv_le
  have hprod : slip.natAbs * closeMs ≤ 30000 * 500 := Nat.mul_le_mul hs hc
  have habs : (slip * closeMs * 3600).natAbs = slip.natAbs * closeMs * 3600 := by
    rw [Int.natAbs_mul, Int.natAbs_mul, Int.natAbs_natCast]
    rfl
  omega

/-! ### The synchronising record -/

/-- The close time by which the phase is predicted: the breaker's at a GENSET, 0 at any other station (R18). -/
def State.syncCloseMs (s : State) : Nat := if s.par.station.role = .genset then s.par.diesel.breakerClose else 0

/-- A boundary carries a synchronising record exactly at a capture with both frequencies, a source capture and a period. -/
theorem cycleSync_capture_iff (s : State) (t : Tick) (w : List Nat) (x : SyncRecord) :
    cycleSync s t .capture w = some x ↔ ∃ f fSrc tSrc pBus, windowFrequency w = some f ∧ s.mu.fSrc = some fSrc ∧
      s.mu.lastSrc = some tSrc ∧ w.getLast? = some pBus ∧ x = syncRecord t tSrc pBus f fSrc s.syncCloseMs := by
  unfold cycleSync State.syncCloseMs
  cases windowFrequency w <;> cases s.mu.fSrc <;> cases s.mu.lastSrc <;> cases w.getLast? <;> simp [eq_comm]

/-- With valid periods in both windows, the slip, the phase and the predicted phase lie in their ranges (R17, R18). -/
theorem cycleSync_mem {s : State} {t : Tick} {w : List Nat} {x : SyncRecord} (hw : windowOk w) (hsrc : windowOk s.mu.srcWindow)
    (h : cycleSync s t .capture w = some x) :
    (-30000 ≤ x.slip ∧ x.slip ≤ 30000) ∧ (-1800 ≤ x.phase ∧ x.phase ≤ 1799) ∧ -1800 ≤ x.predicted ∧ x.predicted ≤ 1799 := by
  obtain ⟨f, fSrc, tSrc, pBus, hf, hfSrc, -, hlast, rfl⟩ := (cycleSync_capture_iff s t w x).1 h
  have hfr := windowFrequency_mem hw hf
  have hfrSrc := windowFrequency_mem hsrc hfSrc
  have hpos : 0 < pBus := by
    have := hw.2 pBus (List.mem_of_getLast? hlast)
    omega
  refine ⟨?_, syncPhase_mem _ hpos, wrapPhase_mem _⟩
  simp only [syncRecord]
  omega

/-- The predicted phase is the phase and the advance of the close time, and whole turns (R18). -/
theorem exists_predicted_eq {s : State} {t : Tick} {w : List Nat} {x : SyncRecord} (h : cycleSync s t .capture w = some x) :
    ∃ k : Int, x.predicted = x.phase + roundDiv (x.slip * s.syncCloseMs * 3600) 1000000 + 3600 * k := by
  obtain ⟨f, fSrc, tSrc, pBus, -, -, -, -, rfl⟩ := (cycleSync_capture_iff s t w x).1 h
  exact exists_wrapPhase_eq _

/-- The phase of a synchronising record, in the whole numbers of R17. -/
theorem syncPhase_eq (delta pBus : Nat) :
    syncPhase delta pBus = (let raw : Int := (delta : Int) % pBus * 3600 / pBus
      if raw ≤ 1799 then raw else raw - 3600) := by
  have hcast : (delta : Int) % pBus * 3600 / pBus = (delta % pBus * 3600 / pBus : Nat) := by push_cast; rfl
  unfold syncPhase
  rw [hcast]
  generalize delta % pBus * 3600 / pBus = raw
  dsimp only
  split <;> split <;> omega

/-! ### The conditions (R12) -/

/-- The three rows of R12's table, for a dead level below the live level. -/
theorem nextCondition_table {dead live : Nat} (before : Condition) (v nominal : Nat) (h : dead < live) :
    (32 * v < (2 * dead + 1) * nominal → nextCondition before v nominal dead live = .dead) ∧
    ((2 * dead + 1) * nominal ≤ 32 * v → 32 * v < (2 * live + 1) * nominal →
      nextCondition before v nominal dead live = if before = .live then .live else .dead) ∧
    ((2 * live + 1) * nominal ≤ 32 * v → nextCondition before v nominal dead live = .live) := by
  have hlevels : (2 * dead + 1) * nominal ≤ (2 * live + 1) * nominal := Nat.mul_le_mul_right _ (by omega)
  unfold nextCondition
  refine ⟨fun hd => if_pos hd, fun hd hl => ?_, fun hl => ?_⟩
  · rw [if_neg (by omega), if_pos hl]
  · rw [if_neg (by omega), if_neg (by omega)]

/-- A short cycle leaves both conditions as they are (R8, R12). -/
theorem cycleRecord_conditions_of_short {s : State} (t : Tick) (kind : BoundaryKind) (h : s.mu.cycle.n < 32) :
    (cycleRecord s t kind).busCondition = s.mu.busCondition ∧ (cycleRecord s t kind).srcCondition = s.mu.srcCondition := by
  simp [cycleRecord, unlessShort, Cycle.short, h]

/-- A cycle that is not short forms both RMS values and from them both conditions (R9, R12). -/
theorem cycleRecord_conditions {s : State} (t : Tick) (kind : BoundaryKind) (h : 32 ≤ s.mu.cycle.n) :
    ∃ vBus vSrc, (cycleRecord s t kind).busRms = some vBus ∧ (cycleRecord s t kind).srcRms = some vSrc ∧
      (cycleRecord s t kind).busCondition =
        nextCondition s.mu.busCondition vBus s.par.station.nominalV s.par.black.deadLevel s.par.black.liveLevel ∧
      (cycleRecord s t kind).srcCondition =
        nextCondition s.mu.srcCondition vSrc s.par.station.nominalV s.par.black.deadLevel s.par.black.liveLevel := by
  have hlong : s.mu.cycle.short = false := by simp [Cycle.short, h]
  refine ⟨rmsVolts s.mu.cycle.vBus2 s.mu.cycle.n s.par.station.kv, rmsVolts s.mu.cycle.vSrc2 s.mu.cycle.n s.par.station.kv,
    ?_, ?_, ?_, ?_⟩ <;> simp [cycleRecord, unlessShort, hlong]

/-! ### The command of a boundary -/

/-- The readers of a record leave the measurement unit as it is. -/
theorem handRecord_mu (s : State) : (handRecord s).mu = s.mu := by
  apply kept_mu
  unfold handRecord
  split <;> simp

theorem muBoundary_mu (t : Tick) (kind : BoundaryKind) (s : State) : (muBoundary t kind s).mu = (muCloseCycle t kind s).mu :=
  handRecord_mu _

/-- A capture on V_BUS closes the open cycle of the state before it: the stamp and the comparator's output do not enter the record. -/
theorem exec_c0Capture_closes {s : State} {t : Tick} {x : Swing} (hrun : s.runs = true) (hstart : s.mu.started = true)
    (hcap : s.busCapture x = true) :
    ∃ u, exec (.c0Capture ⟨t, x⟩) s = .next u ∧ u.mu = (muCloseCycle t .capture s).mu := by
  refine ⟨muBoundary t .capture { s.stamp t with tac := { s.tac with c0High := true } }, ?_, muBoundary_mu _ _ _⟩
  change execC0Capture ⟨t, x⟩ s = _
  rw [execC0Capture, whileRunning_runs _ hrun]
  simp [hcap, hstart]

/-- The synthetic timeout's expiry closes the open cycle of the state before it: the stopped timer does not enter the record. -/
theorem exec_syntheticTimeoutExpiry_closes {s : State} {t : Tick} (hrun : s.runs = true)
    (hdue : s.mu.synthetic.expiry = some t) :
    ∃ u, exec .syntheticTimeoutExpiry s = .next u ∧ u.mu = (muCloseCycle t .synthetic s).mu :=
  ⟨_, onExpiry_due (id := .synthetic) _ hrun hdue, muBoundary_mu _ _ _⟩

/-- Whatever closes the cycle, the unit is left as its closing leaves it. -/
theorem State.closesCycle_next {s : State} {c : Instr} {t : Tick} (h : s.closesCycle c t) :
    ∃ kind u, exec c s = .next u ∧ u.mu = (muCloseCycle t kind s).mu := by
  obtain ⟨hrun, hstart, ⟨x, rfl, hcap⟩ | ⟨rfl, hdue⟩⟩ := h
  · exact ⟨.capture, exec_c0Capture_closes hrun hstart hcap⟩
  · exact ⟨.synthetic, exec_syntheticTimeoutExpiry_closes hrun hdue⟩

/-- A cycle that a capture's command closes leaves the unit as the closing by a capture does. -/
theorem State.closesCycle_capture {s u : State} {t : Tick} {x : Swing} (h : s.closesCycle (.c0Capture ⟨t, x⟩) t)
    (hu : exec (.c0Capture ⟨t, x⟩) s = .next u) : u.mu = (muCloseCycle t .capture s).mu := by
  obtain ⟨hrun, hstart, ⟨y, hy, hcap⟩ | ⟨hc, -⟩⟩ := h
  · cases hy
    obtain ⟨v, hv, hmu⟩ := exec_c0Capture_closes (t := t) hrun hstart hcap
    cases hu.symm.trans hv
    exact hmu
  · cases hc

/-- The window that a capture at `t` leaves. -/
def State.capturedWindow (s : State) (t : Tick) : List Nat := windowAfter s.mu.window (closingPeriod .capture s.mu.capRef t)

theorem cycleRecord_f (s : State) (t : Tick) : (cycleRecord s t .capture).f = windowFrequency (s.capturedWindow t) := rfl
theorem cycleRecord_sync (s : State) (t : Tick) :
    (cycleRecord s t .capture).sync = cycleSync s t .capture (s.capturedWindow t) := rfl
theorem muCloseCycle_window (s : State) (t : Tick) : (muCloseCycle t .capture s).mu.window = s.capturedWindow t := rfl

theorem windowOk_capturedWindow {s : State} (h : s.windowsOk) (t : Tick) : windowOk (s.capturedWindow t) :=
  windowOk_windowAfter h.1 _

/-- The single-cycle frequency is that of a valid period. -/
theorem cycleRecord_fCycle {s : State} {t : Tick} {kind : BoundaryKind} {f : Nat} (h : (cycleRecord s t kind).fCycle = some f) :
    ∃ p, periodInBand p = true ∧ f = cycleFrequency p := by
  unfold cycleRecord at h
  cases hp : closingPeriod kind s.mu.capRef t with
  | none => simp [hp] at h
  | some p =>
    simp only [hp, Option.map_some, Option.getD_some, Option.ite_none_right_eq_some, Option.some.injEq] at h
    exact ⟨p, h.1, h.2.symm⟩

/-- The latest record after a capture's command is that of the cycle it closes. -/
theorem State.latest_capture {s u : State} {t : Tick} {x : Swing} {r : CycleRecord} (h : s.closesCycle (.c0Capture ⟨t, x⟩) t)
    (hu : exec (.c0Capture ⟨t, x⟩) s = .next u) (hr : u.mu.latest = some r) : r = cycleRecord s t .capture := by
  rw [s.closesCycle_capture h hu] at hr
  exact (Option.some.inj hr).symm

/-- With valid periods in both windows, the frequencies of a capture's record lie in 40,000 to 70,000 mHz (R13, R14). -/
theorem cycleRecord_frequency_mem {s : State} {t : Tick} {f : Nat} (hw : s.windowsOk)
    (h : (cycleRecord s t .capture).f = some f ∨ (cycleRecord s t .capture).fCycle = some f ∨
      (cycleRecord s t .capture).fSrc = some f) : 40000 ≤ f ∧ f ≤ 70000 := by
  obtain h | h | h := h
  · exact windowFrequency_mem (windowOk_capturedWindow hw t) h
  · obtain ⟨p, hp, rfl⟩ := cycleRecord_fCycle h
    exact cycleFrequency_mem hp
  · exact windowFrequency_mem hw.2 h

/-! ### The statements -/

/-- Settles O9: a boundary's record sets both conditions by `nextCondition`, which is R12's table. -/
theorem conditionsFollowTable : Obligations.ConditionsFollowTable := by
  refine ⟨fun straps t s u h => ?_, fun c t s hclose => ?_⟩
  · obtain h | ⟨hrun, h⟩ := h
    · cases h
      exact ⟨rfl, rfl⟩
    · have hheld : s.phase ≠ .heldByLine := by simp [hrun]
      have hu : execStationReset t s = .next u := h
      rw [execStationReset, if_neg hheld] at hu
      cases hu
      exact ⟨rfl, rfl⟩
  · intro vn d l follows hdl
    obtain ⟨kind, u, hexec, hmu⟩ := s.closesCycle_next hclose
    refine ⟨u, cycleRecord s t kind, hexec, ?_⟩
    rw [hmu]
    refine ⟨rfl, rfl, rfl, rfl, cycleRecord_conditions_of_short t kind, fun hn => ?_⟩
    obtain ⟨vBus, vSrc, hbus, hsrc, hbusC, hsrcC⟩ := cycleRecord_conditions t kind hn
    refine ⟨vBus, vSrc, hbus, hsrc, ?_, ?_⟩
    · change follows _ (cycleRecord s t kind).busCondition vBus
      rw [hbusC]
      exact nextCondition_table _ vBus vn hdl
    · change follows _ (cycleRecord s t kind).srcCondition vSrc
      rw [hsrcC]
      exact nextCondition_table _ vSrc vn hdl

/-- Settles O11: a capture's record holds the synchronising record of the windows it closes with, whose periods are valid. -/
theorem predictedPhaseAdvances : Obligations.PredictedPhaseAdvances := by
  refine ⟨fun t swing s u r x hclose hw hu hr hx hms => ?_, fun t swing s u r hclose hw hu hr => ?_,
    fun t tSrc swing period f fSrc s u r hclose hu hr hlast hperiod hf hfSrc => ?_⟩ <;>
    obtain rfl := s.latest_capture hclose hu hr
  · have hsync : cycleSync s t .capture (s.capturedWindow t) = some x := hx
    obtain ⟨hslip, -, hpred⟩ := cycleSync_mem (windowOk_capturedWindow hw t) hw.2 hsync
    obtain ⟨k, hk⟩ := exists_predicted_eq hsync
    have hclose500 : s.syncCloseMs ≤ 500 := by
      unfold State.syncCloseMs
      split <;> omega
    exact ⟨k, _, rfl, natAbs_advance_le (by omega) hclose500, hk, hpred⟩
  · refine ⟨fun f => cycleRecord_frequency_mem hw, fun x hx => ?_⟩
    obtain ⟨⟨hslip, hslip'⟩, ⟨hphase, hphase'⟩, hpred⟩ := cycleSync_mem (windowOk_capturedWindow hw t) hw.2 hx
    exact ⟨hslip, hslip', hphase, hphase', hpred⟩
  · rw [s.closesCycle_capture hclose hu] at hperiod
    exact ⟨_, (cycleSync_capture_iff s t (s.capturedWindow t) _).2 ⟨f, fSrc, tSrc, period, hf, hfSrc, hlast, hperiod, rfl⟩,
      rfl, syncPhase_eq _ _⟩

end Sys2Proof.Machine
end

section
/-! SUPPORT. A request on a breaker: what its pulses, its confirmation window and a cut leave unchanged, and the whole answer of a close
and of a trip request that is taken; and with them the statement on the breaker pair rule (R24 to R27). -/

namespace Sys2Proof.Machine

/-! ### The channels of a breaker -/

theorem closeChannel_ne_tripChannel (b d : Breaker) : closeChannel b ≠ tripChannel d := by
  cases b <;> cases d <;> simp [closeChannel, tripChannel]

theorem Pulse.isActive_eq_false {x : Pulse} (h : x.isActive = false) : x = .idle := by
  cases x with
  | idle => rfl
  | active r t => cases h

/-- The widths of R22 for every channel but P2: 50 to 1,000 ms. -/
theorem widthTicks_of_ne_crank {c : PulseChannel} (w : Nat) (h : c ≠ .crank) :
    widthTicks c w = if w < 50 then 500000 else if 1000 < w then 10000000 else w * 10000 := by
  have hwidth : widthTicks c w = ms (clamp 50 1000 w).toNat := by
    cases c with
    | crank => exact absurd rfl h
    | _ => rfl
  have hclamp : (clamp 50 1000 w).toNat = if w < 50 then 50 else if 1000 < w then 1000 else w := by
    unfold clamp
    split_ifs <;> omega
  rw [hwidth, hclamp]
  split_ifs <;> rfl

theorem closeChannel_ne_crank (b : Breaker) : closeChannel b ≠ .crank := by cases b <;> simp [closeChannel]

theorem tripChannel_ne_crank (b : Breaker) : tripChannel b ≠ .crank := by cases b <;> simp [tripChannel]

/-- A pulse begun on a channel of a breaker is active there, with the time base's instant and the width of R22. -/
theorem State.pulse_beginPulse_same (s : State) {c : PulseChannel} (r : Requester) (w : Nat) (h : c ≠ .crank) :
    (s.beginPulse c r w).pulse c =
      .active r (.running s.tb (if w < 50 then 500000 else if 1000 < w then 10000000 else w * 10000)) := by
  rw [State.beginPulse, State.pulse_putPulse_same, widthTicks_of_ne_crank w h]

theorem State.pulse_beginPulse_other (s : State) {c d : PulseChannel} (r : Requester) (w : Nat) (h : d ≠ c) :
    (s.beginPulse c r w).pulse d = s.pulse d :=
  State.pulse_putPulse_other s _ h

/-! ### What a request on a breaker leaves unchanged -/

/-- The TAC with the pulse channels and the windows of another. -/
def Tac.withBreakers (x y : Tac) : Tac :=
  { x with
    srcClose := y.srcClose, srcTrip := y.srcTrip, crank := y.crank, feederClose := y.feederClose
    feederTrip := y.feederTrip, srcWindow := y.srcWindow, feederWindow := y.feederWindow }

/-- The state `v` is the state `s` but for the two channels and the window of the breaker `b`. -/
def State.SameButBreaker (b : Breaker) (s v : State) : Prop :=
  (∀ d, d ≠ closeChannel b → d ≠ tripChannel b → v.pulse d = s.pulse d) ∧ (∀ d, d ≠ b → v.window d = s.window d) ∧
    ∃ tac, v = { s with tac } ∧ tac = s.tac.withBreakers tac

theorem State.SameButBreaker.refl (b : Breaker) (s : State) : s.SameButBreaker b s :=
  ⟨fun _ _ _ => rfl, fun _ _ => rfl, s.tac, rfl, rfl⟩

theorem State.SameButBreaker.trans {b : Breaker} {s v u : State} (h : s.SameButBreaker b v) (h' : v.SameButBreaker b u) :
    s.SameButBreaker b u := by
  obtain ⟨hpulse, hwindow, x, rfl, hx⟩ := h
  obtain ⟨hpulse', hwindow', y, rfl, hy⟩ := h'
  refine ⟨fun d hc ht => (hpulse' d hc ht).trans (hpulse d hc ht), fun d hd => (hwindow' d hd).trans (hwindow d hd), y, rfl, ?_⟩
  calc y = x.withBreakers y := hy
    _ = (s.tac.withBreakers x).withBreakers y := by rw [← hx]
    _ = s.tac.withBreakers y := rfl

theorem State.sameButBreaker_putPulse (s : State) {b : Breaker} {c : PulseChannel} (x : Pulse)
    (h : c = closeChannel b ∨ c = tripChannel b) : s.SameButBreaker b (s.putPulse c x) := by
  refine ⟨fun d hc ht => State.pulse_putPulse_other s x ?_, fun d _ => State.window_putPulse s c x d, _, rfl, ?_⟩
  · obtain rfl | rfl := h
    · exact hc
    · exact ht
  · cases c <;> rfl

theorem State.sameButBreaker_beginPulse (s : State) {b : Breaker} {c : PulseChannel} (r : Requester) (w : Nat)
    (h : c = closeChannel b ∨ c = tripChannel b) : s.SameButBreaker b (s.beginPulse c r w) :=
  s.sameButBreaker_putPulse _ h

theorem State.sameButBreaker_putWindow (s : State) (b : Breaker) (w : Window) : s.SameButBreaker b (s.putWindow b w) := by
  refine ⟨fun d _ _ => State.pulse_putWindow s b w d, fun d hd => State.window_putWindow_other s w hd, _, rfl, ?_⟩
  cases b <;> rfl

/-- No input's qualified level is a matter of a breaker's channels and window. -/
theorem State.SameButBreaker.level {b : Breaker} {s v : State} (h : s.SameButBreaker b v) (i : InputLine) :
    v.level i = s.level i := by
  obtain ⟨-, -, tac, rfl, htac⟩ := h
  have hinputs : tac.inputs = s.tac.inputs := by rw [htac]; rfl
  simp [State.level, hinputs]

theorem State.SameButBreaker.tb {b : Breaker} {s v : State} (h : s.SameButBreaker b v) : v.tb = s.tb := by
  obtain ⟨-, -, tac, rfl, -⟩ := h
  rfl

theorem State.SameButBreaker.par {b : Breaker} {s v : State} (h : s.SameButBreaker b v) : v.par = s.par := by
  obtain ⟨-, -, tac, rfl, -⟩ := h
  rfl

/-! ### The confirmation window -/

theorem State.sameButBreaker_openWindowIf (s : State) (confirm : Bool) (b : Breaker) (r : Requester) (closed : Bool) :
    s.SameButBreaker b (s.openWindowIf confirm b r closed).2 := by
  cases confirm with
  | false => exact .refl b s
  | true =>
    change s.SameButBreaker b (s.openWindow b r closed).2
    obtain ⟨-, h⟩ | ⟨-, h⟩ := s.openWindow_cases b r closed <;> rw [h] <;> exact s.sameButBreaker_putWindow b _

/-- Without a confirmation a pulse begun leaves every window. -/
theorem State.window_beginPulse_openWindowIf_false (s : State) (c : PulseChannel) (w : Nat) (b : Breaker) (r : Requester)
    (closed : Bool) : ((s.beginPulse c r w).openWindowIf false b r closed).2.window b = s.window b :=
  State.window_putPulse s _ _ _

theorem State.pulse_openWindowIf (s : State) (confirm : Bool) (b : Breaker) (r : Requester) (closed : Bool) (c : PulseChannel) :
    (s.openWindowIf confirm b r closed).2.pulse c = s.pulse c := by
  cases confirm with
  | false => rfl
  | true =>
    change (s.openWindow b r closed).2.pulse c = s.pulse c
    obtain ⟨-, h⟩ | ⟨-, h⟩ := s.openWindow_cases b r closed <;> rw [h] <;> exact State.pulse_putWindow s b _ c

/-- The window of a breaker as a request that asks for a confirmation leaves it, with the report made in the same act (R26). -/
def State.WindowOpened (s : State) (b : Breaker) (r : Requester) (closed confirmed : Bool) (w : Window) : Prop :=
  (s.level (positionInput b) = (if closed then .asserted else .released) → confirmed = true ∧ w = .closedOut) ∧
    (s.level (positionInput b) ≠ (if closed then .asserted else .released) →
      confirmed = false ∧ w = .watching r closed (.running s.tb (s.par.diesel.confirmTime * 10000)))

theorem State.windowOpened_openWindow (s : State) (b : Breaker) (r : Requester) (closed : Bool) :
    s.WindowOpened b r closed (s.openWindow b r closed).1 ((s.openWindow b r closed).2.window b) := by
  obtain ⟨hthere, h⟩ | ⟨hthere, h⟩ := s.openWindow_cases b r closed <;> rw [h]
  · exact ⟨fun _ => ⟨rfl, State.window_putWindow_same s b _⟩, fun hn => absurd hthere hn⟩
  · exact ⟨fun ht => absurd ht hthere, fun _ => ⟨rfl, State.window_putWindow_same s b _⟩⟩

/-- What opens a window does not read the breaker's channels and window. -/
theorem State.SameButBreaker.windowOpened {b : Breaker} {s v : State} {r : Requester} {closed confirmed : Bool} {w : Window}
    (h : s.SameButBreaker b v) (hv : v.WindowOpened b r closed confirmed w) : s.WindowOpened b r closed confirmed w := by
  unfold State.WindowOpened at hv ⊢
  rwa [h.level, h.tb, h.par] at hv

/-! ### The cut of a close by a trip -/

/-- The state in which a trip's pulse begins: an active close is cut (R24). -/
def State.closeCut (s : State) (b : Breaker) : State :=
  if (s.pulse (closeChannel b)).isActive then s.cutCloseForTrip b else s

theorem State.closeCut_of_active {s : State} {b : Breaker} (h : (s.pulse (closeChannel b)).isActive = true) :
    s.closeCut b = s.cutCloseForTrip b :=
  if_pos h

theorem State.closeCut_of_idle {s : State} {b : Breaker} (h : (s.pulse (closeChannel b)).isActive = false) : s.closeCut b = s := by
  simp [State.closeCut, h]

theorem State.pulse_cutCloseForTrip (s : State) (b : Breaker) : (s.cutCloseForTrip b).pulse (closeChannel b) = .idle := by
  obtain ⟨_, _, -, h⟩ | ⟨-, h⟩ := s.cutCloseForTrip_cases b <;> simp [h]

theorem State.pulse_closeCut (s : State) (b : Breaker) : (s.closeCut b).pulse (closeChannel b) = .idle := by
  cases h : (s.pulse (closeChannel b)).isActive with
  | true => rw [State.closeCut_of_active h, State.pulse_cutCloseForTrip]
  | false => rw [State.closeCut_of_idle h, Pulse.isActive_eq_false h]

theorem State.sameButBreaker_cutCloseForTrip (s : State) (b : Breaker) : s.SameButBreaker b (s.cutCloseForTrip b) := by
  have hcut : s.SameButBreaker b (s.putPulse (closeChannel b) .idle) := s.sameButBreaker_putPulse _ (.inl rfl)
  obtain ⟨_, _, -, h⟩ | ⟨-, h⟩ := s.cutCloseForTrip_cases b <;> rw [h]
  · exact hcut.trans (State.sameButBreaker_putWindow _ b _)
  · exact hcut

theorem State.sameButBreaker_closeCut (s : State) (b : Breaker) : s.SameButBreaker b (s.closeCut b) := by
  unfold State.closeCut
  split
  · exact s.sameButBreaker_cutCloseForTrip b
  · exact .refl b s

/-- A cut ends the window of the close (R27). -/
theorem State.window_cutCloseForTrip_of_close {s : State} {b : Breaker} {q : Requester} {x : Timer}
    (h : s.window b = .watching q true x) : (s.cutCloseForTrip b).window b = .closedOut := by
  obtain ⟨_, _, -, h'⟩ | ⟨hno, -⟩ := s.cutCloseForTrip_cases b
  · simp [h']
  · exact absurd h (hno q x)

/-- A cut leaves a window that waits for no close. -/
theorem State.window_cutCloseForTrip_of_no_close {s : State} {b : Breaker} (h : ∀ q x, s.window b ≠ .watching q true x) :
    (s.cutCloseForTrip b).window b = s.window b := by
  obtain ⟨q, x, hw, -⟩ | ⟨-, h'⟩ := s.cutCloseForTrip_cases b
  · exact absurd hw (h q x)
  · simp [h']

/-! ### The requests -/

section
variable {s : State} {b : Breaker}

theorem State.requestClose_of_close_active (hlocal : s.localRefuses b = false) (hclose : (s.pulse (closeChannel b)).isActive = true)
    (r : Requester) (w : Nat) (confirm : Bool) : s.requestClose b r w confirm = (⟨.ignored, false, false⟩, s) := by
  have h := s.requestClose_cases b r w confirm
  simpa [hlocal, hclose] using h

theorem State.requestClose_of_trip_active (hlocal : s.localRefuses b = false) (hclose : (s.pulse (closeChannel b)).isActive = false)
    (htrip : (s.pulse (tripChannel b)).isActive = true) (r : Requester) (w : Nat) (confirm : Bool) :
    s.requestClose b r w confirm = (⟨.refused, false, false⟩, s) := by
  have h := s.requestClose_cases b r w confirm
  simpa [hlocal, hclose, htrip] using h

theorem State.requestClose_of_idle (hlocal : s.localRefuses b = false) (hclose : (s.pulse (closeChannel b)).isActive = false)
    (htrip : (s.pulse (tripChannel b)).isActive = false) (r : Requester) (w : Nat) (confirm : Bool) :
    s.requestClose b r w confirm =
      (⟨.started, false, ((s.beginPulse (closeChannel b) r w).openWindowIf confirm b r true).1⟩,
        ((s.beginPulse (closeChannel b) r w).openWindowIf confirm b r true).2) := by
  have h := s.requestClose_cases b r w confirm
  simpa [hlocal, hclose, htrip] using h

theorem State.requestTrip_of_trip_active (hlocal : s.localRefuses b = false) (htrip : (s.pulse (tripChannel b)).isActive = true)
    (r : Requester) (w : Nat) (confirm : Bool) : s.requestTrip b r w confirm = (⟨.ignored, false, false⟩, s) := by
  have h := s.requestTrip_cases b r w confirm
  simpa [hlocal, htrip] using h

/-- A trip request that is taken begins its pulse and its window in the state that the cut leaves. -/
theorem State.requestTrip_of_idle (hlocal : s.localRefuses b = false) (htrip : (s.pulse (tripChannel b)).isActive = false)
    (r : Requester) (w : Nat) (confirm : Bool) :
    s.requestTrip b r w confirm =
      (⟨.started, (s.pulse (closeChannel b)).isActive,
        (((s.closeCut b).beginPulse (tripChannel b) r w).openWindowIf confirm b r false).1⟩,
        (((s.closeCut b).beginPulse (tripChannel b) r w).openWindowIf confirm b r false).2) := by
  have h := s.requestTrip_cases b r w confirm
  simpa [hlocal, htrip, State.closeCut] using h

/-- LOCAL refuses both requests on a feeder (R25). -/
theorem State.requests_of_localRefuses (h : s.localRefuses b = true) (r : Requester) (w : Nat) (confirm : Bool) :
    s.requestClose b r w confirm = (⟨.refused, false, false⟩, s) ∧
      s.requestTrip b r w confirm = (⟨.refused, false, false⟩, s) :=
  ⟨by simpa [h] using s.requestClose_cases b r w confirm, by simpa [h] using s.requestTrip_cases b r w confirm⟩

/-- A pulse begun on a breaker's channel and the window opened after it touch nothing but the breaker. -/
theorem State.SameButBreaker.request {v : State} (h : s.SameButBreaker b v) {c : PulseChannel}
    (hc : c = closeChannel b ∨ c = tripChannel b) (r : Requester) (w : Nat) (confirm closed : Bool) :
    s.SameButBreaker b ((v.beginPulse c r w).openWindowIf confirm b r closed).2 :=
  (h.trans (v.sameButBreaker_beginPulse r w hc)).trans (State.sameButBreaker_openWindowIf _ confirm b r closed)

/-- A close request that is taken opens its window in the place of any other (R26, R27). -/
theorem State.windowOpened_requestClose (hlocal : s.localRefuses b = false) (hclose : (s.pulse (closeChannel b)).isActive = false)
    (htrip : (s.pulse (tripChannel b)).isActive = false) (r : Requester) (w : Nat) :
    s.WindowOpened b r true (s.requestClose b r w true).1.confirmed ((s.requestClose b r w true).2.window b) := by
  rw [State.requestClose_of_idle hlocal hclose htrip]
  exact (s.sameButBreaker_beginPulse r w (.inl rfl)).windowOpened (State.windowOpened_openWindow _ b r true)

/-- A trip request that is taken opens its window in the place of any other, that of a close it cuts too (R26, R27). -/
theorem State.windowOpened_requestTrip (hlocal : s.localRefuses b = false) (htrip : (s.pulse (tripChannel b)).isActive = false)
    (r : Requester) (w : Nat) :
    s.WindowOpened b r false (s.requestTrip b r w true).1.confirmed ((s.requestTrip b r w true).2.window b) := by
  rw [State.requestTrip_of_idle hlocal htrip]
  exact ((s.sameButBreaker_closeCut b).trans (State.sameButBreaker_beginPulse _ r w (.inr rfl))).windowOpened
    (State.windowOpened_openWindow _ b r false)

end

/-! ### The statement -/

/-- Settles O12: each request is one of the cases of its inversion lemma; one that is taken begins its pulse (in the state that a cut
leaves, for a trip) and opens its window after it. -/
theorem pairRuleDecidesRequests : Obligations.PairRuleDecidesRequests := by
  refine ⟨fun b r w confirm s hlocal => ⟨fun hclose => ?_, fun hclose htrip => ?_, fun hclose htrip => ?_, fun htrip => ?_,
      fun htrip => ?_⟩,
    fun p r w confirm s hasserted => ?_, fun b r w closed s hlocal hclose htrip => ?_, fun b r w s hlocal hclose htrip => ?_⟩
  · rw [State.requestClose_of_close_active hlocal hclose]
    exact ⟨rfl, rfl⟩
  · rw [State.requestClose_of_trip_active hlocal hclose htrip]
    exact ⟨rfl, rfl⟩
  · rw [State.requestClose_of_idle hlocal hclose htrip]
    refine ⟨rfl, ?_, ?_, (State.SameButBreaker.refl b s).request (.inl rfl) r w confirm true, ?_⟩
    · rw [State.pulse_openWindowIf, s.pulse_beginPulse_same r w (closeChannel_ne_crank b)]
    · rw [State.pulse_openWindowIf, s.pulse_beginPulse_other r w (closeChannel_ne_tripChannel b b).symm]
    · rintro rfl
      exact s.window_beginPulse_openWindowIf_false _ w b r true
  · rw [State.requestTrip_of_trip_active hlocal htrip]
    exact ⟨rfl, rfl⟩
  · rw [State.requestTrip_of_idle hlocal htrip]
    refine ⟨rfl, Iff.rfl, ?_, ?_, (s.sameButBreaker_closeCut b).request (.inr rfl) r w confirm false, ?_, ?_⟩
    · rw [State.pulse_openWindowIf, State.pulse_beginPulse_other _ r w (closeChannel_ne_tripChannel b b), State.pulse_closeCut]
    · rw [State.pulse_openWindowIf, State.pulse_beginPulse_same _ r w (tripChannel_ne_crank b), (s.sameButBreaker_closeCut b).tb]
    · rintro rfl hclose
      rw [State.window_beginPulse_openWindowIf_false, State.closeCut_of_active hclose]
      exact ⟨fun q x => State.window_cutCloseForTrip_of_close, State.window_cutCloseForTrip_of_no_close⟩
    · rintro rfl hclose
      rw [State.window_beginPulse_openWindowIf_false, State.closeCut_of_idle hclose]
  · exact State.requests_of_localRefuses (b := .feeder p) (by simp [State.localRefuses, State.asserted, hasserted]) r w confirm
  · cases closed with
    | true => exact State.windowOpened_requestClose hlocal hclose htrip r w
    | false => exact State.windowOpened_requestTrip hlocal htrip r w
  · refine ⟨?_, ?_, State.windowOpened_requestTrip hlocal htrip r w⟩ <;> rw [State.requestTrip_of_idle hlocal htrip]
    exact hclose

end Sys2Proof.Machine
end

section
/-! SUPPORT. The judgement of a closed burst: which characters each reader of Machine/Operands accepts, said of the numbers that the
characters spell, and what the receiver's two commands make of the state; and with them the statement on the checks of R52. -/

namespace Sys2Proof.Machine

/-! ### The codes that are defined (R41, R42) -/

theorem Role.ofCode_isSome (n : Nat) : (Role.ofCode n).isSome = true ↔ n ≤ 2 := by
  match n with
  | 0 | 1 | 2 => decide
  | n + 3 => simp [Role.ofCode]

theorem Role.ofCode_eq_genset (n : Nat) : Role.ofCode n = some .genset ↔ n = 1 := by
  unfold Role.ofCode
  split <;> simp_all

theorem Summary.ofCode_isSome (n : Nat) : (Summary.ofCode n).isSome = true ↔ n ≤ 5 := by
  match n with
  | 0 | 1 | 2 | 3 | 4 | 5 => decide
  | n + 6 => simp [Summary.ofCode]

theorem Island.ofCode_isSome (n : Nat) : (Island.ofCode n).isSome = true ↔ n ≤ 3 := by
  match n with
  | 0 | 1 | 2 | 3 => decide
  | n + 4 => simp [Island.ofCode]

theorem intentOfCode_isSome (n : Nat) : (intentOfCode n).isSome = true ↔ n ≤ 2 := by
  match n with
  | 0 | 1 | 2 => decide
  | n + 3 => simp [intentOfCode]

theorem PortState.ofCode_isSome (n : Nat) : (PortState.ofCode n).isSome = true ↔ n ≤ 6 := by
  match n with
  | 0 | 1 | 2 | 3 | 4 | 5 | 6 => decide
  | n + 7 => simp [PortState.ofCode]

/-! ### The numbers that characters spell -/

theorem byteAt_take {l : List Byte} {n i : Nat} (h : i < n) : byteAt (l.take n) i = byteAt l i := by
  simp [byteAt, List.getD_eq_getElem?_getD, h]

theorem byteAt_drop (l : List Byte) (n i : Nat) : byteAt (l.drop n) i = byteAt l (n + i) := by
  simp [byteAt, List.getD_eq_getElem?_getD]

/-- `c` spells the characters `l` from place `base` on. -/
def spells (c : Nat → Nat) (base : Nat) (l : List Byte) : Prop := ∀ i, i < l.length → c (base + i) = byteAt l i

theorem spells_cons {c : Nat → Nat} {base : Nat} {b : Byte} {l : List Byte} :
    spells c base (b :: l) ↔ c base = b.toNat ∧ spells c (base + 1) l := by
  simp only [spells, List.length_cons, Nat.forall_lt_succ_left]
  simp [byteAt, Nat.add_assoc, Nat.add_comm 1]

/-! ### The CRC check -/

/-- Two characters are the CRC of a run exactly when they spell its register, high one first. -/
theorem crcBytes_eq_iff (l : List Byte) {t : List Byte} (h : t.length = 2) :
    crcBytes l = t ↔ (crc16 l).toNat = 256 * byteAt t 0 + byteAt t 1 := by
  obtain ⟨hi, lo, rfl⟩ := List.length_eq_two.1 h
  have hcrc := (crc16 l).isLt
  have hhi := hi.isLt
  have hlo := lo.isLt
  simp only [crcBytes, bytesBE, byte, byteAt, List.getD_cons_zero, List.getD_cons_succ, List.cons.injEq, and_true,
    ← BitVec.toNat_inj, BitVec.toNat_ofNat]
  omega

/-! ### The fields of a payload (checks 6 and 9) -/

/-- A reader that maps what it reads where a check passes has read something exactly when it passes and there is something. -/
theorem isSome_ite_map {α β : Type} (p : Prop) [Decidable p] (f : α → β) (o : Option α) :
    (if p then o.map f else none).isSome = true ↔ p ∧ o.isSome = true := by
  split <;> simp [*]

/-- The feeder record whose characters stand from place `i` on has each of its fields in range. -/
def recordInRange (c : Nat → Nat) (i : Nat) : Prop := 1 ≤ c i / 16 ∧ c i / 16 ≤ 4 ∧ c i % 16 ≤ 6 ∧ 1 ≤ c (i + 1)

/-- The `n` feeder records from place `base` on are in range and in ascending order of their ports. -/
def recordsInRange (c : Nat → Nat) (base n : Nat) : Prop :=
  ∀ j, j < n → recordInRange c (base + 4 * j) ∧ (j + 1 < n → c (base + 4 * j) / 16 < c (base + 4 * j + 4) / 16)

theorem recordsInRange_succ (c : Nat → Nat) (base n : Nat) :
    recordsInRange c base (n + 1) ↔
      (recordInRange c base ∧ (0 < n → c base / 16 < c (base + 4) / 16)) ∧ recordsInRange c (base + 4) n := by
  have hplace (j : Nat) : base + 4 * (j + 1) = base + 4 + 4 * j := by omega
  simp only [recordsInRange, Nat.forall_lt_succ_left, hplace]
  simp

/-- The feeder records of a STATUS stand from the frame's place 17 on, after the thirteen fixed characters. -/
theorem recordsInRange_status_iff (c : Nat → Nat) (n : Nat) :
    recordsInRange c 17 n ↔
      ¬ ∃ j, j < n ∧ (c (17 + 4 * j) / 16 = 0 ∨ 4 < c (17 + 4 * j) / 16 ∨ 6 < c (17 + 4 * j) % 16 ∨ c (18 + 4 * j) = 0 ∨
        (j + 1 < n ∧ c (21 + 4 * j) / 16 ≤ c (17 + 4 * j) / 16)) := by
  have hrank (j : Nat) : 17 + 4 * j + 1 = 18 + 4 * j := by omega
  have hnext (j : Nat) : 17 + 4 * j + 4 = 21 + 4 * j := by omega
  simp only [recordsInRange, recordInRange, hrank, hnext]
  grind

/-- A feeder record is read when it is in range and its port above the last one, and the rest is read after it. -/
theorem readFeeders_cons_isSome (n last : Nat) (p r hi lo : Byte) (rest : List Byte) :
    (readFeeders (n + 1) last (p :: r :: hi :: lo :: rest)).isSome = true ↔
      p.toNat % 16 ≤ 6 ∧ last < p.toNat / 16 ∧ p.toNat / 16 ≤ 4 ∧ 1 ≤ r.toNat ∧
        (readFeeders n (p.toNat / 16) rest).isSome = true := by
  rw [← PortState.ofCode_isSome, readFeeders]
  cases PortState.ofCode (p.toNat % 16) with
  | none => simp
  | some st => simp [isSome_ite_map, and_assoc]

/-- Feeder records are read when the characters are as many as they need, the first port is above the last one, and all are in
range. -/
theorem readFeeders_isSome {c : Nat → Nat} {base n last : Nat} {l : List Byte} (hc : spells c base l) :
    (readFeeders n last l).isSome = true ↔
      l.length = 4 * n ∧ (0 < n → last < c base / 16) ∧ recordsInRange c base n := by
  induction n generalizing base last l with
  | zero => cases l <;> simp [readFeeders, recordsInRange]
  | succ n ih =>
    match l, hc with
    | [], _ | [_], _ | [_, _], _ | [_, _, _], _ =>
      refine iff_of_false (by simp [readFeeders]) fun ⟨hlen, _⟩ => ?_
      simp only [List.length_cons, List.length_nil] at hlen
      omega
    | p :: r :: hi :: lo :: rest, hc =>
      simp only [spells_cons] at hc
      obtain ⟨hp, hr, -, -, hrest⟩ := hc
      rw [readFeeders_cons_isSome, ih hrest, recordsInRange_succ, recordInRange, hp, hr, List.length_cons]
      grind

/-- The fields of a payload of `length` characters, read from a frame, are in range (R41, R42). -/
def payloadInRange (c : Nat → Nat) (length : Nat) : FrameKind → Prop
  | .status => 13 ≤ length ∧ c 16 ≤ 4 ∧ length = 13 + 4 * c 16 ∧ c 4 ≤ 2 ∧ c 5 ≤ 5 ∧ 2 ≤ c 7 ∧ c 7 ≤ 20 ∧
      (c 4 = 1 → 1 ≤ c 14 ∧ c 14 ≤ 32) ∧ (c 4 ≠ 1 → c 14 = 0) ∧ c 15 ≤ 2 ∧ recordsInRange c 17 (c 16)
  | .loss => length = 5 ∧ (c 4 = 1 ∨ c 4 = 2)
  | .intent => length = 4 ∧ (c 4 = 1 ∨ c 4 = 2) ∧ 1 ≤ c 5 ∧ c 5 ≤ 32
  | .step => length = 4 ∧ 1 ≤ c 4 ∧ c 4 ≤ 4 ∧ 1 ≤ c 5

/-- Thirteen characters and the feeder records after them are read as a STATUS when each of the thirteen is in range. -/
theorem readStatus_cons_isSome (ro su fl iv r1 r0 o1 o0 m1 m0 sr it n : Byte) (rest : List Byte) :
    (readStatus (ro :: su :: fl :: iv :: r1 :: r0 :: o1 :: o0 :: m1 :: m0 :: sr :: it :: n :: rest)).isSome = true ↔
      ro.toNat ≤ 2 ∧ su.toNat ≤ 5 ∧ it.toNat ≤ 2 ∧ 2 ≤ iv.toNat ∧ iv.toNat ≤ 20 ∧ n.toNat ≤ 4 ∧
        (ro.toNat = 1 → 1 ≤ sr.toNat ∧ sr.toNat ≤ 32) ∧ (ro.toNat ≠ 1 → sr.toNat = 0) ∧
        (readFeeders n.toNat 0 rest).isSome = true := by
  have hisland : (Island.ofCode (fl.toNat % 4)).isSome = true := (Island.ofCode_isSome _).2 (by omega)
  obtain ⟨island, hisland⟩ := Option.isSome_iff_exists.1 hisland
  rw [← Role.ofCode_isSome, ← Summary.ofCode_isSome, ← intentOfCode_isSome, readStatus, hisland]
  simp only [ne_eq, ← Role.ofCode_eq_genset]
  cases Role.ofCode ro.toNat with
  | none => simp
  | some role => cases Summary.ofCode su.toNat with
    | none => simp
    | some summary => cases intentOfCode it.toNat with
      | none => simp
      | some intent =>
        by_cases hrole : role = .genset <;> simp [isSome_ite_map, and_assoc, hrole]

theorem readStatus_isSome {c : Nat → Nat} {l : List Byte} (hc : spells c 4 l) :
    (readStatus l).isSome = true ↔ payloadInRange c l.length .status := by
  match l, hc with
  | ro :: su :: fl :: iv :: r1 :: r0 :: o1 :: o0 :: m1 :: m0 :: sr :: it :: n :: rest, hc =>
    simp only [spells_cons] at hc
    obtain ⟨hro, hsu, -, hiv, -, -, -, -, -, -, hsr, hit, (hn : c 16 = n.toNat), hrest⟩ := hc
    rw [readStatus_cons_isSome, readFeeders_isSome hrest, payloadInRange, ← hro, ← hsu, ← hiv, ← hsr, ← hit, ← hn]
    simp only [List.length_cons]
    have hfirst (h : recordsInRange c 17 (c 16)) (hpos : 0 < c 16) : 0 < c 17 / 16 := (h 0 hpos).1.1
    constructor
    · rintro ⟨hro, hsu, hit, hiv, hiv', hn, hsr, hsr', hlen, -, hrecords⟩
      exact ⟨by omega, hn, by omega, hro, hsu, hiv, hiv', hsr, hsr', hit, hrecords⟩
    · rintro ⟨-, hn, hlen, hro, hsu, hiv, hiv', hsr, hsr', hit, hrecords⟩
      exact ⟨hro, hsu, hit, hiv, hiv', hn, hsr, hsr', by omega, hfirst hrecords, hrecords⟩
  | [], _ | [_], _ | [_, _], _ | [_, _, _], _ | [_, _, _, _], _ | [_, _, _, _, _], _ | [_, _, _, _, _, _], _
  | [_, _, _, _, _, _, _], _ | [_, _, _, _, _, _, _, _], _ | [_, _, _, _, _, _, _, _, _], _
  | [_, _, _, _, _, _, _, _, _, _], _ | [_, _, _, _, _, _, _, _, _, _, _], _
  | [_, _, _, _, _, _, _, _, _, _, _, _], _ => simp [readStatus, payloadInRange]

theorem readLoss_isSome {c : Nat → Nat} {l : List Byte} (hc : spells c 4 l) :
    (readPayload .loss l).isSome = true ↔ payloadInRange c l.length .loss := by
  match l, hc with
  | [ro, o1, o0, r1, r0], hc =>
    obtain ⟨hro, -⟩ := spells_cons.1 hc
    simp only [readPayload, payloadInRange, hro]
    match ro.toNat with
    | 0 | 1 | 2 => simp [Role.ofCode]
    | _ + 3 => simp [Role.ofCode]
  | [], _ | [_], _ | [_, _], _ | [_, _, _], _ | [_, _, _, _], _ | _ :: _ :: _ :: _ :: _ :: _ :: _, _ =>
    simp [readPayload, payloadInRange]

theorem readIntent_isSome {c : Nat → Nat} {l : List Byte} (hc : spells c 4 l) :
    (readPayload .intent l).isSome = true ↔ payloadInRange c l.length .intent := by
  match l, hc with
  | [k, rank, r1, r0], hc =>
    simp only [spells_cons] at hc
    obtain ⟨hk, hrank, -⟩ := hc
    simp only [readPayload, payloadInRange, hk, hrank]
    match k.toNat with
    | 0 | 1 | 2 => simp [intentOfCode]
    | _ + 3 => simp [intentOfCode]
  | [], _ | [_], _ | [_, _], _ | [_, _, _], _ | _ :: _ :: _ :: _ :: _ :: _, _ => simp [readPayload, payloadInRange]

theorem readStep_isSome {c : Nat → Nat} {l : List Byte} (hc : spells c 4 l) :
    (readPayload .step l).isSome = true ↔ payloadInRange c l.length .step := by
  match l, hc with
  | [p, rank, l1, l0], hc =>
    simp only [spells_cons] at hc
    obtain ⟨hp, hrank, -⟩ := hc
    simp [readPayload, payloadInRange, hp, hrank, and_assoc]
  | [], _ | [_], _ | [_, _], _ | [_, _, _], _ | _ :: _ :: _ :: _ :: _ :: _, _ => simp [readPayload, payloadInRange]

/-- A payload is read when its length fits its kind and its fields lie in their ranges. -/
theorem readPayload_isSome {c : Nat → Nat} {l : List Byte} (hc : spells c 4 l) (kind : FrameKind) :
    (readPayload kind l).isSome = true ↔ payloadInRange c l.length kind := by
  cases kind with
  | status => rw [readPayload, Option.isSome_map, readStatus_isSome hc]
  | loss => exact readLoss_isSome hc
  | intent => exact readIntent_isSome hc
  | step => exact readStep_isSome hc

/-! ### The checks of a frame and of a burst -/

/-- Of the four kinds, the one whose code is given meets a condition. -/
theorem FrameKind.exists_ofCode (n : Nat) (p : FrameKind → Prop) :
    (∃ kind, FrameKind.ofCode n = some kind ∧ p kind) ↔
      n = 1 ∧ p .status ∨ n = 2 ∧ p .loss ∨ n = 3 ∧ p .intent ∨ n = 4 ∧ p .step := by
  match n with
  | 0 | 1 | 2 | 3 | 4 => simp [FrameKind.ofCode]
  | n + 5 => simp [FrameKind.ofCode]

/-- The run of characters passes the checks 2 to 9 of R52. -/
def framePasses (chars : List Byte) : Prop :=
  let c := byteAt chars
  c 0 = 0xC5 ∧ 1 ≤ c 1 ∧ c 1 ≤ 32 ∧ chars.length = c 3 + 6 ∧
    (crc16 ((chars.drop 1).take (c 3 + 3))).toNat = 256 * c (c 3 + 4) + c (c 3 + 5) ∧
    ∃ kind, FrameKind.ofCode (c 2) = some kind ∧ payloadInRange c (c 3) kind

/-- What is read of four characters and the rest: the checks of the first three and of the lengths, the CRC, and the payload. -/
theorem readFrame_cons (d a k n : Byte) (rest : List Byte) :
    (readFrame (d :: a :: k :: n :: rest)).isSome = true ↔
      d = 0xC5 ∧ 1 ≤ a.toNat ∧ a.toNat ≤ 32 ∧ rest.length = n.toNat + 2 ∧
        crcBytes (a :: k :: n :: rest.take n.toNat) = rest.drop n.toNat ∧
        ∃ kind, FrameKind.ofCode k.toNat = some kind ∧ (readPayload kind (rest.take n.toNat)).isSome = true := by
  rw [readFrame]
  cases FrameKind.ofCode k.toNat with
  | none => simp
  | some kind => simp [isSome_ite_map, and_assoc]

/-- The payload of a run of characters is spelt by the run, from its fifth character on. -/
theorem spells_payload (d a k n : Byte) (rest : List Byte) (m : Nat) :
    spells (byteAt (d :: a :: k :: n :: rest)) 4 (rest.take m) := by
  intro i hi
  rw [byteAt_take (hi.trans_le (List.length_take_le _ _)), Nat.add_comm]
  rfl

theorem readFrame_isSome (chars : List Byte) : (readFrame chars).isSome = true ↔ framePasses chars := by
  match chars with
  | [] | [_] | [_, _] | [_, _, _] =>
    refine iff_of_false (by simp [readFrame]) fun ⟨_, _, _, hlen, _⟩ => ?_
    simp only [List.length_cons, List.length_nil] at hlen
    omega
  | d :: a :: k :: n :: rest =>
    rw [readFrame_cons]
    refine and_congr BitVec.toNat_inj.symm (and_congr_right fun _ => and_congr_right fun _ => ?_)
    have hlen : rest.length = n.toNat + 2 ↔ (d :: a :: k :: n :: rest).length = n.toNat + 6 := by simp
    refine .trans (and_congr_right fun hrest => and_congr ?_ (exists_congr fun kind => and_congr_right fun _ => ?_))
      (and_congr_left' hlen)
    · rw [crcBytes_eq_iff _ (by simp [hrest]), byteAt_drop, byteAt_drop]
      rfl
    · rw [readPayload_isSome (spells_payload d a k n rest n.toNat), List.length_take_of_le (by omega)]
      rfl

theorem judgeBurst_isSome (burst : List LinkChar) (overlong : Bool) :
    (judgeBurst burst overlong).isSome = true ↔
      (∀ x ∈ burst, x.framing = false) ∧ overlong = false ∧ framePasses (burst.map (·.byte)) := by
  rw [← readFrame_isSome, judgeBurst]
  cases overlong <;> cases h : burst.any (·.framing) <;> simp_all

/-- A frame that is read bears the address of its second character. -/
theorem sender_of_readFrame {chars : List Byte} {g : GoodFrame} (h : readFrame chars = some g) : g.sender = byteAt chars 1 := by
  match chars with
  | [] | [_] | [_, _] | [_, _, _] => simp [readFrame] at h
  | d :: a :: k :: n :: rest =>
    rw [readFrame, Option.ite_none_right_eq_some] at h
    cases hk : FrameKind.ofCode k.toNat with
    | none => simp [hk] at h
    | some kind =>
      simp only [hk, Option.map_eq_some_iff] at h
      obtain ⟨-, msg, -, rfl⟩ := h
      rfl

theorem sender_of_judgeBurst {burst : List LinkChar} {overlong : Bool} {g : GoodFrame} (h : judgeBurst burst overlong = some g) :
    g.sender = byteAt (burst.map (·.byte)) 1 := by
  rw [judgeBurst, Option.ite_none_left_eq_some] at h
  exact sender_of_readFrame h.2

/-! ### The receiver's commands (R51) -/

theorem after_endIdleTicks (t : Tick) : after t endIdleTicks = t + 800 := rfl

/-- The state at an instant at which an end idle has made the receiver ready for a burst. -/
def State.readyAt (s : State) (t : Tick) : State := { s with tb := t, ilc := { s.ilc with receiver := .waiting, endIdle := true } }

@[simp] theorem State.readyAt_address (s : State) (t : Tick) : (s.readyAt t).address = s.address := rfl
@[simp] theorem State.readyAt_pv (s : State) (t : Tick) : (s.readyAt t).pv = s.pv := rfl

section
variable {s : State} {since : Tick} (hrun : s.phase = .running) (hidle : s.ilc.idleSince = some since)
include hrun hidle

theorem exec_firstEndIdle_ignoring (hrec : s.ilc.receiver = .ignoring) :
    exec .firstEndIdle s = .next (s.readyAt (since + 800)) := by
  change whileRunning ilcFirstEndIdle s = _
  rw [whileRunning_runs _ (by simp [State.runs, hrun])]
  simp [ilcFirstEndIdle, hrec, hidle, after_endIdleTicks, State.readyAt, State.stamp]

variable {burst : List LinkChar} {overlong : Bool} (hrec : s.ilc.receiver = .collecting burst overlong)
include hrec

theorem exec_burstClose_of_bad (hbad : judgeBurst burst overlong = none) :
    exec .burstClose s = .next (ilcDiscard (s.readyAt (since + 800))) := by
  change whileRunning ilcBurstClose s = _
  rw [whileRunning_runs _ (by simp [State.runs, hrun])]
  simp [ilcBurstClose, hrec, hidle, hbad, after_endIdleTicks, State.readyAt, State.stamp]

theorem exec_burstClose_of_good {g : GoodFrame} (hgood : judgeBurst burst overlong = some g) :
    exec .burstClose s = .next (deliver g (s.readyAt (since + 800))) := by
  change whileRunning ilcBurstClose s = _
  rw [whileRunning_runs _ (by simp [State.runs, hrun])]
  simp [ilcBurstClose, hrec, hidle, hgood, after_endIdleTicks, State.readyAt, State.stamp]

end

/-! ### Where a judged burst goes (R52, R53) -/

theorem saturate_of_lt {n : Nat} (h : n < 65535) : saturate n = n + 1 := if_pos h

theorem Pv.entry_eq_none {v : Pv} {a : Nat} (h : ∀ e ∈ v.table, e.address ≠ a) : v.entry a = none := by
  simpa [Pv.entry] using h

/-- A notice of another station without an entry is counted, and nothing else comes of it. -/
theorem deliver_of_unknown {g : GoodFrame} {s : State} (hother : g.sender ≠ s.address) (hnotice : ∀ m, g.msg ≠ .status m)
    (hentry : s.pv.entry g.sender = none) : deliver g s = ilcCountUnknown s := by
  obtain ⟨a, msg⟩ := g
  rw [deliver, if_neg hother]
  cases msg with
  | status m => exact absurd rfl (hnotice m)
  | loss _ _ _ | intent _ _ _ | step _ _ _ => simp [deliverNotice, hentry]

/-! ### The statement -/

/-- Settles O21: the checks of R52 are those that `judgeBurst` makes, the fields of the payload kind by kind, so that a burst that
fails one is discarded; and a frame that passes them is delivered, which for a notice without an entry is the count alone. -/
theorem burstsAreJudged : Obligations.BurstsAreJudged := by
  refine ⟨fun since s hrun hidle hcount => ⟨fun hrec => exec_firstEndIdle_ignoring hrun hidle hrec, ?_⟩,
    fun since burst overlong g s hrun hidle hrec hgood hother hnotice hentry hcount => ?_⟩
  · intro burst overlong hrec chars c kind length feeders body crc badFields bad
    have hpayload : (∃ k, FrameKind.ofCode kind = some k ∧ payloadInRange c length k) ↔
        ¬(kind = 0 ∨ 4 < kind ∨ (kind = 2 ∧ length ≠ 5) ∨ (3 ≤ kind ∧ length ≠ 4) ∨
          (kind = 1 ∧ (length < 13 ∨ 4 < feeders ∨ length ≠ 13 + 4 * feeders)) ∨ badFields) := by
      have hfeeders : c 16 = feeders := rfl
      simp only [FrameKind.exists_ofCode, payloadInRange, recordsInRange_status_iff, hfeeders, badFields]
      clear_value kind length feeders c
      match kind with
      | 0 => simp
      | 1 => simp [and_assoc, Nat.succ_le_iff, Nat.pos_iff_ne_zero]
      | 2 | 3 | 4 => grind
      | _ + 5 => simp
    have hjudge : bad ↔ judgeBurst burst overlong = none := by
      rw [← Option.not_isSome_iff_eq_none, judgeBurst_isSome]
      change bad ↔ ¬(_ ∧ _ ∧ c 0 = 0xC5 ∧ 1 ≤ c 1 ∧ c 1 ≤ 32 ∧ chars.length = length + 6 ∧
        crc.toNat = 256 * c (length + 4) + c (length + 5) ∧ ∃ k, FrameKind.ofCode kind = some k ∧ payloadInRange c length k)
      rw [hpayload]
      clear_value c crc badFields kind length feeders chars
      grind
    refine ⟨fun hbad => ?_, fun hgood => ?_⟩
    · rw [exec_burstClose_of_bad hrun hidle hrec (hjudge.1 hbad), ilcDiscard]
      simp [State.putCounters, State.readyAt, saturate_of_lt hcount]
    · obtain ⟨g, hg⟩ := Option.ne_none_iff_exists'.1 (mt hjudge.2 hgood)
      exact ⟨g, hg, sender_of_judgeBurst hg⟩
  · have hdeliver := deliver_of_unknown (s := s.readyAt (since + 800)) (by simpa using hother) hnotice
      (by simpa using Pv.entry_eq_none hentry)
    rw [exec_burstClose_of_good hrun hidle hrec hgood, hdeliver, ilcCountUnknown]
    simp [State.putCounters, State.readyAt, saturate_of_lt hcount]

end Sys2Proof.Machine
end

section
/-! SUPPORT. The balance figures at the end of a period: the state that they are computed on, the sums and the candidate as bounded by
the stations they come from; and with them the statement on the figures (R81, R83 to R88). -/

namespace Sys2Proof.Machine

/-! ### The command (R76, R77) -/

/-- The state on which an expiry at `t` computes the figures: the timer restarted, and the measurement unit as its hand-over left it. -/
def State.handedOver (s : State) (t : Tick) (m : Mu) : State :=
  { s with tb := t, be := { s.be with timer := .running t s.balanceTicks }, mu := m }

theorem State.handedOver_par (s : State) (t : Tick) (m : Mu) : (s.handedOver t m).par = s.par := rfl

/-- The hand-over writes the measurement unit alone. -/
theorem muHandOver_eq (s : State) : muHandOver s = { s with mu := (muHandOver s).mu } := by
  unfold muHandOver
  dsimp only
  split <;> rfl

/-- The readers of the figures leave them as they are. -/
theorem flFigures_scFigures_dsFigures_be (s : State) : (flFigures (scFigures (dsFigures s))).be = s.be :=
  kept_be (by simp)

/-- At the balance timer's expiry the figures become those of the state with the means handed over. -/
theorem exec_balancePeriodExpiry_figures {s : State} {t : Tick} (h : s.due .balance t) :
    ∃ u m, exec .balancePeriodExpiry s = .next u ∧ u.be.figures = (s.handedOver t m).newFigures := by
  obtain ⟨hrun, hdue⟩ := h
  let r := ((s.stamp t).cancel .balance).start .balance s.balanceTicks
  refine ⟨_, (muHandOver r).mu, onExpiry_due (id := .balance) beExpired hrun hdue, ?_⟩
  change (flFigures (scFigures (dsFigures (beCompute (muHandOver r))))).be.figures = _
  rw [flFigures_scFigures_dsFigures_be, muHandOver_eq]
  rfl

/-! ### The island sums (R78 to R80) -/

/-- A sum that no station enters is 0. -/
theorem sumWhere_eq_zero {enters : Contribution → Bool} {term : Contribution → Nat} {l : List Contribution}
    (h : ∀ c ∈ l, enters c = false) : sumWhere enters term l = 0 := by
  have hterm : ∀ c ∈ l, 0 ≤ (if enters c then term c else 0) ∧ (if enters c then term c else 0) ≤ 0 :=
    fun c hc => by simp [h c hc]
  have hsum := (sumBy_mem hterm).2
  rw [Nat.zero_mul] at hsum
  exact Nat.le_zero.1 hsum

/-- Two sums of a figure that no station enters both are together at most the figure's sum over all. -/
theorem sumWhere_add_sumWhere_le {p q : Contribution → Bool} (term : Contribution → Nat) (l : List Contribution)
    (h : ∀ c, p c = true → q c = false) : sumWhere p term l + sumWhere q term l ≤ sumBy term l := by
  unfold sumWhere
  induction l with
  | nil => simp [sumBy]
  | cons c l ih =>
    have hhead : (if p c then term c else 0) + (if q c then term c else 0) ≤ term c := by
      cases hp : p c with
      | true => simp [h c hp]
      | false => cases q c <;> simp
    simp only [sumBy, List.foldr_cons] at ih ⊢
    omega

/-- A station delivers as a GENSET or as a SOLAR station, so the load estimate counts its output once at most. -/
theorem sums_load_le (l : List Contribution) : (Sums.of l).pGen + (Sums.of l).pPv ≤ sumBy (·.output) l := by
  refine sumWhere_add_sumWhere_le _ l fun c hc => ?_
  cases hrole : c.role <;> simp_all [Contribution.is]

theorem Contribution.is_eq_true {c : Contribution} {role : Role} {summary : Summary} :
    c.is role summary = true ↔ c.role = role ∧ c.summary = summary := by simp [Contribution.is]

/-- The stations in the computation are the own one and those of the view. -/
theorem State.mem_contributions {s : State} {c : Contribution} :
    c ∈ s.contributions ↔ c = s.ownContribution ∨ ∃ e ∈ s.view, c = e.contribution := by
  simp [State.contributions, eq_comm]

theorem State.ownOutput_le (s : State) : s.ownOutput ≤ 65535 := by
  unfold State.ownOutput
  split
  · omega
  · exact clamp16_le _

/-- The view holds at most the 31 entries of the table. -/
theorem State.view_length_le {s : State} (h : s.tableFormed) : s.view.length ≤ 31 := by
  unfold State.view
  split
  · simp
  · exact (List.length_filter_le _ _).trans h.1

theorem State.inRange_of_mem_view {s : State} (h : s.tableFormed) {e : Entry} (he : e ∈ s.view) : e.inRange := by
  obtain ⟨-, -, hentries, -⟩ := h
  exact (hentries e (State.mem_view.1 he).2.1).1

/-- Each station of the computation reports at most what two bytes hold (R60, R78). -/
theorem State.contribution_output_le {s : State} (h : s.tableFormed) {c : Contribution} (hc : c ∈ s.contributions) :
    c.output ≤ 65535 := by
  obtain rfl | ⟨e, he, rfl⟩ := State.mem_contributions.1 hc
  · exact s.ownOutput_le
  · obtain ⟨-, -, -, houtput, -⟩ := State.inRange_of_mem_view h he
    exact houtput

/-- The load estimate is at most 32 stations' two bytes. -/
theorem newFigures_load_le {s : State} (h : s.tableFormed) : s.newFigures.load ≤ 2097120 := by
  have hsum := (sumBy_mem (lo := 0) (hi := 65535) (f := (·.output)) (l := s.contributions)
    fun c hc => ⟨Nat.zero_le _, s.contribution_output_le h hc⟩).2
  have hview := State.view_length_le h
  have hlen : s.contributions.length = s.view.length + 1 := by simp [State.contributions]
  have hload : s.newFigures.load ≤ sumBy (·.output) s.contributions := sums_load_le _
  omega

/-- Without a diesel ONLINE, own or in the view, the minimum load of the island is 0. -/
theorem newFigures_mMin_eq_zero {s : State} (hview : ∀ e ∈ s.view, ¬ (e.role = .genset ∧ e.summary = .online))
    (hown : ¬ (s.par.station.role = .genset ∧ s.summary = .online)) : s.newFigures.mMin = 0 := by
  refine sumWhere_eq_zero fun c hc => Bool.eq_false_iff.2 (mt Contribution.is_eq_true.1 ?_)
  obtain rfl | ⟨e, he, rfl⟩ := State.mem_contributions.1 hc
  · exact hown
  · exact hview e he

/-! ### The restore candidate and the shed demand (R82, R83) -/

/-- The restore candidate is a record of an own port or of a feeder in the view. -/
theorem State.restoreCandidate_eq_some {s : State} {c : Candidate} (h : s.restoreCandidate = some c) :
    (∃ p r, s.port p = some r ∧
      c = ⟨s.address, p.num, r.state, (s.par.port.get p).shedRank, r.load, (s.par.port.get p).coldLoad⟩) ∨
    ∃ e ∈ s.view, ∃ r ∈ e.feeders, c = ⟨e.address, r.port, r.state, r.shedRank, r.load, 150⟩ := by
  have hmem := (mem_sortBy _ _ _).1 (List.mem_of_mem_head? h)
  obtain hown | hpeer := List.mem_append.1 hmem
  · simp only [State.ownCandidates, List.mem_filterMap, Option.bind_eq_some_iff, Option.ite_none_right_eq_some,
      Option.some.injEq] at hown
    obtain ⟨p, -, r, hr, -, rfl⟩ := hown
    exact .inl ⟨p, r, hr, rfl⟩
  · simp only [State.peerCandidates, List.mem_flatMap, List.mem_map, List.mem_filter] at hpeer
    obtain ⟨e, he, r, ⟨hr, -⟩, rfl⟩ := hpeer
    exact .inr ⟨e, he, r, hr, rfl⟩

@[simp] theorem shedDemand_none : shedDemand none = 0 := rfl
@[simp] theorem shedDemand_some (c : Candidate) : shedDemand (some c) = c.coldLoad * c.load / 100 := rfl

/-- The demand of a candidate is its cold load in hundredths, rounded down. -/
theorem shedDemand_some_floor (c : Candidate) :
    100 * shedDemand (some c) ≤ c.coldLoad * c.load ∧ c.coldLoad * c.load < 100 * (shedDemand (some c) + 1) := by
  rw [shedDemand_some]
  omega

/-- A record of a load of two bytes, with a cold load of at most 300 %, demands at most 196,605 kW. -/
theorem shedDemand_some_le {c : Candidate} (hcold : c.coldLoad ≤ 300) (hload : c.load ≤ 65535) :
    shedDemand (some c) ≤ 196605 := by
  have hprod : c.coldLoad * c.load ≤ 300 * 65535 := Nat.mul_le_mul hcold hload
  rw [shedDemand_some]
  omega

/-- Within the table's and the parameters' ranges the shed demand is at most 196,605 kW. -/
theorem newFigures_shedDemand_le {s : State} (hview : ∀ e ∈ s.view, e.inRange) (hcold : ∀ p, (s.par.port.get p).coldLoad ≤ 300)
    (hload : ∀ p r, s.port p = some r → r.load ≤ 65535) : s.newFigures.shedDemand ≤ 196605 := by
  change shedDemand s.restoreCandidate ≤ 196605
  cases hc : s.restoreCandidate with
  | none => simp
  | some c =>
    obtain ⟨p, r, hr, rfl⟩ | ⟨e, he, r, hr, rfl⟩ := State.restoreCandidate_eq_some hc
    · exact shedDemand_some_le (hcold p) (hload p r hr)
    · obtain ⟨-, -, -, -, -, -, -, -, hfeeders⟩ := hview e he
      exact shedDemand_some_le (by simp) (hfeeders r hr).2.2

/-! ### The tests and the shares (R84 to R88) -/

section
variable (s : State)

theorem newFigures_stopPossible_iff : s.newFigures.stopPossible = true ↔
    s.par.station.role = .genset ∧ s.summary = .online ∧
      (s.newFigures.requirement : Int) + s.par.balance.stopMargin ≤ s.newFigures.reserve - s.par.station.rating ∧
      0 < (s.newFigures.cOn : Int) - s.par.station.rating := by
  simp [State.newFigures, figuresOf, Contribution.is, State.ownContribution, and_assoc, sub_right_comm]

theorem newFigures_overload_iff :
    s.newFigures.overload = true ↔ s.newFigures.reserve < 0 ∧ s.newFigures.cPend = 0 := by
  simp [State.newFigures, figuresOf]

theorem newFigures_candidateFits_iff : s.newFigures.candidateFits = true ↔
    s.newFigures.candidate ≠ none ∧ (s.newFigures.shedDemand : Int) ≤ s.newFigures.headroom := by
  simp [State.newFigures, figuresOf, Option.isSome_iff_ne_none]

/-- The solar allowance is what the diesels' minimum load and the margin leave of the load estimate, and no less than 0 (R87). -/
theorem newFigures_allowance : s.newFigures.allowance =
    max 0 ((s.newFigures.load : Int) - s.newFigures.mMin - s.par.balance.curtailMargin) := rfl

theorem newFigures_ownShare : s.newFigures.ownShare =
    if s.par.station.role = .solar ∧ s.summary = .online ∧ 0 < s.newFigures.aPv then
      s.newFigures.allowance * s.newFigures.ownAvailable / s.newFigures.aPv else 0 := by
  change ownShare s.ownContribution s.newFigures.allowance s.newFigures.aPv = _
  unfold ownShare
  have htest : (s.ownContribution.is .solar .online && decide (0 < s.newFigures.aPv)) = true ↔
      s.par.station.role = .solar ∧ s.summary = .online ∧ 0 < s.newFigures.aPv := by
    simp [Contribution.is, State.ownContribution, and_assoc]
  refine ite_congr (propext htest) (fun h => ?_) fun _ => rfl
  have hown : s.ownContribution.minOrAvail = s.newFigures.ownAvailable := by
    simp [State.ownContribution, h.1, State.newFigures, figuresOf]
  rw [hown]

end

/-! ### The statement -/

/-- Settles O32: the figures of an expiry are `newFigures` of the state handed over, whose formulas are R81's to R88's; the ranges
follow from those of the candidate's record and of the outputs that the load estimate sums. -/
theorem figuresFollowSums : Obligations.FiguresFollowSums := by
  refine ⟨fun t s hdue => ?_, fun t s hdue => ?_, fun t s hdue hformed => ?_⟩ <;>
    obtain ⟨u, m, hu, hfig⟩ := exec_balancePeriodExpiry_figures hdue <;> refine ⟨u, hu, ?_⟩ <;> rw [hfig]
  · have hmax (a : Int) : max 0 a = if a < 0 then 0 else a := by split <;> omega
    refine ⟨rfl, rfl, rfl, ?_, decide_eq_true_iff, decide_eq_true_iff, newFigures_stopPossible_iff _,
      newFigures_overload_iff _, rfl, rfl, newFigures_candidateFits_iff _, hmax _, newFigures_ownShare _⟩
    cases hc : (s.handedOver t m).newFigures.candidate with
    | none | some => exact congrArg shedDemand hc
  · refine ⟨fun h => congrArg shedDemand h, fun c h => ?_, fun hformed hcold hload => ?_⟩
    · have hdemand : (s.handedOver t m).newFigures.shedDemand = shedDemand (some c) := congrArg shedDemand h
      exact hdemand ▸ shedDemand_some_floor c
    · exact newFigures_shedDemand_le (fun e => State.inRange_of_mem_view hformed) hcold hload
  · have hload : (s.handedOver t m).newFigures.load ≤ 2097120 := newFigures_load_le hformed
    have hallow := newFigures_allowance (s.handedOver t m)
    rw [State.handedOver_par] at hallow
    refine ⟨by omega, by omega, by omega, by omega, fun hview hown => ?_⟩
    have hmin : (s.handedOver t m).newFigures.mMin = 0 := newFigures_mMin_eq_zero hview hown
    exact ⟨hmin, by omega⟩

end Sys2Proof.Machine
end

section
/-! SUPPORT. The cap chain at new figures: what the other readers of the figures leave alone of it, a run of the chain step by step,
and the ranges of the caps; and with them the statement on the cap chain (R128 to R131, R133). -/

namespace Sys2Proof.Machine

/-! ### What the other readers of the figures leave alone

The diesel sequencer, which takes the figures before the solar cap unit, keeps the whole of `State.capSide`. The feeder ladder, which takes
them after it, keeps its first part alone: a port that changes may bring the island from RECOVER to LIVE (R162). -/

/-- What a run of the chain writes, the solar record and the cap code in the TAC; and the island state, which it reads. -/
def State.capSide (s : State) : (Sc × Nat) × Option Island := ((s.sc, s.tac.capCode), s.bsc.island)

section
variable (s : State)

@[simp] theorem State.capSide_ds (d : Ds) : State.capSide { s with ds := d } = s.capSide := rfl
@[simp] theorem State.capSide_fl (d : Fl) : State.capSide { s with fl := d } = s.capSide := rfl
@[simp] theorem State.capSide_modifyPort (p : Port) (g : PortRecord → PortRecord) : (s.modifyPort p g).capSide = s.capSide := rfl
@[simp] theorem State.capSide_putSession (x : Session) : (s.putSession x).capSide = s.capSide := rfl
@[simp] theorem State.capSide_writePwm (v : Int) : (s.writePwm v).capSide = s.capSide := rfl
@[simp] theorem State.capSide_writeRun (b : Bool) : (s.writeRun b).capSide = s.capSide := rfl
@[simp] theorem State.capSide_setAlarm (c : AlarmCause) (b : Bool) : (s.setAlarm c b).capSide = s.capSide := by cases c <;> rfl
@[simp] theorem State.capSide_drivePermit (b : Bool) : (s.drivePermit b).capSide = s.capSide := rfl
@[simp] theorem State.capSide_setPermitEdges (b : Bool) : (s.setPermitEdges b).capSide = s.capSide := rfl
@[simp] theorem State.capSide_putPulse (c : PulseChannel) (x : Pulse) : (s.putPulse c x).capSide = s.capSide := by cases c <;> rfl
@[simp] theorem State.capSide_putWindow (b : Breaker) (w : Window) : (s.putWindow b w).capSide = s.capSide := by cases b <;> rfl

@[simp] theorem State.capSide_putTimer (id : TimerId) (x : Timer) : (s.putTimer id x).capSide = s.capSide := by
  cases id with
  | pulse | confirm => simp [State.putTimer]
  | _ => rfl

@[simp] theorem State.capSide_start (id : TimerId) (d : Nat) : (s.start id d).capSide = s.capSide := s.capSide_putTimer id _
@[simp] theorem State.capSide_cancel (id : TimerId) : (s.cancel id).capSide = s.capSide := s.capSide_putTimer id _

@[simp] theorem State.capSide_placeFrame (k : FrameKind) (l : List Byte) : (s.placeFrame k l).capSide = s.capSide := by
  obtain ⟨-, h⟩ | ⟨-, h⟩ := s.placeFrame_cases k l <;> rw [h]
  rfl

@[simp] theorem State.capSide_requestCrank (w : Nat) : (s.requestCrank w).capSide = s.capSide := by
  obtain ⟨-, h⟩ | ⟨-, h⟩ := s.requestCrank_cases w <;> rw [h]
  exact s.capSide_putPulse _ _

variable {s}

theorem State.SameButBreaker.capSide {b : Breaker} {v : State} (h : s.SameButBreaker b v) : v.capSide = s.capSide := by
  obtain ⟨-, -, tac, rfl, htac⟩ := h
  have hcode : tac.capCode = s.tac.capCode := by rw [htac]; rfl
  simp [State.capSide, hcode]

theorem State.capSide_of_requestClose {v : State} {b : Breaker} {r : Requester} {w : Nat} {confirm : Bool} {a : PulseReply}
    (h : s.requestClose b r w confirm = (a, v)) : v.capSide = s.capSide := by
  obtain ⟨-, hcase⟩ | ⟨-, -, hcase⟩ | ⟨-, -, -, hcase⟩ | ⟨-, -, -, hcase⟩ := s.requestClose_cases b r w confirm <;>
    cases hcase.symm.trans h
  case inr.inr.inr => exact ((State.SameButBreaker.refl b s).request (.inl rfl) r w confirm true).capSide
  all_goals rfl

theorem State.capSide_of_requestTrip {v : State} {b : Breaker} {r : Requester} {w : Nat} {confirm : Bool} {a : PulseReply}
    (h : s.requestTrip b r w confirm = (a, v)) : v.capSide = s.capSide := by
  obtain ⟨-, hcase⟩ | ⟨-, -, hcase⟩ | ⟨-, -, hcase⟩ := s.requestTrip_cases b r w confirm <;> cases hcase.symm.trans h
  case inr.inr => exact ((s.sameButBreaker_closeCut b).request (.inr rfl) r w confirm false).capSide
  all_goals rfl

/-- Acts taken in turn that each keep it keep it together. -/
theorem State.capSide_foldl {α : Type} {f : State → α → State} (h : ∀ s a, (f s a).capSide = s.capSide) (l : List α) (s : State) :
    (l.foldl f s).capSide = s.capSide := by
  induction l generalizing s with
  | nil => rfl
  | cons a l ih => rw [List.foldl_cons, ih, h]

/-! #### The diesel sequencer -/

variable (s)

@[simp] theorem sessionEnd_capSide : (sessionEnd s).capSide = s.capSide := by simp [sessionEnd]
@[simp] theorem startHold_capSide : (startHold s).capSide = s.capSide := by simp [startHold]
@[simp] theorem bscConfirmed_capSide : (bscConfirmed s).capSide = s.capSide := by
  simp only [bscConfirmed]; (repeat' split) <;> simp
@[simp] theorem bscHoldLive_capSide : (bscHoldLive s).capSide = s.capSide := by
  simp only [bscHoldLive]; split <;> simp
@[simp] theorem setBias_capSide (v : Int) : (setBias v s).capSide = s.capSide := by simp [setBias]
@[simp] theorem dsEnter_capSide (st : DieselState) : (dsEnter st s).capSide = s.capSide := by
  simp only [dsEnter]; split <;> simp
@[simp] theorem dropIntent_capSide : (dropIntent s).capSide = s.capSide := by simp [dropIntent]
@[simp] theorem openIntent_capSide (k : IntentKind) : (openIntent k s).capSide = s.capSide := by simp [openIntent]
@[simp] theorem dsTrip_capSide (confirm : Bool) : (dsTrip confirm s).2.capSide = s.capSide :=
  s.capSide_of_requestTrip (Prod.eta (dsTrip confirm s)).symm
@[simp] theorem dsEnterFailed_capSide : (dsEnterFailed s).capSide = s.capSide := dsEnter_capSide s .failed
@[simp] theorem dsEnterSpool_capSide : (dsEnterSpool s).capSide = s.capSide := by simp [dsEnterSpool]
@[simp] theorem dsEnterCrank_capSide : (dsEnterCrank s).capSide = s.capSide := by
  simp only [dsEnterCrank]
  split
  · simp
  · exact (State.capSide_requestCrank _ _).trans (dsEnter_capSide s .crank)
@[simp] theorem dsStartAtDark_capSide : (dsStartAtDark s).capSide = s.capSide := by simp [dsStartAtDark]
@[simp] theorem dsEnterStandby_capSide : (dsEnterStandby s).capSide = s.capSide := by
  simp only [dsEnterStandby]; split <;> simp
@[simp] theorem dsEnterIntent_capSide : (dsEnterIntent s).capSide = s.capSide := by simp [dsEnterIntent]
@[simp] theorem dsWithdrawStart_capSide : (dsWithdrawStart s).capSide = s.capSide := by simp [dsWithdrawStart]
@[simp] theorem dsEnterSync_capSide : (dsEnterSync s).capSide = s.capSide := by simp [dsEnterSync]
@[simp] theorem dsEnterStopIntent_capSide : (dsEnterStopIntent s).capSide = s.capSide := by simp [dsEnterStopIntent]
@[simp] theorem dsForcedStop_capSide : (dsForcedStop s).capSide = s.capSide := by simp [dsForcedStop]
@[simp] theorem dsBackOnline_capSide : (dsBackOnline s).capSide = s.capSide := by simp [dsBackOnline]
@[simp] theorem dsAbandonUnload_capSide : (dsAbandonUnload s).capSide = s.capSide := by simp [dsAbandonUnload]
@[simp] theorem dsConfirmed_capSide : (dsConfirmed s).capSide = s.capSide := by
  simp only [dsConfirmed]; (repeat' split) <;> simp
@[simp] theorem dsEnterOpening_capSide : (dsEnterOpening s).capSide = s.capSide := by
  simp only [dsEnterOpening]; split <;> simp
@[simp] theorem dsBiasOnline_capSide : (dsBiasOnline s).capSide = s.capSide := by simp only [dsBiasOnline]; split <;> simp
@[simp] theorem dsBiasSync_capSide : (dsBiasSync s).capSide = s.capSide := by simp only [dsBiasSync]; split <;> simp
@[simp] theorem dsBiasStep_capSide : (dsBiasStep s).capSide = s.capSide := by simp only [dsBiasStep]; split <;> simp
@[simp] theorem dsJudgeStart_capSide : (dsJudgeStart s).capSide = s.capSide := by
  simp only [dsJudgeStart]; (repeat' split) <;> simp
@[simp] theorem dsJudgeStop_capSide : (dsJudgeStop s).capSide = s.capSide := by
  simp only [dsJudgeStop]; (repeat' split) <;> simp
@[simp] theorem dsJudgeStopIntent_capSide : (dsJudgeStopIntent s).capSide = s.capSide := by
  simp only [dsJudgeStopIntent]; split <;> simp
@[simp] theorem dsJudgeUnload_capSide : (dsJudgeUnload s).capSide = s.capSide := by
  simp only [dsJudgeUnload]; (repeat' split) <;> simp
@[simp] theorem dsJudge_capSide : (dsJudge s).capSide = s.capSide := by
  simp only [dsJudge]; (repeat' split) <;> simp
@[simp] theorem dsFigures_capSide : (dsFigures s).capSide = s.capSide := by simp only [dsFigures]; split <;> simp

/-! #### The entry to LIVE and the feeder ladder -/

variable {s}

/-- On a LIVE island a set at the end of SPOOL goes to SYNC or to FAILED. -/
theorem dsJudgeSpool_capSide_of_live (h : s.bsc.island = some .live) : (dsJudgeSpool s).capSide = s.capSide := by
  simp only [dsJudgeSpool, h]; split <;> simp

/-- The diesel sequencer takes a change to LIVE with the judgement of a set that waits in SPOOL, or not at all. -/
theorem dsIslandChange_capSide_of_live (h : s.bsc.island = some .live) : (dsIslandChange s).capSide = s.capSide := by
  have hlive : dsIslandChange s = if s.dieselIs .spool && !s.ds.timers.spool.isRunning then dsJudgeSpool s else s := by
    simp [dsIslandChange, State.islandUp, h]
  rw [hlive]
  split
  · exact dsJudgeSpool_capSide_of_live h
  · rfl

variable (s)

@[simp] theorem bscEnterLive_capSide : (bscEnterLive s).capSide.1 = s.capSide.1 := by
  rw [bscEnterLive, bscHoldLive_capSide, dsIslandChange_capSide_of_live rfl]
  rfl
@[simp] theorem bscLook_capSide : (bscLook s).capSide.1 = s.capSide.1 := by simp only [bscLook]; split <;> simp
@[simp] theorem flEnter_capSide (p : Port) (st : PortState) (dest : Option Destination) (cause : Option ShedCause) :
    (flEnter p st dest cause s).capSide.1 = s.capSide.1 := by
  rw [flEnter, bscLook_capSide]
  rfl
@[simp] theorem flAbandonSwap_capSide : (flAbandonSwap s).capSide = s.capSide := by simp [flAbandonSwap]
@[simp] theorem flCloseConfirmed_capSide (p : Port) : (flCloseConfirmed p s).capSide.1 = s.capSide.1 := by simp [flCloseConfirmed]

@[simp] theorem flClose_capSide (p : Port) : (flClose p s).2.capSide.1 = s.capSide.1 := by
  simp only [flClose]
  split
  · split
    · split <;> simp [State.capSide_of_requestClose ‹_›]
    · simp [State.capSide_of_requestClose ‹_›]
  · rfl

theorem capSide_of_flClose {s v : State} {p : Port} {a : Bool} (h : flClose p s = (a, v)) : v.capSide.1 = s.capSide.1 :=
  congrArg (·.2.capSide.1) h ▸ flClose_capSide s p

@[simp] theorem flAnnounceStep_capSide (p : Port) : (flAnnounceStep p s).capSide = s.capSide := by
  simp [flAnnounceStep, flRestartSpacing]
@[simp] theorem flSwapClose_capSide (w : Swap) : (flSwapClose w s).capSide.1 = s.capSide.1 := by
  simp only [flSwapClose]
  split <;> simp [capSide_of_flClose ‹_›]
@[simp] theorem flOpenConfirmed_capSide (p : Port) : (flOpenConfirmed p s).capSide.1 = s.capSide.1 := by
  simp only [flOpenConfirmed]; (repeat' split) <;> simp

@[simp] theorem flTrip_capSide (p : Port) (dest : Destination) : (flTrip p dest s).2.capSide.1 = s.capSide.1 := by
  simp only [flTrip]
  split
  · split
    · split <;> simp [State.capSide_of_requestTrip ‹_›]
    · simp [State.capSide_of_requestTrip ‹_›]
    · simp [State.capSide_of_requestTrip ‹_›]
  · rfl

theorem capSide_of_flTrip {s v : State} {p : Port} {dest : Destination} {a : Bool} (h : flTrip p dest s = (a, v)) :
    v.capSide.1 = s.capSide.1 :=
  congrArg (·.2.capSide.1) h ▸ flTrip_capSide s p dest

@[simp] theorem flJudgeOverload_capSide : (flJudgeOverload s).capSide = s.capSide := by
  simp only [flJudgeOverload]; (repeat' split) <;> simp

@[simp] theorem flRestore_capSide : (flRestore s).capSide.1 = s.capSide.1 := by
  simp only [flRestore]
  split
  · split
    · split <;> simp [capSide_of_flClose ‹_›]
    · rfl
  · rfl

@[simp] theorem flStartSwap_capSide : (flStartSwap s).capSide.1 = s.capSide.1 := by
  simp only [flStartSwap]
  split
  · split
    · split <;> simp [capSide_of_flTrip ‹_›]
    · rfl
  · rfl

@[simp] theorem flRecordLoads_capSide : (flRecordLoads s).capSide = s.capSide :=
  State.capSide_foldl (fun _ _ => State.capSide_modifyPort _ _ _) _ _
@[simp] theorem flFigures_capSide : (flFigures s).capSide.1 = s.capSide.1 := by simp only [flFigures]; split <;> simp

end

/-! ### The parts of the chain (R129 to R131, R133) -/

/-- With f above the deadband the rating is reduced by the slope's part of the excess, to 0 at the least (R129). -/
theorem fwCap_of_above {f nominal : Nat} {p : SolarParams} (rating : Nat) (h : (nominal : Int) + p.fwDeadband < f) :
    fwCap (some f) nominal p rating =
      max 0 ((rating : Int) - (rating : Int) * p.fwSlope * ((f : Int) - nominal - p.fwDeadband) / 100000) := by
  have hexcess : ((f - nominal - p.fwDeadband : Nat) : Int) = (f : Int) - nominal - p.fwDeadband := by omega
  rw [fwCap, if_pos h, ← hexcess]
  push_cast
  rfl

/-- With f within the deadband, or absent, the frequency-watt cap is the rating (R129). -/
theorem fwCap_of_within {f : Option Nat} {nominal : Nat} {p : SolarParams} (rating : Nat)
    (h : ∀ x, f = some x → (x : Int) ≤ (nominal : Int) + p.fwDeadband) : fwCap f nominal p rating = rating := by
  cases f with
  | none => rfl
  | some x => exact if_neg (not_lt.2 (h x rfl))

theorem fwCap_mem (f : Option Nat) (nominal : Nat) (p : SolarParams) (rating : Nat) :
    0 ≤ fwCap f nominal p rating ∧ fwCap f nominal p rating ≤ rating := by
  unfold fwCap
  split
  · split <;> omega
  · omega

/-- The step is the ramp's part of the rating in a period, rounded down, or 1 kW where that is 0 (R130). -/
theorem rampStep_eq (rating ramp periodMs : Nat) :
    rampStep rating ramp periodMs =
      if rating * ramp * periodMs / 6000000 < 1 then 1 else rating * ramp * periodMs / 6000000 := by
  unfold rampStep
  split <;> omega

/-- With the parameters in their ranges the step lies in 1 to 10,000 kW (R130). -/
theorem rampStep_mem {rating ramp periodMs : Nat} (hrating : rating ≤ 20000) (hramp : ramp ≤ 100) (hperiod : periodMs ≤ 500) :
    1 ≤ rampStep rating ramp periodMs ∧ rampStep rating ramp periodMs ≤ 10000 := by
  have hprod : rating * ramp * periodMs ≤ 20000 * 100 * 500 := Nat.mul_le_mul (Nat.mul_le_mul hrating hramp) hperiod
  unfold rampStep
  omega

/-- A rise is one step at most, and a fall is taken in full (R130). -/
theorem rampLimit_cases (target last : Int) (step : Nat) :
    (last < target → rampLimit target last step = min target (last + step)) ∧
      (target ≤ last → rampLimit target last step = target) ∧ rampLimit target last step ≤ last + step := by
  unfold rampLimit
  split <;> omega

/-- The ramp leads from a cap of 0 or more to a target of 0 or more through caps of 0 or more, and past no target. -/
theorem rampLimit_mem {target last : Int} (step : Nat) (htarget : 0 ≤ target) (hlast : 0 ≤ last) :
    0 ≤ rampLimit target last step ∧ rampLimit target last step ≤ target := by
  unfold rampLimit
  split <;> omega

/-- The cap that the table of R131 commands is 0, the limited cap or the fallback cap. -/
theorem capOverride_mem {island : Option Island} {mode : Mode} {limited fallback hi : Int} (hhi : 0 ≤ hi)
    (hlimited : 0 ≤ limited ∧ limited ≤ hi) (hfallback : 0 ≤ fallback ∧ fallback ≤ hi) :
    0 ≤ (capOverride island mode limited fallback).2 ∧ (capOverride island mode limited fallback).2 ≤ hi := by
  unfold capOverride
  split_ifs
  · exact ⟨le_rfl, hhi⟩
  · exact ⟨le_rfl, hhi⟩
  · exact hfallback
  · exact hlimited

/-- The code is the clamped sum as it stands, for the clamp leaves no sum below 0 (R133). -/
theorem capCode_cast (cap : Int) (rating : Nat) (offset : Int) :
    (capCode cap rating offset : Int) = clamp 0 4095 (roundDiv (cap * 4095) rating + offset) :=
  Int.toNat_of_nonneg (clamp_bounds _ (by decide)).1

/-- A code that is written to the cap output stage is within its range, and is taken unclamped (R30, R133). -/
theorem clamp_capCode (cap : Int) (rating : Nat) (offset : Int) :
    (clamp 0 4095 (capCode cap rating offset)).toNat = capCode cap rating offset := by
  have hcode := clamp_bounds (roundDiv (cap * 4095) rating + offset) (by decide : (0 : Int) ≤ 4095)
  rw [← capCode_cast] at hcode
  rw [clamp_inside hcode.1 hcode.2, Int.toNat_natCast]

/-! ### One run of the chain (R128) -/

section
variable (s : State)

/-- The ramp step of the station's parameters. -/
def State.capStep (s : State) : Nat := rampStep s.par.station.rating s.par.solar.ramp s.periodMs

theorem scRun_shareCap : (scRun s).sc.shareCap = min s.be.figures.ownShare s.par.station.rating := rfl
theorem scRun_fwCap : (scRun s).sc.fwCap = fwCap s.be.figures.f s.fNom s.par.solar s.par.station.rating := rfl
theorem scRun_rawCap : (scRun s).sc.rawCap = min (scRun s).sc.shareCap (scRun s).sc.fwCap := rfl
theorem scRun_limitedCap : (scRun s).sc.limitedCap = rampLimit (scRun s).sc.rawCap s.sc.lastCap s.capStep := rfl
theorem scRun_final : ((scRun s).sc.override, (scRun s).sc.finalCap) =
    capOverride s.bsc.island s.cr.mode (scRun s).sc.limitedCap (rampLimit s.par.solar.fallbackCap s.sc.lastCap s.capStep) := rfl
theorem scRun_code : ((scRun s).sc.code : Int) =
    clamp 0 4095 (roundDiv ((scRun s).sc.finalCap * 4095) s.par.station.rating + s.par.solar.capOffset) := capCode_cast _ _ _

/-- The TAC takes the code of the record. -/
theorem scRun_capCode : (scRun s).tac.capCode = (scRun s).sc.code := clamp_capCode _ _ _

/-- A run sees no more of the state than its own record, the figures, the parameters, the mode and the island state. -/
theorem scRun_congr {s v : State} (hsc : v.sc = s.sc) (hisland : v.bsc.island = s.bsc.island) (hcr : v.cr = s.cr)
    (hbe : v.be = s.be) : (scRun v).sc = (scRun s).sc := by
  simp only [scRun, scCommand, State.writeCapCode, State.par, State.periodMs, State.fNom, hsc, hisland, hcr, hbe]

/-- With a share of 0 or more the raw cap lies in 0 to the rating. -/
theorem scRun_rawCap_mem (h : 0 ≤ s.be.figures.ownShare) :
    0 ≤ (scRun s).sc.rawCap ∧ (scRun s).sc.rawCap ≤ s.par.station.rating := by
  have hfw := fwCap_mem s.be.figures.f s.fNom s.par.solar s.par.station.rating
  rw [scRun_rawCap, scRun_shareCap, scRun_fwCap]
  omega

/-- From a last cap of 0 or more, with a fallback cap within the rating, the commanded cap lies in 0 to the rating (R131). -/
theorem scRun_finalCap_mem (hshare : 0 ≤ s.be.figures.ownShare) (hlast : 0 ≤ s.sc.lastCap)
    (hfallback : s.par.solar.fallbackCap ≤ s.par.station.rating) :
    0 ≤ (scRun s).sc.finalCap ∧ (scRun s).sc.finalCap ≤ s.par.station.rating := by
  obtain ⟨hraw, hrating⟩ := scRun_rawCap_mem s hshare
  obtain ⟨hlimited, hlimited'⟩ := rampLimit_mem s.capStep hraw hlast
  obtain ⟨hback, hback'⟩ := rampLimit_mem s.capStep (Int.natCast_nonneg s.par.solar.fallbackCap) hlast
  have hfinal : (scRun s).sc.finalCap = _ := congrArg Prod.snd (scRun_final s)
  rw [hfinal]
  exact capOverride_mem (by omega) ⟨hlimited, hlimited'.trans hrating⟩ ⟨hback, by omega⟩

end

/-! ### The command -/

theorem muHandOver_capSide (s : State) : (muHandOver s).capSide = s.capSide := by
  rw [muHandOver_eq]
  rfl

theorem muHandOver_cr (s : State) : (muHandOver s).cr = s.cr := by rw [muHandOver_eq]

theorem newFigures_ownShare_nonneg (s : State) : 0 ≤ s.newFigures.ownShare := by
  have hallow : 0 ≤ s.newFigures.allowance := by
    rw [newFigures_allowance]
    exact le_max_left _ _
  rw [newFigures_ownShare]
  split
  · exact Int.ediv_nonneg (mul_nonneg hallow (Int.natCast_nonneg _)) (Int.natCast_nonneg _)
  · rfl

/-- Of the readers of the figures the solar cap unit alone writes its record and the code, by a run on the state as they are reported. -/
theorem flFigures_scFigures_dsFigures_capSide {r : State} (hsolar : r.sc.state.isSome = true) :
    (flFigures (scFigures (dsFigures r))).capSide.1 = ((scRun r).sc, (scRun r).sc.code) := by
  have hsc : (dsFigures r).sc = r.sc := congrArg (·.1.1) (dsFigures_capSide r)
  have hisland : (dsFigures r).bsc.island = r.bsc.island := congrArg (·.2) (dsFigures_capSide r)
  have hkept := dsFigures_kept r
  have hrun : (scRun (dsFigures r)).sc = (scRun r).sc := scRun_congr hsc hisland (kept_cr hkept) (kept_be hkept)
  rw [flFigures_capSide, scFigures, if_pos (by rwa [hsc]), ← hrun, ← scRun_capCode]
  rfl

/-- At the balance timer's expiry the chain runs on the new figures and on the station as the expiry finds it. -/
theorem exec_balancePeriodExpiry_capRun {s : State} {t : Tick} (h : s.due .balance t) (hsolar : s.sc.state.isSome = true) :
    ∃ u, exec .balancePeriodExpiry s = .next u ∧ 0 ≤ u.be.figures.ownShare ∧
      u.sc = (scRun { s with be := u.be }).sc ∧ u.tac.capCode = (scRun { s with be := u.be }).sc.code := by
  obtain ⟨u, m, hu, hfig⟩ := exec_balancePeriodExpiry_figures h
  obtain ⟨hrun, hdue⟩ := h
  let r := beCompute (muHandOver (((s.stamp t).cancel .balance).start .balance s.balanceTicks))
  cases hu.symm.trans (onExpiry_due (id := .balance) beExpired hrun hdue)
  change (flFigures (scFigures (dsFigures r))).be.figures = _ at hfig
  have hbe : r.be = (flFigures (scFigures (dsFigures r))).be := (flFigures_scFigures_dsFigures_be r).symm
  have hside : r.capSide = s.capSide := muHandOver_capSide _
  have hsc : r.sc = s.sc := congrArg (·.1.1) hside
  have hchain : (scRun r).sc = (scRun { s with be := (flFigures (scFigures (dsFigures r))).be }).sc :=
    scRun_congr hsc (congrArg (·.2) hside) (muHandOver_cr _) hbe
  have hleft := flFigures_scFigures_dsFigures_capSide (r := r) (by rwa [hsc])
  rw [hchain] at hleft
  exact ⟨_, hu, hfig ▸ newFigures_ownShare_nonneg _, congrArg Prod.fst hleft, congrArg Prod.snd hleft⟩

/-! ### The statement -/

/-- Settles O34: at an expiry the chain runs once, on the new figures; its caps are those of `scRun`, whose parts are R129's, R130's,
R131's and R133's, and the ranges follow from those of the parts. -/
theorem capChainRuns : Obligations.CapChainRuns := by
  refine ⟨fun t s hdue hsolar => ?_, fun t s hdue hsolar hrating hramp hperiod => ?_⟩ <;>
    obtain ⟨u, hu, hshare, hsc, hcode⟩ := exec_balancePeriodExpiry_capRun hdue hsolar
  · intro q rating step limit nominal
    have hlimit (target : Int) : rampLimit target s.sc.lastCap s.capStep = limit target := by
      have hstep : (s.capStep : Int) = step := Nat.cast_max ..
      rw [rampLimit, hstep]
    refine ⟨u, hu, ?_⟩
    rw [hcode, hsc]
    refine ⟨rfl, rfl, rfl, scRun_shareCap _, fun f hf habove => ?_, fun hwithin => fwCap_of_within _ hwithin, scRun_rawCap _,
      (scRun_limitedCap _).trans (hlimit _), ?_, rfl, scRun_code _, rfl⟩
    · exact (congrArg (fwCap · s.fNom q s.par.station.rating) hf).trans (fwCap_of_above _ habove)
    · rw [scRun_final, ← hlimit]
      rfl
  · have hstep := rampStep_mem hrating hramp (Nat.mul_le_mul_right 50 hperiod)
    obtain ⟨hrise, hfall, hmost⟩ := rampLimit_cases (scRun { s with be := u.be }).sc.rawCap s.sc.lastCap s.capStep
    refine ⟨u, hu, ?_⟩
    rw [hsc]
    refine ⟨⟨s.capStep, ?_, by exact_mod_cast hstep.1, by exact_mod_cast hstep.2, hrise, hfall, hmost⟩,
      fun hlast hfallback => scRun_finalCap_mem { s with be := u.be } hshare hlast hfallback⟩
    exact_mod_cast rampStep_eq s.par.station.rating s.par.solar.ramp s.periodMs

end Sys2Proof.Machine
end

section
/-! SUPPORT. WRITE-CONFIG and COMMIT at the maintenance port: how a request closes on a free port, what each check of R187 answers, and
what a write does to the bytes of the staging buffer; and with them the statement that judges both. -/

namespace Sys2Proof.Machine

/-! ### Bytes put into a list -/

section

variable {l new : List Byte} {offset : Nat} (hfit : offset + new.length ≤ l.length)
include hfit

theorem putBytes_length : (putBytes l offset new).length = l.length := by
  simp only [putBytes, List.length_append, List.length_take, List.length_drop]
  omega

theorem putBytes_getElem?_inside {i : Nat} (hi : i < new.length) : (putBytes l offset new)[offset + i]? = new[i]? := by
  have htake : (l.take offset).length = offset := List.length_take_of_le (by omega)
  rw [putBytes, List.append_assoc, List.getElem?_append_right (by omega), htake, Nat.add_sub_cancel_left,
    List.getElem?_append_left hi]

theorem putBytes_getElem?_outside {i : Nat} (hi : i < offset ∨ offset + new.length ≤ i) :
    (putBytes l offset new)[i]? = l[i]? := by
  have htake : (l.take offset).length = offset := List.length_take_of_le (by omega)
  rw [putBytes, List.append_assoc]
  obtain hbefore | hafter := hi
  · rw [List.getElem?_append_left (by omega), List.getElem?_take_of_lt hbefore]
  · rw [List.getElem?_append_right (by omega), List.getElem?_append_right (by omega), List.getElem?_drop, htake]
    congr 1
    omega

end

/-! ### The checks (R187) -/

theorem State.mayConfigure_iff (s : State) :
    s.mayConfigure = true ↔ s.cr.mode = .service ∨ s.cr.mode = .fault ∧ s.level .service = .asserted := by
  simp [State.mayConfigure, State.asserted]

theorem writePayloadFits_iff (length : Byte) (data : List Byte) :
    writePayloadFits length data = true ↔ data.length = length.toNat ∧ length.toNat ≤ 38 := by
  simp [writePayloadFits]

section

variable {s : State} (offset length : Nat) (data : List Byte)

theorem answerWrite_refused (h : ¬ s.mayConfigure = true) : answerWrite offset length data s = .of .refusedService s := by
  rw [answerWrite, if_pos (by simpa using h)]

theorem answerCommit_refused (h : ¬ s.mayConfigure = true) : answerCommit s = .of .refusedService s := by
  rw [answerCommit, if_pos (by simpa using h)]

variable (hmay : s.mayConfigure = true)
include hmay

theorem answerWrite_busy (hcommit : s.cr.commit = .running) : answerWrite offset length data s = .of .busy s := by
  rw [answerWrite, if_neg (by simpa using hmay), if_pos hcommit]

theorem answerCommit_busy (hcommit : s.cr.commit = .running) : answerCommit s = .of .busy s := by
  rw [answerCommit, if_neg (by simpa using hmay), if_pos hcommit]

variable (hcommit : s.cr.commit ≠ .running)
include hcommit

theorem answerWrite_badRange (hout : length = 0 ∨ 32 < length ∨ 256 < offset + length) :
    answerWrite offset length data s = .of .badRange s := by
  rw [answerWrite, if_neg (by simpa using hmay), if_neg hcommit, if_pos hout]

theorem answerWrite_done (hin : ¬ (length = 0 ∨ 32 < length ∨ 256 < offset + length)) :
    answerWrite offset length data s = .of .done { s with mp := { s.mp with staging := putBytes s.mp.staging offset data } } := by
  rw [answerWrite, if_neg (by simpa using hmay), if_neg hcommit, if_neg hin]

theorem answerCommit_badRequest (hrec : recordValid s.mp.staging = false) : answerCommit s = .of .badRequest s := by
  rw [answerCommit, if_neg (by simpa using hmay), if_neg hcommit, if_pos (by simpa using hrec)]

theorem answerCommit_done (hrec : recordValid s.mp.staging = true) :
    answerCommit s = .of .done { s with cr := { s.cr with commit := .running } } := by
  rw [answerCommit, if_neg (by simpa using hmay), if_neg hcommit, if_neg (by simpa using hrec)]

end

/-! ### A request on a free port (R184, R185) -/

/-- The characters of a response without a payload. -/
def plainResponse (code : Byte) (result : Nat) : List Byte :=
  [0xA3, code, byte result, 0, 0] ++ crcBytes [code, byte result, 0, 0]

theorem responseChars_nil (code : Byte) (result : Result) : responseChars code result [] = plainResponse code result.code := by
  have hlength : bytesBE 2 ([] : List Byte).length = [0, 0] := rfl
  rw [responseChars, hlength]
  rfl

section

variable {s u : State} {result : Result} (t : Tick)
variable (hrun : s.phase = .running) (hfree : s.mp.response = none) (hheard : s.mp.discarding = false)
include hrun hfree hheard

/-- A request on a free port that is answered without a payload leaves the answer's state with the response in sending. -/
theorem whileRunning_mpRequest_plain {r : Request} (h : answer r (s.stamp t) = .of result u) :
    whileRunning (mpRequest t r) s =
      .next { u with mp := { u.mp with response := some (plainResponse r.code result.code) } } := by
  have hjudge : mpRequest t r s = mpJudge r (s.stamp t) := by
    obtain ⟨hd, -⟩ | ⟨-, -, hjudge⟩ | ⟨-, hbusy, -⟩ | ⟨-, hbusy, -⟩ := mpRequest_cases t r s
    · simp [hheard] at hd
    · exact hjudge
    · exact absurd hfree hbusy
    · exact absurd hfree hbusy
  rw [whileRunning_runs _ (by simp [State.runs, hrun]), hjudge, mpJudge, h, ← responseChars_nil]
  rfl

theorem exec_writeConfig_plain {offset length : Byte} {data : List Byte} (hfits : data.length = length.toNat ∧ length.toNat ≤ 38)
    (h : answerWrite offset.toNat length.toNat data (s.stamp t) = .of result u) :
    exec (.writeConfig t offset length data) s =
      .next { u with mp := { u.mp with response := some (plainResponse 6 result.code) } } := by
  have hrequest : writeRequest offset length data = .writeConfig offset length data :=
    if_pos ((writePayloadFits_iff length data).2 hfits)
  change whileRunning (mpRequest t (writeRequest offset length data)) s = _
  rw [hrequest]
  exact whileRunning_mpRequest_plain t hrun hfree hheard h

theorem exec_commit_plain (h : answerCommit (s.stamp t) = .of result u) :
    exec (.commit t) s = .next { u with mp := { u.mp with response := some (plainResponse 7 result.code) } } :=
  whileRunning_mpRequest_plain t hrun hfree hheard (r := .commit) h

end

/-! ### The statement -/

/-- Settles O49: on a free port each request is judged by the first of R187's checks that applies, and the bytes of a write that passes
them stand in the staging buffer at their offset. -/
theorem writesAndCommitsAreJudged : Obligations.WritesAndCommitsAreJudged := by
  intro t offset length data s hrun hfree hheard fits message allowed outside answered
  have hmay : (s.stamp t).mayConfigure = true ↔ allowed := (s.stamp t).mayConfigure_iff
  have hrange : length.toNat = 0 ∨ 32 < length.toNat ∨ 256 < offset.toNat + length.toNat ↔ outside :=
    or_congr_left (BitVec.toNat_eq (x := length) (y := 0)).symm
  refine ⟨fun hno => ?_, fun hallowed hcommit => ?_, fun hfits hallowed hcommit hout => ?_, fun hallowed hcommit hrec => ?_,
    fun hfits hallowed hcommit hin hstaging => ?_, fun hallowed hcommit hrec => ?_⟩
  · have hno := mt hmay.1 hno
    exact ⟨fun hfits => exec_writeConfig_plain t hrun hfree hheard hfits (answerWrite_refused _ _ _ hno),
      exec_commit_plain t hrun hfree hheard (answerCommit_refused hno)⟩
  · have hallowed := hmay.2 hallowed
    exact ⟨fun hfits => exec_writeConfig_plain t hrun hfree hheard hfits (answerWrite_busy _ _ _ hallowed hcommit),
      exec_commit_plain t hrun hfree hheard (answerCommit_busy hallowed hcommit)⟩
  · exact exec_writeConfig_plain t hrun hfree hheard hfits
      (answerWrite_badRange _ _ _ (hmay.2 hallowed) hcommit (hrange.2 hout))
  · exact exec_commit_plain t hrun hfree hheard (answerCommit_badRequest (hmay.2 hallowed) hcommit hrec)
  · have hin := mt hrange.1 hin
    have hlength : data.length = length.toNat := hfits.1
    have hfit : offset.toNat + data.length ≤ s.mp.staging.length := by omega
    refine ⟨putBytes s.mp.staging offset.toNat data, (putBytes_length hfit).trans hstaging, fun i hi => ?_, fun i hi => ?_,
      exec_writeConfig_plain t hrun hfree hheard hfits (answerWrite_done _ _ _ (hmay.2 hallowed) hcommit hin)⟩
    · exact putBytes_getElem?_inside hfit (hlength.symm ▸ hi)
    · exact putBytes_getElem?_outside hfit (hlength.symm ▸ hi)
  · exact exec_commit_plain t hrun hfree hheard (answerCommit_done (hmay.2 hallowed) hcommit hrec)

end Sys2Proof.Machine
end

section
/-! SUPPORT. What one step can do, said once: `Act` lists the updates that the commands are made of, each under the conditions on which
the model makes it, and a run of them is `Acts`. Each function of the jobs is a run of acts; what every act keeps, every job keeps. -/

namespace Sys2Proof.Machine

/-! ### The updates -/

/-- The state with the arbitration session, the drive of PERMIT, its edge reports and the permit-stuck cause as given. -/
def State.withSession (s : State) (x : Session) (pull edges stuck : Bool) : State :=
  { s with
    bsc := { s.bsc with session := x }
    tac := { s.tac with permitPull := pull, permitEdges := edges, alarm := { s.tac.alarm with permitStuck := stuck } } }

/-- A port enters a state, but for the look of the BSC (`flEnter`). -/
def portEntered (p : Port) (st : PortState) (dest : Option Destination) (cause : Option ShedCause) (s : State) : State :=
  let ripeness := s.ripenessOf p st cause
  let u := ((s.modifyPort p fun r =>
    { r with state := st, destination := dest, shedCause := cause, lastChange := s.tb, ripe := false, ripeness := ripeness }).retainPort
      p st cause).setAlarm (.portFaulted p) (st == .faulted)
  { u with fl := { u.fl with
    queue := if u.rotating p then requeue u.fl.queue p else u.fl.queue
    swap := u.fl.swap.bind fun w => w.onChange p st } }

theorem flEnter_eq (p : Port) (st : PortState) (dest : Option Destination) (cause : Option ShedCause) (s : State) :
    flEnter p st dest cause s = bscLook (portEntered p st dest cause s) := rfl

/-- The diesel record and the lines as FAILED leaves them, with the lockout (R119). -/
def State.failedWith (s : State) (d : Ds) : State :=
  { s with
    ds := d
    ret := { s.ret with run := false, lockout := true }
    tac := { s.tac with pwm := clamp (-1000) 1000 0, alarm := { s.tac.alarm with dieselFailed := true } } }

/-- The lockout cleared in FAILED, with the state that follows it entered (R119). -/
def State.unlockedTo (s : State) (st : DieselState) : State :=
  { s with
    ds := { s.ds with inhibitSeen := false }.enter st
    ret := { s.ret with lockout := false }
    tac := { s.tac with alarm := { s.tac.alarm with dieselFailed := false } } }

/-- A change of a port record that no other block is told of: the state and the shed cause stand, a destination is at most replaced by
another, and no close becomes active. -/
def PortRecord.quietly (r r' : PortRecord) : Prop :=
  r'.state = r.state ∧ r'.shedCause = r.shedCause ∧
    (r'.destination.isSome = r.destination.isSome ∨ r.state = .opening ∧ r'.destination.isSome = true) ∧
    (r'.closeActive = true → r.closeActive = true)

/-- The diesel sequencer holds a state but FAILED, or is about to take its first. -/
def State.dieselActive (s : State) : Prop := s.ds.state ≠ some .failed ∧ (s.ds.state.isSome = true ∨ s.cr.mode ≠ .startup)

/-- The diesel sequencer holds a state, or is about to take its first. -/
def State.dieselTaken (s : State) : Prop := s.ds.state.isSome = true ∨ s.cr.mode ≠ .startup

/-- The cap must stand at 0 whatever the chain says (R131). -/
def State.capForced (s : State) : Prop :=
  s.bsc.island = some .deadWait ∨ s.bsc.island = some .dark ∨ s.cr.mode = .startup ∨ s.cr.mode = .fault

/-! ### The acts -/

/-- What a run of acts may hold: close pulses of which breakers, changes of the port records, of the solar record, and of the island state
to DEAD-WAIT or DARK. In a strict run the diesel sequencer enters no state from FAILED, nor from none in STARTUP. -/
structure Scope where
  closes : Breaker → Prop
  ladder : Prop
  solar : Prop
  down : Prop
  strict : Prop

/-- The timers that the feeder ladder owns. -/
def ofLadder : TimerId → Bool
  | .ripeness _ | .restoreQual | .stepSpacing | .overload => true
  | _ => false

/-- Nothing that the scopes bound. -/
def Scope.core : Scope := ⟨fun _ => False, False, False, False, True⟩

/-- All but the close of the source breaker and a change of the island state to DEAD-WAIT or DARK. -/
def Scope.quiet : Scope := ⟨(· ≠ .source), True, True, False, True⟩

/-- All but the close of a feeder, with that of the source breaker where `c` holds. -/
def Scope.source (c : Prop) : Scope := ⟨fun b => b = .source ∧ c, True, True, True, True⟩

/-- Everything, in a strict run or not. -/
def Scope.full (strict : Prop) : Scope := ⟨fun _ => True, True, True, True, strict⟩

/-- One update of the state as a command makes it. -/
inductive Act (Z : Scope) (s : State) : State → Prop
  | time (t : Tick) : Act Z s { s with tb := t }
  | queue (l : List Instr) : Act Z s { s with pending := l }
  | pins (inputs : Qualifiers) (nextSample : Tick) (others c0 c1 : Bool) : Act Z s { s with tac := { s.tac with
      inputs := inputs, nextSample := nextSample, permitOthers := others, c0High := c0, c1High := c1 } }
  | pwmPeriod (t : Tick) : Act Z s { s with tac := { s.tac with pwmStart := t, pwmInUse := s.tac.pwm } }
  | measure (m : Mu) (hwindows : s.windowsOk → windowOk m.window ∧ windowOk m.srcWindow) : Act Z s { s with mu := m }
  | figures (b : Be) : Act Z s { s with be := b }
  | peers (v : Pv) (hconflict : v.conflict = s.pv.conflict) (htable : s.tableFormed → State.tableFormed { s with pv := v }) :
      Act Z s { s with pv := v }
  | port (m : Mp) : Act Z s { s with mp := m }
  | config (c : Cr) (n : Nat) (hmode : c.mode = s.cr.mode) (hparams : c.params = s.cr.params) : Act Z s { s with cr := c, freeCount := n }
  | link (x : Ilc) (henabled : x.transmitter.enabled = s.ilc.transmitter.enabled) (hstatus : x.status.isRunning = s.ilc.status.isRunning)
      (hstarted : x.started = s.ilc.started) (hconflict : x.conflict = s.ilc.conflict)
      (hslots : x.transmitter.enabled = false → x.slots = s.ilc.slots) (hrandom : s.ilc.random ≠ some 0 → x.random ≠ some 0) :
      Act Z s { s with ilc := x }
  | timer (id : TimerId) (x : Timer) (hrun : x.isRunning = true → (s.timer id).isRunning = true)
      (hstatus : id = .status → x.isRunning = s.ilc.status.isRunning) (hZ : ofLadder id = true → Z.ladder) : Act Z s (s.putTimer id x)
  | standby (b : Bool) : Act Z s { s with ret := { s.ret with intact := b } }
  | preDark (taken : Bool) (was : Quad Bool) : Act Z s { s with ret := { s.ret with darkTaken := taken, wasClosed := was } }
  | idlePulse (c : PulseChannel) : Act Z s (s.putPulse c .idle)
  | closePulse (b : Breaker) (x : Pulse) (hZ : Z.closes b) (htrip : (s.pulse (tripChannel b)).isActive = false)
      (hup : ∀ p, b = .feeder p → s.operating = true ∧ s.islandUp = true) : Act Z s (s.putPulse (closeChannel b) x)
  | tripPulse (b : Breaker) (x : Pulse) (hclose : (s.pulse (closeChannel b)).isActive = false) : Act Z s (s.putPulse (tripChannel b) x)
  | crankPulse (x : Pulse) : Act Z s (s.putPulse .crank x)
  | window (b : Breaker) (w : Window) : Act Z s (s.putWindow b w)
  | session (x : Session) (pull edges stuck : Bool)
      (hformed : s.sessionFormed → (s.withSession x pull edges stuck).sessionFormed) : Act Z s (s.withSession x pull edges stuck)
  | coordinator (b : Bsc) (hisland : b.island = s.bsc.island ∨ b.island = some .live ∨ b.island = some .recover)
      (hsession : b.session = s.bsc.session) : Act Z s { s with bsc := b }
  | down (i : Island) (hZ : Z.down) : Act Z s (s.setIsland i)
  | diesel (d : Ds) (hstate : d.state = s.ds.state) (hbias : d.bias = s.ds.bias) : Act Z s { s with ds := d }
  | enter (st : DieselState) (hst : st ≠ .failed) (hfrom : Z.strict → s.dieselActive) : Act Z s { s with ds := s.ds.enter st }
  | fail (d : Ds) (hstate : d.state = some .failed) (hbias : d.bias = 0) (hfrom : s.dieselTaken) : Act Z s (s.failedWith d)
  | unlock (st : DieselState) (hst : st ≠ .failed) (hfrom : s.ds.state = some .failed) : Act Z s (s.unlockedTo st)
  | run (b : Bool) (hstate : b = true → s.ds.state ≠ some .failed) : Act Z s (s.writeRun b)
  | bias (v : Int) (hrange : -1000 ≤ s.ds.bias → s.ds.bias ≤ 1000 → -1000 ≤ v ∧ v ≤ 1000) : Act Z s (setBias v s)
  | source (x : Sc) (hZ : Z.solar) (hcode : x.code = s.sc.code) (hcap : x.finalCap = s.sc.finalCap ∧ x.lastCap = s.sc.lastCap)
      (hstate : x.state = none → s.sc.state = none) : Act Z s { s with sc := x }
  | command (cap : Int) (override : CapOverride) (hZ : Z.solar) (hstate : s.sc.state.isSome = true) (hcap : s.capForced → cap = 0) :
      Act Z s (scCommand cap override s)
  | ladder (f : Fl) (hZ : Z.ladder) (hports : f.ports = s.fl.ports) : Act Z s { s with fl := f }
  | record (p : Port) (g : PortRecord → PortRecord) (hZ : Z.ladder) (hg : ∀ r, s.port p = some r → r.quietly (g r)) :
      Act Z s (s.modifyPort p g)
  | enterPort (p : Port) (st : PortState) (dest : Option Destination) (cause : Option ShedCause) (hZ : Z.ladder) (hst : st ≠ .closing)
      (hport : st = .faulted → (s.port p).isSome = true)
      (hdest : dest.isSome = true ↔ st = .opening) (hcause : cause.isSome = true ↔ st = .shed) : Act Z s (portEntered p st dest cause s)
  | beginClose (p : Port) (hZ : Z.ladder) (hnone : s.closeInFlight = false) :
      Act Z s (portEntered p .closing none none (s.modifyPort p fun r => { r with closeActive := true }))
  | foundPort (p : Port) (x : PortRecord) (st : PortState) (cause : Option ShedCause) (hZ : Z.ladder) (hx : x.closeActive = false)
      (hst : st ≠ .closing ∧ st ≠ .opening) (hcause : cause.isSome = true ↔ st = .shed) :
      Act Z s (portEntered p st none cause { s with fl := { s.fl with ports := s.fl.ports.set p (some x) } })

/-- A run of acts. -/
def Acts (Z : Scope) : State → State → Prop := Relation.ReflTransGen (Act Z)

section
variable {Z : Scope} {s t u : State}

theorem Acts.refl (s : State) : Acts Z s s := Relation.ReflTransGen.refl

theorem Acts.act (h : Acts Z s t) (ha : Act Z t u) : Acts Z s u := Relation.ReflTransGen.tail h ha

theorem Acts.trans (h : Acts Z s t) (h' : Acts Z t u) : Acts Z s u := Relation.ReflTransGen.trans h h'

/-- What every act keeps, a run keeps. -/
theorem Acts.keep {P : State → Prop} (h : Acts Z s t) (hact : ∀ s t, Act Z s t → P s → P t) (hs : P s) : P t := by
  induction h with
  | refl => exact hs
  | tail _ h ih => exact hact _ _ h ih

/-- What no act changes, no run changes. -/
theorem Acts.keep_eq {α : Type} {f : State → α} (h : Acts Z s t) (hact : ∀ s t, Act Z s t → f t = f s) : f t = f s :=
  h.keep (P := fun t => f t = f s) (fun _ _ hst hs => (hact _ _ hst).trans hs) rfl

end

section
variable {Z : Scope} {s₀ s : State}

/-! ### The shared operations -/

theorem cut_acts (c : PulseChannel) (h : Acts Z s₀ s) : Acts Z s₀ (s.cut c) := h.act (.idlePulse c)

theorem cancel_acts {id : TimerId} (hid : id ≠ .status) (hZ : ofLadder id = true → Z.ladder) (h : Acts Z s₀ s) :
    Acts Z s₀ (s.cancel id) :=
  h.act (.timer id .stopped nofun (fun hs => absurd hs hid) hZ)

theorem putDieselTimers_acts (x : DieselTimers) (h : Acts Z s₀ s) : Acts Z s₀ (s.putDieselTimers x) := h.act (.diesel _ rfl rfl)

theorem clearRun_acts (h : Acts Z s₀ s) : Acts Z s₀ (s.writeRun false) := h.act (.run false nofun)

theorem placeFrame_acts (k : FrameKind) (l : List Byte) (h : Acts Z s₀ s) : Acts Z s₀ (s.placeFrame k l) := by
  obtain ⟨hon, hu⟩ | ⟨-, hu⟩ := s.placeFrame_cases k l <;> rw [hu]
  · exact h.act (.link _ rfl rfl rfl rfl (fun hoff => Bool.noConfusion (hon.symm.trans hoff)) id)
  · exact h

theorem openWindowIf_acts (confirm : Bool) (b : Breaker) (r : Requester) (closed : Bool) (h : Acts Z s₀ s) :
    Acts Z s₀ (s.openWindowIf confirm b r closed).2 := by
  cases confirm with
  | false => exact h
  | true =>
    change Acts Z s₀ (s.openWindow b r closed).2
    obtain ⟨-, hu⟩ | ⟨-, hu⟩ := s.openWindow_cases b r closed <;> rw [hu] <;> exact h.act (.window b _)

theorem closeCut_acts (b : Breaker) (h : Acts Z s₀ s) : Acts Z s₀ (s.closeCut b) := by
  unfold State.closeCut
  split
  · obtain ⟨_, _, -, hu⟩ | ⟨-, hu⟩ := s.cutCloseForTrip_cases b <;> rw [hu]
    · exact (h.act (.idlePulse _)).act (.window b _)
    · exact h.act (.idlePulse _)
  · exact h

theorem requestTrip_acts (b : Breaker) (r : Requester) (w : Nat) (confirm : Bool) (h : Acts Z s₀ s) :
    Acts Z s₀ (s.requestTrip b r w confirm).2 := by
  obtain ⟨-, hu⟩ | ⟨-, -, hu⟩ | ⟨-, -, hu⟩ := s.requestTrip_cases b r w confirm <;> rw [hu]
  · exact h
  · exact h
  · exact openWindowIf_acts confirm b r false ((closeCut_acts b h).act (.tripPulse b _ (by rw [s.pulse_closeCut b]; rfl)))

theorem requestClose_acts {b : Breaker} (r : Requester) (w : Nat) (confirm : Bool) (hZ : Z.closes b)
    (hup : ∀ p, b = .feeder p → s.operating = true ∧ s.islandUp = true) (h : Acts Z s₀ s) :
    Acts Z s₀ (s.requestClose b r w confirm).2 := by
  obtain ⟨-, hu⟩ | ⟨-, -, hu⟩ | ⟨-, -, -, hu⟩ | ⟨-, -, htrip, hu⟩ := s.requestClose_cases b r w confirm <;> rw [hu]
  · exact h
  · exact h
  · exact h
  · exact openWindowIf_acts confirm b r true (h.act (.closePulse b _ hZ htrip hup))

theorem requestCrank_acts (w : Nat) (h : Acts Z s₀ s) : Acts Z s₀ (s.requestCrank w) := by
  obtain ⟨-, hu⟩ | ⟨-, hu⟩ := s.requestCrank_cases w <;> rw [hu]
  · exact h
  · exact h.act (.crankPulse _)

theorem cutLocal_acts (p : Port) (h : Acts Z s₀ s) : Acts Z s₀ (s.cutLocal p) := (cut_acts _ (cut_acts _ h)).act (.window _ _)

/-- Acts taken in turn are a run. -/
theorem foldl_acts {α : Type} {f : State → α → State} (hf : ∀ s a, Acts Z s₀ s → Acts Z s₀ (f s a)) (l : List α)
    (h : Acts Z s₀ s) : Acts Z s₀ (l.foldl f s) := by
  induction l generalizing s with
  | nil => exact h
  | cons a l ih => exact ih (hf s a h)

/-- A state held by the diesel sequencer is held over every run, if not the same one. -/
theorem Acts.dieselTaken (h : Acts Z s₀ s) : s₀.dieselTaken → s.dieselTaken := by
  refine h.keep fun s t hst hs => ?_
  cases hst with
  | diesel d hstate => exact hs.imp_left fun hs => (congrArg Option.isSome hstate).trans hs
  | enter | unlock => exact .inl rfl
  | fail d hstate => exact .inl (congrArg Option.isSome hstate)
  | config c n hmode => exact hs.imp_right fun hs => hmode.symm ▸ hs
  | timer id x => cases id <;> exact hs
  | _ => exact hs

/-- A run that changes no port record leaves the feeder ladder. -/
theorem Acts.fl_eq (h : Acts Z s₀ s) (hl : ¬ Z.ladder) : s.fl = s₀.fl := by
  refine h.keep_eq (f := State.fl) fun s t hst => ?_
  cases hst with
  | ladder f hZ | record p g hZ | enterPort p st dest cause hZ | beginClose p hZ | foundPort p x st cause hZ => exact absurd hZ hl
  | timer id x _ _ hZ =>
    cases id with
    | ripeness | restoreQual | stepSpacing | overload => exact absurd (hZ rfl) hl
    | _ => rfl
  | _ => rfl

/-- A run that changes no solar record leaves it. -/
theorem Acts.sc_eq (h : Acts Z s₀ s) (hs : ¬ Z.solar) : s.sc = s₀.sc := by
  refine h.keep_eq (f := State.sc) fun s t hst => ?_
  cases hst with
  | source x hZ | command cap override hZ => exact absurd hZ hs
  | timer id x => cases id <;> rfl
  | _ => rfl

theorem State.dieselActive_of {st : DieselState} (h : s.ds.state = some st) (hst : st ≠ .failed) : s.dieselActive :=
  ⟨fun h' => hst (Option.some.inj (h.symm.trans h')), .inl (by rw [h]; rfl)⟩

theorem State.dieselTaken_of {st : DieselState} (h : s.ds.state = some st) : s.dieselTaken := .inl (by rw [h]; rfl)

theorem State.dieselIs_iff {st : DieselState} : s.dieselIs st = true ↔ s.ds.state = some st := by simp [State.dieselIs]

/-! ### The arbitration session -/

theorem sessionEnd_acts (h : Acts Z s₀ s) : Acts Z s₀ (sessionEnd s) :=
  h.act (.session s.bsc.session.ended false false false fun _ => by
    simp [State.sessionFormed, State.withSession, Session.ended, Timer.isRunning])

theorem bscWithdraw_acts (h : Acts Z s₀ s) : Acts Z s₀ (bscWithdraw s) := by
  unfold bscWithdraw
  split
  · exact sessionEnd_acts h
  · exact h

theorem bscRequest_acts (h : Acts Z s₀ s) : Acts Z s₀ (bscRequest s).2 := by
  unfold bscRequest
  split
  · exact h
  next hidle =>
    rw [not_not] at hidle
    split
    · exact h
    · dsimp only
      split
      · refine h.act (.session
          { s.bsc.session with phase := .waiting, stuck := .running s.tb (sec s.par.black.permitTimeout) } s.tac.permitPull true
          s.tac.alarm.permitStuck fun hs => ?_)
        simp_all [State.sessionFormed, State.withSession, State.permitPhase, Timer.isRunning]
      · refine h.act (.session
          { s.bsc.session with
            phase := .waiting, guardOrigin := .request, guard := .running s.tb (ms s.par.black.guardTime) } s.tac.permitPull true
          s.tac.alarm.permitStuck fun hs => ?_)
        simp_all [State.sessionFormed, State.withSession, State.permitPhase, Timer.isRunning]

/-- In HOLD its two timers may be started and stopped. -/
theorem holdTimers_acts (hold liveWait : Timer) (hphase : s.bsc.session.phase = .hold) (h : Acts Z s₀ s) :
    Acts Z s₀ (s.putSession { s.bsc.session with hold := hold, liveWait := liveWait }) := by
  refine h.act (.session { s.bsc.session with hold := hold, liveWait := liveWait } s.tac.permitPull s.tac.permitEdges
    s.tac.alarm.permitStuck fun hs => ?_)
  simp only [State.sessionFormed, State.withSession, hphase] at hs ⊢
  tauto

theorem enterHold_acts (hphase : s.bsc.session.phase = .close) (h : Acts Z s₀ s) :
    Acts Z s₀ (s.putSession { s.bsc.session with phase := .hold }) := by
  refine h.act (.session { s.bsc.session with phase := .hold } s.tac.permitPull s.tac.permitEdges s.tac.alarm.permitStuck
    fun hs => ?_)
  simp only [State.sessionFormed, State.withSession, hphase] at hs ⊢
  simp_all

theorem bscConfirmed_acts (h : Acts Z s₀ s) : Acts Z s₀ (bscConfirmed s) := by
  unfold bscConfirmed
  split
  next hphase =>
    dsimp only
    split <;> exact holdTimers_acts _ _ rfl (enterHold_acts hphase h)
  · exact h

theorem bscCloseFailed_acts (h : Acts Z s₀ s) : Acts Z s₀ (bscCloseFailed s) := by
  unfold bscCloseFailed
  split
  · exact sessionEnd_acts h
  · exact h

theorem bscHoldLive_acts (h : Acts Z s₀ s) : Acts Z s₀ (bscHoldLive s) := by
  unfold bscHoldLive
  split
  next hphase =>
    simp only [Bool.and_eq_true, decide_eq_true_eq] at hphase
    exact holdTimers_acts _ _ hphase.1.1 (cancel_acts nofun nofun h)
  · exact h

/-! ### The states of the diesel sequencer -/

theorem clearBias_acts (h : Acts Z s₀ s) : Acts Z s₀ (setBias 0 s) := h.act (.bias 0 fun _ _ => by decide)

theorem dsEnter_acts (st : DieselState) (hst : st ≠ .failed) (hd : Z.strict → s.dieselActive) (h : Acts Z s₀ s) :
    Acts Z s₀ (dsEnter st s) := by
  unfold dsEnter
  dsimp only
  split
  · exact (sessionEnd_acts h).act (.enter st hst hd)
  · exact h.act (.enter st hst hd)

theorem dropIntent_acts (h : Acts Z s₀ s) : Acts Z s₀ (dropIntent s) := h.act (.diesel _ rfl rfl)

theorem openIntent_acts (k : IntentKind) (h : Acts Z s₀ s) : Acts Z s₀ (openIntent k s) :=
  putDieselTimers_acts _ (placeFrame_acts .intent _ (h.act (.diesel { s.ds with intent := some (k, s.tb) } rfl rfl)))

theorem dsWithdraw_acts (h : Acts Z s₀ s) : Acts Z s₀ (dsWithdraw s) := by
  unfold dsWithdraw
  split
  · exact bscWithdraw_acts h
  · exact h

theorem dsTrip_acts (confirm : Bool) (h : Acts Z s₀ s) : Acts Z s₀ (dsTrip confirm s).2 := requestTrip_acts .source .ds _ confirm h

theorem failedWith_eq (s : State) (e d : Ds) :
    ((setBias 0 { (State.cut { s with ds := e } .crank).writeRun false with ds := d }).setAlarm .dieselFailed true).writeLockout true =
      (s.cut .crank).failedWith { d with bias := 0 } := rfl

/-- FAILED, but for the end of a session in HOLD: its effects in one act. -/
theorem failed_acts {e d : Ds} (hd : s.dieselTaken) (hstate : d.state = some .failed) (h : Acts Z s₀ s) :
    Acts Z s₀ (((setBias 0 { (State.cut { s with ds := e } .crank).writeRun false with ds := d }).setAlarm .dieselFailed
      true).writeLockout true) := by
  rw [failedWith_eq]
  exact (cut_acts .crank h).act (.fail _ hstate rfl hd)

theorem dsEnterFailed_acts (hd : s.dieselTaken) (h : Acts Z s₀ s) : Acts Z s₀ (dsEnterFailed s) := by
  unfold dsEnterFailed dsEnter
  dsimp only
  split
  · exact failed_acts (s := sessionEnd s) hd rfl (sessionEnd_acts h)
  · exact failed_acts hd rfl h

theorem dsEnterOff_acts (hd : Z.strict → s.dieselActive) (h : Acts Z s₀ s) : Acts Z s₀ (dsEnterOff s) :=
  clearBias_acts (dsEnter_acts .off nofun hd h)

theorem dsEnterSpool_acts (hd : Z.strict → s.dieselActive) (h : Acts Z s₀ s) : Acts Z s₀ (dsEnterSpool s) :=
  putDieselTimers_acts _ (clearBias_acts (dsEnter_acts .spool nofun hd h))

theorem dsEnterCrank_acts (hd : Z.strict → s.dieselActive) (h : Acts Z s₀ s) : Acts Z s₀ (dsEnterCrank s) := by
  have hcrank : Acts Z s₀ ((setBias 0 (dsEnter .crank s)).writeRun true) :=
    (clearBias_acts (dsEnter_acts .crank nofun hd h)).act (.run true nofun)
  unfold dsEnterCrank
  dsimp only
  split
  · exact dsEnterSpool_acts (fun _ => State.dieselActive_of (st := .crank) rfl nofun) hcrank
  · exact requestCrank_acts _ (hcrank.act (.diesel _ rfl rfl))

theorem dsStartAtDark_acts (hd : Z.strict → s.dieselActive) (h : Acts Z s₀ s) : Acts Z s₀ (dsStartAtDark s) :=
  dsEnterCrank_acts hd ((putDieselTimers_acts _ h).act (.diesel _ rfl rfl))

theorem dsEnterStandby_acts (hd : Z.strict → s.dieselActive) (h : Acts Z s₀ s) : Acts Z s₀ (dsEnterStandby s) := by
  have hstandby : Acts Z s₀ (setBias 0 (dsEnter .standby s)) := clearBias_acts (dsEnter_acts .standby nofun hd h)
  unfold dsEnterStandby
  dsimp only
  split
  · exact dsStartAtDark_acts (fun _ => State.dieselActive_of (st := .standby) rfl nofun) hstandby
  · exact hstandby

theorem dsEnterIntent_acts (hd : Z.strict → s.dieselActive) (h : Acts Z s₀ s) : Acts Z s₀ (dsEnterIntent s) :=
  openIntent_acts .start ((dsEnter_acts .intent nofun hd h).act (.diesel _ rfl rfl))

theorem dsWithdrawStart_acts (hd : Z.strict → s.dieselActive) (h : Acts Z s₀ s) : Acts Z s₀ (dsWithdrawStart s) :=
  putDieselTimers_acts _ (dsEnterStandby_acts hd (putDieselTimers_acts _ (dropIntent_acts h)))

theorem dsEnterSync_acts (hd : Z.strict → s.dieselActive) (h : Acts Z s₀ s) : Acts Z s₀ (dsEnterSync s) :=
  putDieselTimers_acts _ ((dsEnter_acts .sync nofun hd h).act (.diesel _ rfl rfl))

theorem bscRequest_ds (s : State) : (bscRequest s).2.ds = s.ds := by
  unfold bscRequest
  split <;> [rfl; (split <;> [rfl; (dsimp only; split <;> rfl)])]

theorem dsEnterArbitrate_acts (hd : Z.strict → s.dieselActive) (h : Acts Z s₀ s) : Acts Z s₀ (dsEnterArbitrate s) := by
  have hrequest : Acts Z s₀ (bscRequest (setBias 0 (dsEnter .arbitrate s))).2 :=
    bscRequest_acts (clearBias_acts (dsEnter_acts .arbitrate nofun hd h))
  have hstate : (bscRequest (setBias 0 (dsEnter .arbitrate s))).2.ds.state = some .arbitrate := by rw [bscRequest_ds]; rfl
  unfold dsEnterArbitrate
  split
  next _ u hu =>
    rw [hu] at hrequest hstate
    exact dsEnterSync_acts (fun _ => State.dieselActive_of hstate nofun) hrequest
  next _ u hu =>
    rw [hu] at hrequest
    exact hrequest

theorem dsEnterStopIntent_acts (hd : Z.strict → s.dieselActive) (h : Acts Z s₀ s) : Acts Z s₀ (dsEnterStopIntent s) :=
  openIntent_acts .stop (putDieselTimers_acts _ (dsEnter_acts .stopIntent nofun hd h))

theorem dsForcedStop_acts (hd : Z.strict → s.dieselActive) (h : Acts Z s₀ s) : Acts Z s₀ (dsForcedStop s) :=
  dsEnterStopIntent_acts hd (h.act (.diesel _ rfl rfl))

theorem dsBackOnline_acts (hd : Z.strict → s.dieselActive) (h : Acts Z s₀ s) : Acts Z s₀ (dsBackOnline s) :=
  dropIntent_acts (putDieselTimers_acts _ (dsEnter_acts .online nofun hd h))

theorem dsAbandonUnload_acts (hd : Z.strict → s.dieselActive) (h : Acts Z s₀ s) : Acts Z s₀ (dsAbandonUnload s) :=
  putDieselTimers_acts _ (dsEnter_acts .online nofun hd h)

theorem bscConfirmed_ds (s : State) : (bscConfirmed s).ds = s.ds := by
  unfold bscConfirmed
  split <;> [(dsimp only; split <;> rfl); rfl]

theorem dsConfirmed_acts (h : Acts Z s₀ s) : Acts Z s₀ (dsConfirmed s) := by
  unfold dsConfirmed
  split
  next hclosing =>
    have honline : Acts Z s₀ (dsEnter .online s) := dsEnter_acts .online nofun (fun _ => State.dieselActive_of hclosing nofun) h
    have hbus : Acts Z s₀ (bscConfirmed { dsEnter .online s with ds := { (dsEnter .online s).ds with deadBusOnline := true } }) :=
      bscConfirmed_acts (honline.act (.diesel _ rfl rfl))
    dsimp only
    split
    · split
      · exact dsForcedStop_acts (fun _ => State.dieselActive_of (st := .online) (by rw [bscConfirmed_ds]; rfl) nofun) hbus
      · exact dsForcedStop_acts (fun _ => State.dieselActive_of (st := .online) rfl nofun) honline
    · split
      · exact hbus
      · exact honline
  next hopening =>
    exact putDieselTimers_acts _ (dsEnter_acts .cooldown nofun (fun _ => State.dieselActive_of hopening nofun) h)
  · exact h

theorem dsClosingFailed_acts (hd : s.dieselTaken) (h : Acts Z s₀ s) : Acts Z s₀ (dsClosingFailed s) := by
  have hfailed : Acts Z s₀ (dsEnterFailed (dsTrip false s).2) :=
    dsEnterFailed_acts ((dsTrip_acts false (.refl s) : Acts Z _ _).dieselTaken hd) (dsTrip_acts false h)
  unfold dsClosingFailed
  dsimp only
  split
  · exact bscCloseFailed_acts hfailed
  · exact hfailed

theorem dsNotConfirmed_acts (h : Acts Z s₀ s) : Acts Z s₀ (dsNotConfirmed s) := by
  unfold dsNotConfirmed
  split
  next hclosing => exact dsClosingFailed_acts (State.dieselTaken_of hclosing) h
  next hopening => exact dsEnterFailed_acts (State.dieselTaken_of hopening) h
  · exact h

theorem dsEnterClosing_acts (deadBus confirmed : Bool) (hd : Z.strict → s.dieselActive) (h : Acts Z s₀ s) :
    Acts Z s₀ (dsEnterClosing deadBus confirmed s) := by
  have hclosing : Acts Z s₀ (dsEnter .closing (s.cancel .sync)) := dsEnter_acts .closing nofun hd (putDieselTimers_acts _ h)
  have hmarked := hclosing.act
    (.diesel { (dsEnter .closing (s.cancel .sync)).ds with deadBusClose := deadBus, closingInhibit := false } rfl rfl)
  unfold dsEnterClosing
  dsimp only
  split
  · exact dsConfirmed_acts hmarked
  · exact hmarked

/-- A close request touches only the channels and the window of its breaker. -/
theorem sameButBreaker_of_requestClose {u : State} {b : Breaker} {r : Requester} {w : Nat} {confirm : Bool} {a : PulseReply}
    (h : s.requestClose b r w confirm = (a, u)) : s.SameButBreaker b u := by
  obtain ⟨-, hcase⟩ | ⟨-, -, hcase⟩ | ⟨-, -, -, hcase⟩ | ⟨-, -, -, hcase⟩ := s.requestClose_cases b r w confirm <;>
    cases hcase.symm.trans h
  case inr.inr.inr => exact (State.SameButBreaker.refl b s).request (.inl rfl) r w confirm true
  all_goals exact .refl b s

/-- A trip request touches only the channels and the window of its breaker. -/
theorem sameButBreaker_of_requestTrip {u : State} {b : Breaker} {r : Requester} {w : Nat} {confirm : Bool} {a : PulseReply}
    (h : s.requestTrip b r w confirm = (a, u)) : s.SameButBreaker b u := by
  obtain ⟨-, hcase⟩ | ⟨-, -, hcase⟩ | ⟨-, -, hcase⟩ := s.requestTrip_cases b r w confirm <;> cases hcase.symm.trans h
  case inr.inr => exact (s.sameButBreaker_closeCut b).request (.inr rfl) r w confirm false
  all_goals exact .refl b s

theorem State.SameButBreaker.dieselActive {b : Breaker} {u : State} (h : s.SameButBreaker b u) (hd : s.dieselActive) :
    u.dieselActive := by
  obtain ⟨-, -, tac, rfl, -⟩ := h
  exact hd

theorem dsCloseFromSync_acts (hZ : Z.closes .source) (hd : Z.strict → s.dieselActive) (h : Acts Z s₀ s) :
    Acts Z s₀ (dsCloseFromSync s) := by
  have hclose : Acts Z s₀ (s.requestClose .source .ds s.par.diesel.pulse true).2 := requestClose_acts .ds _ true hZ nofun h
  unfold dsCloseFromSync
  split
  next _ confirmed u hu =>
    rw [hu] at hclose
    exact dsEnterClosing_acts false confirmed (fun hs => (sameButBreaker_of_requestClose hu).dieselActive (hd hs)) hclose
  next _ u _ hu =>
    rw [hu] at hclose
    exact hclose.act (.diesel _ rfl rfl)

theorem dsWon_acts (hZ : Z.closes .source) (h : Acts Z s₀ s) : Acts Z s₀ (dsWon s) := by
  have hclose : Acts Z s₀ (s.requestClose .source .ds s.par.diesel.pulse true).2 := requestClose_acts .ds _ true hZ nofun h
  unfold dsWon
  split
  next harbitrate =>
    have hd : s.dieselActive := State.dieselActive_of (State.dieselIs_iff.1 harbitrate) nofun
    split
    next _ confirmed u hu =>
      rw [hu] at hclose
      exact dsEnterClosing_acts true confirmed (fun _ => (sameButBreaker_of_requestClose hu).dieselActive hd) hclose
    next _ u _ hu =>
      rw [hu] at hclose
      have hu' : u.dieselTaken := ((sameButBreaker_of_requestClose hu).dieselActive hd).2
      exact dsEnterFailed_acts ((bscCloseFailed_acts (.refl u) : Acts Z _ _).dieselTaken hu') (bscCloseFailed_acts hclose)
  · exact h

theorem dsLostOrLive_acts (h : Acts Z s₀ s) : Acts Z s₀ (dsLostOrLive s) := by
  unfold dsLostOrLive
  split
  next harbitrate => exact dsEnterSync_acts (fun _ => State.dieselActive_of (State.dieselIs_iff.1 harbitrate) nofun) h
  · exact h

theorem dsEnterOpening_acts (hd : Z.strict → s.dieselActive) (h : Acts Z s₀ s) : Acts Z s₀ (dsEnterOpening s) := by
  unfold dsEnterOpening
  cases hu : dsTrip true (s.cancel .unload) with
  | mk r u =>
    have hopening : Acts Z s₀ (dsEnter .opening u) :=
      dsEnter_acts .opening nofun (fun hs => (sameButBreaker_of_requestTrip hu).dieselActive (hd hs))
        (by simpa only [hu] using dsTrip_acts true (cancel_acts (id := .unload) nofun nofun h))
    dsimp only
    split
    · exact dsConfirmed_acts hopening
    · exact hopening

theorem dsJudgeSpool_acts (hd : s.dieselActive) (h : Acts Z s₀ s) : Acts Z s₀ (dsJudgeSpool s) := by
  unfold dsJudgeSpool
  split
  · split
    · exact dsEnterSync_acts (fun _ => hd) h
    · exact dsEnterSync_acts (fun _ => hd) h
    · exact dsEnterArbitrate_acts (fun _ => hd) h
    · exact h
  · exact dsEnterFailed_acts hd.2 h

theorem dsTripOffDark_acts (hd : s.dieselTaken) (h : Acts Z s₀ s) : Acts Z s₀ (dsTripOffDark s) :=
  dsEnterFailed_acts ((dsTrip_acts false (.refl s) : Acts Z _ _).dieselTaken hd) (dsTrip_acts false h)

theorem dsDark_acts (h : Acts Z s₀ s) : Acts Z s₀ (dsDark s) := by
  have h' : Acts Z s₀ { s with ds := { s.ds with deadBusOnline := false } } := h.act (.diesel _ rfl rfl)
  unfold dsDark
  dsimp only
  split
  next hstate =>
    split
    · exact dsStartAtDark_acts (fun _ => State.dieselActive_of hstate nofun) h'
    · exact h'
  next hstate =>
    split
    · exact dsEnterCrank_acts (fun _ => State.dieselActive_of hstate nofun) (dropIntent_acts (putDieselTimers_acts _ h'))
    · exact h'
  iterate 3
    next hstate =>
      split
      · exact dsTripOffDark_acts (State.dieselTaken_of hstate) h'
      · exact h'
  next hstate => exact dsEnterArbitrate_acts (fun _ => State.dieselActive_of hstate nofun) (putDieselTimers_acts _ h')
  · exact h'

theorem dsIslandChange_acts (h : Acts Z s₀ s) : Acts Z s₀ (dsIslandChange s) := by
  have hneed : Acts Z s₀ (if s.islandUp then s else { s with ds := { s.ds with needSince := none } }) := by
    split
    · exact h
    · exact h.act (.diesel _ rfl rfl)
  unfold dsIslandChange
  generalize (if s.islandUp then s else { s with ds := { s.ds with needSince := none } }) = u at hneed
  have hdark : Acts Z s₀ (if u.bsc.island = some .dark then dsDark u else u) := by
    split
    · exact dsDark_acts hneed
    · exact hneed
  dsimp only
  generalize (if u.bsc.island = some .dark then dsDark u else u) = v at hdark
  split
  next hspool =>
    rw [Bool.and_eq_true, State.dieselIs_iff] at hspool
    exact dsJudgeSpool_acts (State.dieselActive_of hspool.1 nofun) hdark
  · exact hdark

end

end Sys2Proof.Machine
end

section
/-! SUPPORT. What the feeder ladder, the ports and the lockout do, as runs of acts. -/

namespace Sys2Proof.Machine

section
variable {Z : Scope} {s₀ s : State}

theorem unlockedTo_eq {st : DieselState} (h : s.ds.state = some .failed) :
    dsEnter st { (s.setAlarm .dieselFailed false).writeLockout false with
      ds := { ((s.setAlarm .dieselFailed false).writeLockout false).ds with inhibitSeen := false } } = s.unlockedTo st := by
  unfold dsEnter
  rw [if_neg]
  · rfl
  · simp [State.dieselIs, h]

theorem dsClearLockout_acts (hd : s.ds.state = some .failed) (h : Acts Z s₀ s) : Acts Z s₀ (dsClearLockout s) := by
  have hunlock (st : DieselState) (hst : st ≠ .failed) : Acts Z s₀ (setBias 0 (s.unlockedTo st)) :=
    clearBias_acts (h.act (.unlock st hst hd))
  unfold dsClearLockout dsEnterOff dsEnterStandby
  dsimp only
  rw [unlockedTo_eq hd, unlockedTo_eq hd]
  split
  · exact hunlock .off nofun
  · split
    · exact dsStartAtDark_acts (fun _ => State.dieselActive_of (st := .standby) rfl nofun) (hunlock .standby nofun)
    · exact hunlock .standby nofun

/-- The entry to OFF from a state of a start or of rest, where the mode allows it (R100). -/
theorem enterOffIf_acts {st : DieselState} {u : State} (hu : u.ds.state = some st) (hst : st ≠ .failed) (p : Bool)
    (h : Acts Z s₀ s) (h' : Acts Z s₀ u) : Acts Z s₀ (if p = true then dsEnterOff u else s) := by
  split
  · exact dsEnterOff_acts (fun _ => State.dieselActive_of hu hst) h'
  · exact h

theorem bscWithdraw_ds (s : State) : (bscWithdraw s).ds = s.ds := by
  unfold bscWithdraw
  split <;> rfl

theorem dsWithdraw_ds (s : State) : (dsWithdraw s).ds = s.ds := by
  unfold dsWithdraw
  split <;> [exact bscWithdraw_ds s; rfl]

theorem dsInhibitAsserted_acts (h : Acts Z s₀ s) : Acts Z s₀ (dsInhibitAsserted s) := by
  unfold dsInhibitAsserted
  split
  next hst => exact enterOffIf_acts (u := s.cancel .holdoff) hst nofun _ h (putDieselTimers_acts _ h)
  next hst => exact enterOffIf_acts (u := dropIntent (s.cancel .window)) hst nofun _ h (dropIntent_acts (cancel_acts nofun nofun h))
  next hst => exact enterOffIf_acts (u := (s.cut .crank).writeRun false) hst nofun _ h (clearRun_acts (cut_acts _ h))
  next hst => exact enterOffIf_acts (u := (s.cancel .rest).writeRun false) hst nofun _ h (clearRun_acts (cancel_acts nofun nofun h))
  next hst => exact enterOffIf_acts (u := (s.cancel .spool).writeRun false) hst nofun _ h (clearRun_acts (cancel_acts nofun nofun h))
  next hst => exact enterOffIf_acts (u := (s.cancel .sync).writeRun false) hst nofun _ h (clearRun_acts (cancel_acts nofun nofun h))
  next hst =>
    exact enterOffIf_acts (u := (dsWithdraw s).writeRun false)
      ((congrArg Ds.state (dsWithdraw_ds s)).trans hst) nofun _ h (clearRun_acts (dsWithdraw_acts h))
  · exact h.act (.diesel _ rfl rfl)
  next hst =>
    split
    · exact dsForcedStop_acts (fun _ => State.dieselActive_of hst nofun) h
    · exact h
  iterate 2
    split
    · exact h.act (.diesel _ rfl rfl)
    · exact h
  · exact h.act (.diesel _ rfl rfl)
  · exact h

theorem dsInhibitReleased_acts (h : Acts Z s₀ s) : Acts Z s₀ (dsInhibitReleased s) := by
  unfold dsInhibitReleased
  split
  next hst => exact dsEnterStandby_acts (fun _ => State.dieselActive_of hst nofun) h
  next hst =>
    split
    · exact dsClearLockout_acts hst h
    · exact h
  · exact h

theorem dsIntentNotice_acts (sender : Nat) (kind : IntentKind) (rank : Nat) (h : Acts Z s₀ s) :
    Acts Z s₀ (dsIntentNotice sender kind rank s) := by
  unfold dsIntentNotice
  dsimp only
  split
  next hst =>
    split
    · exact dsWithdrawStart_acts (fun _ => State.dieselActive_of hst nofun) h
    · exact h
  next hst =>
    split
    · exact dsBackOnline_acts (fun _ => State.dieselActive_of hst nofun) h
    · exact h
  · exact h

theorem dsLossNotice_acts (h : Acts Z s₀ s) : Acts Z s₀ (dsLossNotice s) := by
  unfold dsLossNotice
  split
  · exact putDieselTimers_acts _ h
  · exact h

/-! ### The diesel sequencer at a change of mode -/

theorem dsHold_acts (h : Acts Z s₀ s) : Acts Z s₀ (dsHold s) := by
  have h' : Acts Z s₀ { s with ds := { s.ds with needSince := none, forcedStop := false } } := h.act (.diesel _ rfl rfl)
  unfold dsHold
  dsimp only
  split
  next hst =>
    exact clearRun_acts (dsEnterStandby_acts (fun _ => State.dieselActive_of hst nofun) (dropIntent_acts (putDieselTimers_acts _ h')))
  next hst => exact dsEnterStandby_acts (fun _ => State.dieselActive_of hst nofun) (clearRun_acts (cut_acts _ h'))
  iterate 3
    next hst => exact dsEnterStandby_acts (fun _ => State.dieselActive_of hst nofun) (clearRun_acts (putDieselTimers_acts _ h'))
  next hst =>
    exact dsEnterStandby_acts (fun _ => State.dieselActive_of ((congrArg Ds.state (dsWithdraw_ds _)).trans hst) nofun)
      (clearRun_acts (dsWithdraw_acts h'))
  · exact putDieselTimers_acts _ h'
  next hst => exact dsBackOnline_acts (fun _ => State.dieselActive_of hst nofun) h'
  next hst => exact dsAbandonUnload_acts (fun _ => State.dieselActive_of hst nofun) h'
  · exact h'

theorem dsAlone_acts (h : Acts Z s₀ s) : Acts Z s₀ (dsAlone s) := by
  have h' : Acts Z s₀ (s.cancel .stop) := putDieselTimers_acts _ h
  unfold dsAlone
  dsimp only
  split
  next hst =>
    split
    · exact h'
    · exact dsBackOnline_acts (fun _ => State.dieselActive_of hst nofun) h'
  next hst =>
    split
    · exact h'
    · exact dsAbandonUnload_acts (fun _ => State.dieselActive_of hst nofun) h'
  · exact h'

theorem dsResume_acts (h : Acts Z s₀ s) : Acts Z s₀ (dsResume s) := by
  have h' : Acts Z s₀ (State.cancel { s with ds := { s.ds with needSince := none } } .stop) :=
    putDieselTimers_acts _ (h.act (.diesel { s.ds with needSince := none } rfl rfl))
  unfold dsResume
  dsimp only
  split
  next hst =>
    have hd := State.dieselActive_of hst nofun
    split
    · exact dsEnterOff_acts (fun _ => hd) (putDieselTimers_acts _ h')
    · split
      · exact dsStartAtDark_acts (fun _ => hd) h'
      · exact h'
  next hst =>
    split
    · exact dsTripOffDark_acts (State.dieselTaken_of hst) h'
    · split
      · exact dsForcedStop_acts (fun _ => State.dieselActive_of hst nofun) h'
      · exact h'
  · exact h'

/-! ### The entry to LIVE -/

theorem clearPreDark_acts (h : Acts Z s₀ s) : Acts Z s₀ (clearPreDark s) := h.act (.preDark _ _)

theorem putBscTimer_acts {b : Bsc} (hisland : b.island = s.bsc.island) (hsession : b.session = s.bsc.session) (h : Acts Z s₀ s) :
    Acts Z s₀ { s with bsc := b } := h.act (.coordinator b (.inl hisland) hsession)

theorem bscEnterLive_acts (h : Acts Z s₀ s) : Acts Z s₀ (bscEnterLive s) :=
  bscHoldLive_acts (dsIslandChange_acts
    ((clearPreDark_acts (putBscTimer_acts (b := { s.bsc with recover := .stopped }) rfl rfl h)).act
      (.coordinator { s.bsc with recover := .stopped, island := some .live } (.inr (.inl rfl)) rfl)))

theorem bscLook_acts (h : Acts Z s₀ s) : Acts Z s₀ (bscLook s) := by
  unfold bscLook
  split
  · exact bscEnterLive_acts h
  · exact h

/-! ### The ports -/

theorem bscLook_fl (s : State) : (bscLook s).fl = s.fl := (bscLook_acts (Z := .core) (.refl s)).fl_eq id

/-- The record of a port that has entered a state. -/
def PortRecord.entered (r : PortRecord) (st : PortState) (dest : Option Destination) (cause : Option ShedCause) (t : Tick)
    (ripeness : Timer) : PortRecord :=
  { r with state := st, destination := dest, shedCause := cause, lastChange := t, ripe := false, ripeness := ripeness }

theorem portEntered_port_same (p : Port) (st : PortState) (dest : Option Destination) (cause : Option ShedCause) (s : State) :
    (portEntered p st dest cause s).port p = (s.port p).map (·.entered st dest cause s.tb (s.ripenessOf p st cause)) :=
  Quad.get_set_same _ _ _

theorem portEntered_port_other {p q : Port} (hq : q ≠ p) (st : PortState) (dest : Option Destination) (cause : Option ShedCause)
    (s : State) : (portEntered p st dest cause s).port q = s.port q :=
  Quad.get_set_other _ _ hq

theorem flEnter_port_same (p : Port) (st : PortState) (dest : Option Destination) (cause : Option ShedCause) (s : State) :
    (flEnter p st dest cause s).port p = (s.port p).map (·.entered st dest cause s.tb (s.ripenessOf p st cause)) := by
  rw [flEnter_eq, State.port, bscLook_fl]
  exact portEntered_port_same p st dest cause s

theorem flEnter_port_other {p q : Port} (hq : q ≠ p) (st : PortState) (dest : Option Destination) (cause : Option ShedCause)
    (s : State) : (flEnter p st dest cause s).port q = s.port q := by
  rw [flEnter_eq, State.port, bscLook_fl]
  exact portEntered_port_other hq st dest cause s

theorem State.SameButBreaker.fl {b : Breaker} {u : State} (h : s.SameButBreaker b u) : u.fl = s.fl := by
  obtain ⟨-, -, tac, rfl, -⟩ := h
  rfl

theorem PortRecord.quietly_of_eq {r r' : PortRecord} (hstate : r'.state = r.state) (hcause : r'.shedCause = r.shedCause)
    (hdest : r'.destination = r.destination) (hclose : r'.closeActive = true → r.closeActive = true) : r.quietly r' :=
  ⟨hstate, hcause, .inl (congrArg _ hdest), hclose⟩

end

section
variable {Z : Scope} {s₀ s : State} (hl : Z.ladder)
include hl

/-- A port enters a state but CLOSING and FAULTED, with the look of the BSC. -/
theorem flEnter_acts {p : Port} {st : PortState} {dest : Option Destination} {cause : Option ShedCause} 
    (hst : st ≠ .closing ∧ st ≠ .faulted) (hdest : dest.isSome = true ↔ st = .opening) (hcause : cause.isSome = true ↔ st = .shed) (h : Acts Z s₀ s) :
    Acts Z s₀ (flEnter p st dest cause s) :=
  bscLook_acts (h.act (.enterPort p st dest cause hl hst.1 (fun hf => absurd hf hst.2) hdest hcause))

theorem flFault_acts {p : Port} {st : PortState} (hport : s.portState p = some st) (h : Acts Z s₀ s) :
    Acts Z s₀ (flEnter p .faulted none none s) := by
  have hsome : (s.port p).isSome = true := by
    rw [← Option.isSome_map, show (s.port p).map (·.state) = some st from hport]
    rfl
  exact bscLook_acts (h.act (.enterPort p .faulted none none hl nofun (fun _ => hsome) (by simp) (by simp)))

theorem flAbandonSwap_acts (h : Acts Z s₀ s) : Acts Z s₀ (flAbandonSwap s) := h.act (.ladder _ hl rfl)

theorem flCloseConfirmed_acts (p : Port) (h : Acts Z s₀ s) : Acts Z s₀ (flCloseConfirmed p s) :=
  flEnter_acts hl ⟨nofun, nofun⟩ (by simp) (by simp) h

theorem flClose_acts {p : Port} (hZ : Z.closes (.feeder p)) (h : Acts Z s₀ s) : Acts Z s₀ (flClose p s).2 := by
  unfold flClose
  split
  next hmay =>
    simp only [State.mayClose, Bool.and_eq_true, Bool.not_eq_true'] at hmay
    obtain ⟨⟨⟨hoperating, hisland⟩, hnone⟩, -⟩ := hmay
    have hclose : Acts Z s₀ (s.requestClose (.feeder p) .fl (s.par.port.get p).pulseWidth true).2 :=
      requestClose_acts .fl _ true hZ (fun _ _ => ⟨hoperating, hisland⟩) h
    split
    next _ confirmed u hu =>
      rw [hu] at hclose
      have hfl : u.fl = s.fl := (sameButBreaker_of_requestClose hu).fl
      have hbegun : Acts Z s₀ (flEnter p .closing none none (u.modifyPort p fun r => { r with closeActive := true })) :=
        bscLook_acts (hclose.act (.beginClose p hl (by simpa only [State.closeInFlight, State.port, hfl] using hnone)))
      dsimp only
      split
      · exact flCloseConfirmed_acts hl p hbegun
      · exact hbegun
    next _ u _ hu =>
      rw [hu] at hclose
      exact hclose
  · exact h

theorem flRestartSpacing_acts (h : Acts Z s₀ s) : Acts Z s₀ (flRestartSpacing s) := h.act (.ladder _ hl rfl)

theorem flAnnounceStep_acts (p : Port) (h : Acts Z s₀ s) : Acts Z s₀ (flAnnounceStep p s) :=
  flRestartSpacing_acts hl (placeFrame_acts .step _ h)

theorem flSwapClose_acts {w : Swap} (hZ : Z.closes (.feeder w.closePort)) (h : Acts Z s₀ s) : Acts Z s₀ (flSwapClose w s) := by
  have hclose := flClose_acts hl hZ (h.act (.ladder { s.fl with swap := some { w with step := .closing } } hl rfl))
  unfold flSwapClose
  dsimp only
  split
  next u hu =>
    rw [hu] at hclose
    exact flAnnounceStep_acts hl _ hclose
  next u hu =>
    rw [hu] at hclose
    exact flAbandonSwap_acts hl hclose

theorem flOpenConfirmed_acts {p : Port}
    (hZ : (s.port p).bind (·.destination) = some (.shed .rotation) → ∀ q, Z.closes (.feeder q)) (h : Acts Z s₀ s) :
    Acts Z s₀ (flOpenConfirmed p s) := by
  unfold flOpenConfirmed
  split
  next cause hdest =>
    have hshed : Acts Z s₀ (flEnter p .shed none (some cause) s) := flEnter_acts hl ⟨nofun, nofun⟩ (by simp) (by simp) h
    dsimp only
    split
    · split
      next hrotation =>
        simp only [Bool.and_eq_true, decide_eq_true_eq] at hrotation
        exact flSwapClose_acts hl (hZ (hrotation.2 ▸ hdest) _) hshed
      · exact hshed
    · exact hshed
  · exact flEnter_acts hl ⟨nofun, nofun⟩ (by simp) (by simp) h
  · exact h

theorem flTrip_acts {p : Port} {dest : Destination} (hZ : dest = .shed .rotation → ∀ q, Z.closes (.feeder q)) (h : Acts Z s₀ s) :
    Acts Z s₀ (flTrip p dest s).2 := by
  have htrip : Acts Z s₀ (s.requestTrip (.feeder p) .fl (s.par.port.get p).pulseWidth true).2 := requestTrip_acts _ _ _ _ h
  unfold flTrip
  split
  · split
    next _ cut confirmed u hu =>
      rw [hu] at htrip
      have hopening :
          Acts Z s₀ (flEnter p .opening (some dest) none (u.modifyPort p fun r => { r with closeActive := r.closeActive && !cut })) :=
        flEnter_acts hl ⟨nofun, nofun⟩ (by simp) (by simp) (htrip.act (.record p _ hl fun r _ => PortRecord.quietly_of_eq rfl rfl rfl (by simp_all)))
      dsimp only
      split
      · refine flOpenConfirmed_acts hl (fun hdest => hZ ?_) hopening
        rw [flEnter_port_same] at hdest
        cases hr : (u.modifyPort p fun r => { r with closeActive := r.closeActive && !cut }).port p with
        | none => simp [hr] at hdest
        | some r => simpa [hr, PortRecord.entered] using hdest
      · exact hopening
    next _ _ u hu =>
      rw [hu] at htrip
      exact htrip.act (.record p _ hl fun r _ => PortRecord.quietly_of_eq rfl rfl rfl id)
    next _ _ u hu =>
      rw [hu] at htrip
      exact htrip
  · exact h

theorem flTripAll_acts {dest : Destination} (ports : List Port) (hdest : dest ≠ .shed .rotation) (h : Acts Z s₀ s) :
    Acts Z s₀ (flTripAll dest ports s) :=
  foldl_acts (fun _ _ h => flTrip_acts hl (fun hd => absurd hd hdest) h) ports h

theorem flConfirmed_acts {p : Port} (hZ : ∀ q, Z.closes (.feeder q)) (h : Acts Z s₀ s) : Acts Z s₀ (flConfirmed p s) := by
  unfold flConfirmed
  split
  · exact flCloseConfirmed_acts hl p h
  · exact flOpenConfirmed_acts hl (fun _ => hZ) h
  · exact h

theorem flNotConfirmed_acts (p : Port) (h : Acts Z s₀ s) : Acts Z s₀ (flNotConfirmed p s) := by
  unfold flNotConfirmed
  split
  next hport => exact flFault_acts hl hport h
  next hport => exact flFault_acts hl hport h
  · exact h

theorem flCloseEnded_acts (p : Port) (h : Acts Z s₀ s) : Acts Z s₀ (flCloseEnded p s) :=
  h.act (.record p _ hl fun _ _ => PortRecord.quietly_of_eq rfl rfl rfl nofun)

theorem flTripEnded_acts {p : Port} (hZ : ∀ q, Z.closes (.feeder q)) (h : Acts Z s₀ s) : Acts Z s₀ (flTripEnded p s) := by
  unfold flTripEnded
  split
  · exact (flTrip_acts hl (fun _ => hZ) h).act (.record p _ hl fun _ _ => PortRecord.quietly_of_eq rfl rfl rfl id)
  · exact h

theorem flBreakerChange_acts (p : Port) (assertedNow : Bool) (h : Acts Z s₀ s) : Acts Z s₀ (flBreakerChange p assertedNow s) := by
  unfold flBreakerChange
  split
  next hport => exact flFault_acts hl hport h
  · exact flEnter_acts hl ⟨nofun, nofun⟩ (by simp) (by simp) h
  · exact flEnter_acts hl ⟨nofun, nofun⟩ (by simp) (by simp) h
  · exact h

theorem flLocalAsserted_acts (p : Port) (h : Acts Z s₀ s) : Acts Z s₀ (flLocalAsserted p s) := by
  unfold flLocalAsserted
  split
  · exact flEnter_acts hl ⟨nofun, nofun⟩ (by simp) (by simp) (h.act (.record p _ hl fun _ _ => PortRecord.quietly_of_eq rfl rfl rfl nofun))
  · exact h

theorem flLocalReleased_acts (p : Port) (h : Acts Z s₀ s) : Acts Z s₀ (flLocalReleased p s) := by
  have h' : Acts Z s₀ (s.modifyPort p fun r => { r with localHeld := false }) :=
    h.act (.record p _ hl fun _ _ => PortRecord.quietly_of_eq rfl rfl rfl id)
  unfold flLocalReleased
  dsimp only
  split
  · split
    · exact flEnter_acts hl ⟨nofun, nofun⟩ (by simp) (by simp) h'
    · exact flEnter_acts hl ⟨nofun, nofun⟩ (by simp) (by simp) h'
  · exact h'

theorem flStage_acts (f : Option Nat) (k : Port) (h : Acts Z s₀ s) : Acts Z s₀ (flStage f s k) := by
  unfold flStage
  dsimp only
  split
  · exact flTripAll_acts hl _ nofun (flAbandonSwap_acts hl (h.act (.ladder _ hl rfl)))
  · exact h.act (.ladder _ hl rfl)

theorem flUnqualify_acts (h : Acts Z s₀ s) : Acts Z s₀ (flUnqualify s) := h.act (.ladder _ hl rfl)

theorem flQualify_acts (f : Option Nat) (h : Acts Z s₀ s) : Acts Z s₀ (flQualify f s) := by
  unfold flQualify
  split
  · cases f with
    | none => exact flUnqualify_acts hl h
    | some f =>
      dsimp only
      split
      · split
        · exact h.act (.ladder _ hl rfl)
        · exact h
      · exact flUnqualify_acts hl h
  · exact h

theorem flRecord_acts (f : Option Nat) (h : Acts Z s₀ s) : Acts Z s₀ (flRecord f s) := by
  unfold flRecord
  split
  · split
    · exact flQualify_acts hl f (foldl_acts (fun _ k h => flStage_acts hl f k h) _ h)
    · exact flQualify_acts hl f h
  · exact h

theorem flShed_acts (demand : Int) {cause : ShedCause} (hcause : cause ≠ .rotation) (h : Acts Z s₀ s) :
    Acts Z s₀ (flShed demand cause s) :=
  flTripAll_acts hl _ (fun hd => hcause (Destination.shed.inj hd)) h

theorem flLoss_acts (role : Role) (output rating : Nat) (h : Acts Z s₀ s) : Acts Z s₀ (flLoss role output rating s) := by
  unfold flLoss
  split
  · dsimp only
    split
    · split
      · exact flShed_acts hl _ nofun (flAbandonSwap_acts hl h)
      · exact flAbandonSwap_acts hl h
    · exact flAbandonSwap_acts hl h
  · exact h

theorem flJudgeOverload_acts (h : Acts Z s₀ s) : Acts Z s₀ (flJudgeOverload s) := by
  unfold flJudgeOverload
  split
  · split
    · split
      · exact h
      · exact h.act (.ladder _ hl rfl)
    · exact h.act (.ladder _ hl rfl)
  · exact h

theorem flOverloadExpired_acts (h : Acts Z s₀ s) : Acts Z s₀ (flOverloadExpired s) := flShed_acts hl _ nofun h

theorem flRestore_acts (hZ : ∀ q, Z.closes (.feeder q)) (h : Acts Z s₀ s) : Acts Z s₀ (flRestore s) := by
  unfold flRestore
  split
  next p _ =>
    have hclose := flClose_acts hl (hZ p) h
    split
    · split
      next u hu =>
        rw [hu] at hclose
        exact flAnnounceStep_acts hl p hclose
      next u hu =>
        rw [hu] at hclose
        exact hclose
    · exact h
  · exact h

theorem flStartSwap_acts (hZ : ∀ q, Z.closes (.feeder q)) (h : Acts Z s₀ s) : Acts Z s₀ (flStartSwap s) := by
  unfold flStartSwap
  split
  next c o _ _ =>
    split
    · have htrip : Acts Z s₀ (flTrip o (.shed .rotation) { s with fl := { s.fl with swap := some ⟨o, c, .opening⟩ } }).2 :=
        flTrip_acts hl (fun _ => hZ) (h.act (.ladder _ hl rfl))
      split
      next u hu =>
        rw [hu] at htrip
        exact htrip
      next u hu =>
        rw [hu] at htrip
        exact flAbandonSwap_acts hl htrip
    · exact h
  · exact h

theorem flRecordLoads_acts (h : Acts Z s₀ s) : Acts Z s₀ (flRecordLoads s) := by
  refine foldl_acts (fun s p h => h.act (.record p _ hl fun r _ => ?_)) _ h
  split <;> exact PortRecord.quietly_of_eq rfl rfl rfl id

theorem flFigures_acts (hZ : ∀ q, Z.closes (.feeder q)) (h : Acts Z s₀ s) : Acts Z s₀ (flFigures s) := by
  unfold flFigures
  split
  · exact flStartSwap_acts hl hZ (flRestore_acts hl hZ (flJudgeOverload_acts hl (flRecordLoads_acts hl h)))
  · exact h

theorem flStepNotice_acts (h : Acts Z s₀ s) : Acts Z s₀ (flStepNotice s) := by
  unfold flStepNotice
  split
  · exact flRestartSpacing_acts hl h
  · exact h

/-! ### The ports at a change of the island state or of the mode -/

theorem flDarkPort_acts (p : Port) (h : Acts Z s₀ s) : Acts Z s₀ (flDarkPort s p) := by
  unfold flDarkPort
  split
  · exact flTrip_acts hl nofun h
  · exact flTrip_acts hl nofun h
  next hopening =>
    refine h.act (.record p _ hl fun r hr => ⟨rfl, rfl, .inr ⟨?_, rfl⟩, id⟩)
    simpa [State.portState, hr] using hopening
  · exact h

theorem flDark_acts (h : Acts Z s₀ s) : Acts Z s₀ (flDark s) := foldl_acts (fun _ p h => flDarkPort_acts hl p h) _ h

theorem flIslandChange_acts (h : Acts Z s₀ s) : Acts Z s₀ (flIslandChange s) := by
  have hswap : Acts Z s₀ (if s.bsc.island = some .live then s else flAbandonSwap s) := by
    split
    · exact h
    · exact flAbandonSwap_acts hl h
  unfold flIslandChange
  generalize (if s.bsc.island = some .live then s else flAbandonSwap s) = u at hswap
  have hqual : Acts Z s₀ (if u.islandUp then u else (flUnqualify u).cancel .overload) := by
    split
    · exact hswap
    · exact (flUnqualify_acts hl hswap).act (.ladder _ hl rfl)
  dsimp only
  generalize (if u.islandUp then u else (flUnqualify u).cancel .overload) = v at hqual
  split
  · exact flDark_acts hl hqual
  · exact hqual

theorem flDropOwed_acts (h : Acts Z s₀ s) : Acts Z s₀ (flDropOwed s) := by
  refine foldl_acts (fun s p h => ?_) _ h
  exact h.act (.record p _ hl fun _ _ => PortRecord.quietly_of_eq rfl rfl rfl id)

theorem flModeChange_acts (old : Mode) (h : Acts Z s₀ s) : Acts Z s₀ (flModeChange old s) := by
  have hswap : Acts Z s₀ (if s.cr.mode = .coordinated then s else flAbandonSwap s) := by
    split
    · exact h
    · exact flAbandonSwap_acts hl h
  unfold flModeChange
  generalize (if s.cr.mode = .coordinated then s else flAbandonSwap s) = u at hswap
  have hqual : Acts Z s₀ (if u.cr.mode = .coordinated then u else flUnqualify u) := by
    split
    · exact hswap
    · exact flUnqualify_acts hl hswap
  dsimp only
  generalize (if u.cr.mode = .coordinated then u else flUnqualify u) = v at hqual
  split
  · split
    · exact flDark_acts hl hqual
    · exact hqual
  · exact flDropOwed_acts hl (hqual.act (.ladder _ hl rfl))

theorem flRecoverExpired_acts (h : Acts Z s₀ s) : Acts Z s₀ (flRecoverExpired s) := by
  refine foldl_acts (fun s p h => ?_) _ h
  split
  · exact flEnter_acts hl ⟨nofun, nofun⟩ (by simp) (by simp) h
  · exact h

omit hl in
/-- A port is found HELD, FAULTED, CLOSED, or SHED with a cause. -/
theorem State.reconstructedPort_cases (s : State) (p : Port) :
    ((s.reconstructedPort p).1 ≠ .closing ∧ (s.reconstructedPort p).1 ≠ .opening) ∧
      ((s.reconstructedPort p).2.isSome = true ↔ (s.reconstructedPort p).1 = .shed) := by
  unfold State.reconstructedPort
  (repeat' split) <;> simp

theorem flReconstructPort_acts (p : Port) (h : Acts Z s₀ s) : Acts Z s₀ (flReconstructPort s p) := by
  unfold flReconstructPort
  split
  · obtain ⟨hst, hcause⟩ := s.reconstructedPort_cases p
    exact bscLook_acts (h.act (.foundPort p _ _ _ hl rfl hst hcause))
  · exact h

theorem flReconstruct_acts (h : Acts Z s₀ s) : Acts Z s₀ (flReconstruct s) :=
  foldl_acts (fun _ p h => flReconstructPort_acts hl p h) _ (h.act (.ladder _ hl rfl))

end

end Sys2Proof.Machine
end

section
/-! SUPPORT. What the diesel sequencer and the solar cap unit do, as runs of acts. -/

namespace Sys2Proof.Machine

section
variable {Z : Scope} {s₀ s : State}

/-! ### What the diesel sequencer makes of its lines, of records, of figures and of its timers -/

theorem dsLost_acts (engineStop : Bool) (hl : Z.ladder) (hd : s.dieselTaken) (h : Acts Z s₀ s) : Acts Z s₀ (dsLost engineStop s) := by
  have hloss (Z : Scope) (s₀ : State) (hl : Z.ladder) (h : Acts Z s₀ s) :
      Acts Z s₀ (flLoss .genset (clamp16 s.mu.mean.src) s.par.station.rating
        (s.placeFrame .loss (lossPayload .genset (clamp16 s.mu.mean.src) s.par.station.rating))) :=
    flLoss_acts hl _ _ _ (placeFrame_acts .loss _ h)
  unfold dsLost
  dsimp only
  split
  · exact dsEnterFailed_acts ((dsTrip_acts false (hloss Z _ hl (.refl s))).dieselTaken hd) (dsTrip_acts false (hloss Z _ hl h))
  · exact dsEnterFailed_acts ((hloss Z _ hl (.refl s)).dieselTaken hd) (hloss Z _ hl h)

theorem dsUnexpectedClose_acts (hd : s.dieselTaken) (h : Acts Z s₀ s) : Acts Z s₀ (dsUnexpectedClose s) :=
  dsEnterFailed_acts ((dsTrip_acts true (dsWithdraw_acts (.refl s)) : Acts Z _ _).dieselTaken hd)
    (dsTrip_acts true (dsWithdraw_acts h))

theorem dsSrcAsserted_acts (h : Acts Z s₀ s) : Acts Z s₀ (dsSrcAsserted s) := by
  unfold dsSrcAsserted
  split
  · exact dsConfirmed_acts h
  next hst =>
    split
    · exact dsEnter_acts .online nofun (fun _ => State.dieselActive_of hst nofun) (putDieselTimers_acts _ h)
    · exact dsUnexpectedClose_acts (State.dieselTaken_of hst) h
  iterate 7
    next hst => exact dsUnexpectedClose_acts (State.dieselTaken_of hst) h
  · exact h

theorem dsSrcReleased_acts (hl : Z.ladder) (h : Acts Z s₀ s) : Acts Z s₀ (dsSrcReleased s) := by
  unfold dsSrcReleased
  split
  · exact dsConfirmed_acts h
  iterate 3
    next hst => exact dsLost_acts false hl (State.dieselTaken_of hst) h
  · exact h

theorem dsRunAsserted_acts (h : Acts Z s₀ s) : Acts Z s₀ (dsRunAsserted s) := by
  unfold dsRunAsserted
  split
  next hst => exact dsEnterSpool_acts (fun _ => State.dieselActive_of hst nofun) (cut_acts _ h)
  next hst => exact dsEnterSpool_acts (fun _ => State.dieselActive_of hst nofun) (putDieselTimers_acts _ h)
  · exact h

theorem dsWithdrawFailed_acts (hd : s.dieselTaken) (h : Acts Z s₀ s) : Acts Z s₀ (dsEnterFailed (dsWithdraw s)) :=
  dsEnterFailed_acts ((dsWithdraw_acts (.refl s) : Acts Z _ _).dieselTaken hd) (dsWithdraw_acts h)

theorem dsRunReleased_acts (hl : Z.ladder) (h : Acts Z s₀ s) : Acts Z s₀ (dsRunReleased s) := by
  unfold dsRunReleased
  split
  next hst => exact dsEnterFailed_acts (State.dieselTaken_of hst) h
  next hst => exact dsEnterFailed_acts (State.dieselTaken_of hst) h
  next hst => exact dsWithdrawFailed_acts (State.dieselTaken_of hst) h
  next hst => exact dsClosingFailed_acts (State.dieselTaken_of hst) h
  iterate 3
    next hst =>
      split
      · exact dsLost_acts true hl (State.dieselTaken_of hst) h
      · exact h
  · exact h

theorem dsCrankEnded_acts (h : Acts Z s₀ s) : Acts Z s₀ (dsCrankEnded s) := by
  unfold dsCrankEnded
  split
  next hst =>
    exact putDieselTimers_acts _ (dsEnter_acts .rest nofun (fun _ => State.dieselActive_of (State.dieselIs_iff.1 hst) nofun) h)
  · exact h

theorem dsJudgeSync_acts {r : CycleRecord} (hZ : syncGood s.par r = true → Z.closes .source)
    (hd : Z.strict → s.dieselActive) (h : Acts Z s₀ s) : Acts Z s₀ (dsJudgeSync r s) := by
  unfold dsJudgeSync
  split
  next hgood =>
    have hcounted : Acts Z s₀ { s with ds := { s.ds with good := s.ds.good + 1 } } := h.act (.diesel _ rfl rfl)
    dsimp only
    split
    · exact dsCloseFromSync_acts (hZ hgood) hd hcounted
    · exact hcounted
  · exact h.act (.diesel _ rfl rfl)

theorem dsRecord_acts {r : CycleRecord} (hZ : syncGood s.par r = true → Z.closes .source) (h : Acts Z s₀ s) :
    Acts Z s₀ (dsRecord r s) := by
  unfold dsRecord
  dsimp only
  split
  next hst =>
    split
    · exact dsEnterFailed_acts (State.dieselTaken_of hst) h
    · exact h
  next hst =>
    split
    · exact dsEnterFailed_acts (State.dieselTaken_of hst) h
    · exact dsJudgeSync_acts hZ (fun _ => State.dieselActive_of hst nofun) h
  next hst =>
    split
    · exact dsWithdrawFailed_acts (State.dieselTaken_of hst) h
    · exact h
  next hst =>
    split
    · exact dsClosingFailed_acts (State.dieselTaken_of hst) h
    · exact h
  · exact h

theorem biasStep_mem (bias error : Int) (ki : Nat) : -1000 ≤ biasStep bias error ki ∧ biasStep bias error ki ≤ 1000 :=
  clamp_bounds _ (by decide)

theorem dsBiasOnline_acts (h : Acts Z s₀ s) : Acts Z s₀ (dsBiasOnline s) := by
  unfold dsBiasOnline
  split
  · exact h.act (.bias _ fun _ _ => biasStep_mem _ _ _)
  · exact h

theorem dsBiasSync_acts (h : Acts Z s₀ s) : Acts Z s₀ (dsBiasSync s) := by
  unfold dsBiasSync
  split
  · exact h.act (.bias _ fun _ _ => biasStep_mem _ _ _)
  · exact h

theorem dsBiasStep_acts (h : Acts Z s₀ s) : Acts Z s₀ (dsBiasStep s) := by
  unfold dsBiasStep
  split
  · exact dsBiasOnline_acts h
  · exact dsBiasOnline_acts h
  · exact dsBiasSync_acts h
  · exact h.act (.bias _ fun _ _ => by omega)
  iterate 3
    exact h
  iterate 8
    exact clearBias_acts h
  exact h

theorem dsJudgeStart_acts (hd : Z.strict → s.dieselActive) (h : Acts Z s₀ s) : Acts Z s₀ (dsJudgeStart s) := by
  unfold dsJudgeStart
  split
  · dsimp only
    split
    · exact dsEnterIntent_acts hd h
    · exact h.act (.diesel _ rfl rfl)
  · exact h.act (.diesel _ rfl rfl)

theorem dsJudgeStop_acts (h : Acts Z s₀ s) : Acts Z s₀ (dsJudgeStop s) := by
  unfold dsJudgeStop
  split
  · split
    · split
      · exact h
      · exact putDieselTimers_acts _ h
    · exact putDieselTimers_acts _ h
  · exact h

theorem dsJudgeStopIntent_acts (hd : Z.strict → s.dieselActive) (h : Acts Z s₀ s) : Acts Z s₀ (dsJudgeStopIntent s) := by
  unfold dsJudgeStopIntent
  split
  · exact dsBackOnline_acts hd h
  · exact h

theorem dsJudgeUnload_acts (hd : Z.strict → s.dieselActive) (h : Acts Z s₀ s) : Acts Z s₀ (dsJudgeUnload s) := by
  unfold dsJudgeUnload
  split
  · exact dsAbandonUnload_acts hd h
  · split
    · exact dsEnterOpening_acts hd h
    · exact h

theorem dsJudge_acts (h : Acts Z s₀ s) : Acts Z s₀ (dsJudge s) := by
  unfold dsJudge
  split
  next hst => exact dsJudgeStart_acts (fun _ => State.dieselActive_of hst nofun) h
  next hst =>
    split
    · exact dsWithdrawStart_acts (fun _ => State.dieselActive_of hst nofun) h
    · exact h
  next hst => exact dsJudgeStop_acts h
  next hst => exact dsJudgeStopIntent_acts (fun _ => State.dieselActive_of hst nofun) h
  next hst => exact dsJudgeUnload_acts (fun _ => State.dieselActive_of hst nofun) h
  · exact h

theorem dsFigures_acts (h : Acts Z s₀ s) : Acts Z s₀ (dsFigures s) := by
  unfold dsFigures
  split
  · exact dsJudge_acts (dsBiasStep_acts h)
  · exact h

theorem dsWindowExpired_acts (h : Acts Z s₀ s) : Acts Z s₀ (dsWindowExpired s) := by
  unfold dsWindowExpired
  split
  next hst => exact dsEnterCrank_acts (fun _ => State.dieselActive_of hst nofun) (dropIntent_acts h)
  next hst =>
    exact putDieselTimers_acts _ (dsEnter_acts .unload nofun (fun _ => State.dieselActive_of hst nofun) (dropIntent_acts h))
  · exact h

theorem dsStopExpired_acts (h : Acts Z s₀ s) : Acts Z s₀ (dsStopExpired s) := by
  unfold dsStopExpired
  split
  next hst => exact dsEnterStopIntent_acts (fun _ => State.dieselActive_of (State.dieselIs_iff.1 hst) nofun) h
  · exact h

theorem dsRestExpired_acts (h : Acts Z s₀ s) : Acts Z s₀ (dsRestExpired s) := by
  unfold dsRestExpired
  split
  next hst =>
    split
    · exact dsEnterCrank_acts (fun _ => State.dieselActive_of (State.dieselIs_iff.1 hst) nofun) h
    · exact dsEnterFailed_acts (State.dieselTaken_of (State.dieselIs_iff.1 hst)) h
  · exact h

theorem dsSpoolExpired_acts (h : Acts Z s₀ s) : Acts Z s₀ (dsSpoolExpired s) := by
  unfold dsSpoolExpired
  split
  next hst => exact dsJudgeSpool_acts (State.dieselActive_of (State.dieselIs_iff.1 hst) nofun) h
  · exact h

theorem dsSyncExpired_acts (h : Acts Z s₀ s) : Acts Z s₀ (dsSyncExpired s) := by
  unfold dsSyncExpired
  split
  next hst => exact dsEnterFailed_acts (State.dieselTaken_of (State.dieselIs_iff.1 hst)) h
  · exact h

theorem dsUnloadExpired_acts (h : Acts Z s₀ s) : Acts Z s₀ (dsUnloadExpired s) := by
  unfold dsUnloadExpired
  split
  next hst => exact dsEnterOpening_acts (fun _ => State.dieselActive_of (State.dieselIs_iff.1 hst) nofun) h
  · exact h

theorem dsCooldownExpired_acts (h : Acts Z s₀ s) : Acts Z s₀ (dsCooldownExpired s) := by
  unfold dsCooldownExpired
  split
  next hst =>
    have hd := State.dieselActive_of (State.dieselIs_iff.1 hst) nofun
    have h' : Acts Z s₀ { s.writeRun false with ds := { s.ds with forcedStop := false } } := (clearRun_acts h).act (.diesel _ rfl rfl)
    dsimp only
    split
    · exact dsEnterOff_acts (fun _ => hd) h'
    · exact dsEnterStandby_acts (fun _ => hd) h'
  · exact h

/-! ### The first state of the diesel sequencer -/

theorem dsRest_acts (hd : Z.strict → s.dieselActive) (h : Acts Z s₀ s) : Acts Z s₀ (dsRest s) := by
  unfold dsRest
  dsimp only
  split
  · exact dsEnterOff_acts hd (clearRun_acts h)
  · exact dsEnterStandby_acts hd (clearRun_acts h)

theorem dsFoundClosed_acts (hd : Z.strict → s.dieselActive) (ht : s.dieselTaken) (h : Acts Z s₀ s) : Acts Z s₀ (dsFoundClosed s) := by
  unfold dsFoundClosed
  split
  · exact dsEnterOff_acts hd (clearRun_acts h)
  · exact dsEnterFailed_acts ((dsTrip_acts true (.refl s) : Acts Z _ _).dieselTaken ht) (dsTrip_acts true h)

theorem dsFoundOnline_acts (hd : Z.strict → s.dieselActive) (h : Acts Z s₀ s) : Acts Z s₀ (dsFoundOnline s) := by
  unfold dsFoundOnline
  dsimp only
  split
  · exact dsForcedStop_acts (fun _ => State.dieselActive_of (st := .online) rfl nofun) (dsEnter_acts .online nofun hd h)
  · exact dsEnter_acts .online nofun hd h

theorem dsFoundRunning_acts (hd : Z.strict → s.dieselActive) (h : Acts Z s₀ s) : Acts Z s₀ (dsFoundRunning s) := by
  unfold dsFoundRunning
  split
  · exact dsEnterSync_acts hd h
  · exact dsRest_acts hd h

theorem dsReconstruct_acts (hd : Z.strict → s.dieselActive) (ht : s.dieselTaken) (h : Acts Z s₀ s) : Acts Z s₀ (dsReconstruct s) := by
  unfold dsReconstruct
  split
  · split
    · exact dsEnterFailed_acts ht h
    · split
      · split
        · exact dsFoundOnline_acts hd h
        · exact dsFoundRunning_acts hd h
      · split
        · exact dsFoundClosed_acts hd ht h
        · exact dsRest_acts hd h
  · exact clearRun_acts h

/-! ### The solar cap unit -/

theorem scEnter_acts (st : SolarState) (hs : Z.solar) (h : Acts Z s₀ s) : Acts Z s₀ (scEnter st s) :=
  h.act (.source { s.sc with state := some st } hs rfl ⟨rfl, rfl⟩ nofun)

/-- The cap that the override gives is 0 where it must be (R131). -/
theorem capOverride_forced {limited fallback : Int} (h : s.capForced) : (capOverride s.bsc.island s.cr.mode limited fallback).2 = 0 := by
  unfold capOverride
  split
  · rfl
  next hisland => rw [if_pos (by simpa [State.capForced, not_or.1 hisland] using h)]

theorem scRun_acts (hs : Z.solar) (hstate : s.sc.state.isSome = true) (h : Acts Z s₀ s) : Acts Z s₀ (scRun s) :=
  (h.act (.source { s.sc with
    runCount := (s.sc.runCount + 1) % 65536
    shareCap := min s.be.figures.ownShare s.par.station.rating
    fwCap := fwCap s.be.figures.f s.fNom s.par.solar s.par.station.rating
    rawCap := _
    limitedCap := _ } hs rfl ⟨rfl, rfl⟩ id)).act (.command _ _ hs hstate fun hforced => capOverride_forced hforced)

theorem scFigures_acts (hs : Z.solar) (h : Acts Z s₀ s) : Acts Z s₀ (scFigures s) := by
  unfold scFigures
  split
  next hstate => exact scRun_acts hs hstate h
  · exact h

theorem scZero_acts (override : CapOverride) (hs : Z.solar) (h : Acts Z s₀ s) : Acts Z s₀ (scZero override s) := by
  unfold scZero
  split
  next hstate => exact h.act (.command 0 override hs hstate fun _ => rfl)
  · exact h

theorem setTrip_acts (b : Bool) (hs : Z.solar) (h : Acts Z s₀ s) : Acts Z s₀ { s with sc := { s.sc with trip := b } } :=
  h.act (.source _ hs rfl ⟨rfl, rfl⟩ id)

theorem scConfirmed_acts (hs : Z.solar) (h : Acts Z s₀ s) : Acts Z s₀ (scConfirmed s) := by
  unfold scConfirmed
  split
  · exact scEnter_acts .offline hs (setTrip_acts false hs h)
  · exact h

theorem scTripAtDark_acts (hs : Z.solar) (h : Acts Z s₀ s) : Acts Z s₀ (scTripAtDark s) := by
  have htrip : Acts Z s₀ (s.requestTrip .source .sc s.par.diesel.pulse true).2 := requestTrip_acts _ _ _ _ h
  unfold scTripAtDark
  split
  · split
    next _ confirmed u hu =>
      rw [hu] at htrip
      dsimp only
      split
      · exact scConfirmed_acts hs (setTrip_acts true hs htrip)
      · exact setTrip_acts true hs htrip
    next _ u _ hu =>
      rw [hu] at htrip
      exact htrip
  · exact h

theorem scIslandChange_acts (hs : Z.solar) (h : Acts Z s₀ s) : Acts Z s₀ (scIslandChange s) := by
  unfold scIslandChange
  split
  · exact scZero_acts _ hs h
  · exact scTripAtDark_acts hs (scZero_acts _ hs h)
  · exact h

theorem scAsserted_acts (hs : Z.solar) (h : Acts Z s₀ s) : Acts Z s₀ (scAsserted s) := by
  unfold scAsserted
  split
  · exact scEnter_acts .online hs h
  · exact h

theorem scLost_acts (output : Nat) (hl : Z.ladder) (hs : Z.solar) (h : Acts Z s₀ s) : Acts Z s₀ (scLost output s) :=
  scEnter_acts .offline hs (flLoss_acts hl _ _ _ (placeFrame_acts .loss _ h))

theorem scReleased_acts (hl : Z.ladder) (hs : Z.solar) (h : Acts Z s₀ s) : Acts Z s₀ (scReleased s) := by
  unfold scReleased
  split
  · split
    · exact scLost_acts _ hl hs h
    · exact scEnter_acts .offline hs h
  · exact h

theorem scStart_acts (hs : Z.solar) (h : Acts Z s₀ s) : Acts Z s₀ (scStart s) := by
  unfold scStart
  split
  · exact scEnter_acts _ hs h
  · exact h

end

end Sys2Proof.Machine
end

section
/-! SUPPORT. What the black start coordinator does and what one event carries from block to block, as runs of acts. -/

namespace Sys2Proof.Machine

section
variable {Z : Scope} {s₀ s : State}

/-! ### The arbitration session's timers and edges -/

/-- START is entered where no stuck flag stands (R167). -/
theorem bscJoin_acts (hwaiting : s.bsc.session.phase = .waiting) (hflag : s.sessionFormed → s.bsc.session.stuckFlag = false)
    (h : Acts Z s₀ s) : Acts Z s₀ (bscJoin s) := by
  refine h.act (.session { s.bsc.session with
    phase := .start, slotStart := s.tb, bit := 0, sampleNext := false, guard := .stopped, stuck := .stopped
    slot := .running s.tb (ms 20) } true s.tac.permitEdges s.tac.alarm.permitStuck fun hs => ?_)
  have hflag := hflag hs
  simp only [State.sessionFormed, State.withSession, hwaiting, hflag, Timer.isRunning] at hs ⊢
  simp_all

theorem bscRise_acts (h : Acts Z s₀ s) : Acts Z s₀ (bscRise s) := by
  unfold bscRise
  split
  next hwaiting =>
    refine h.act (.session { s.bsc.session with
      stuck := .stopped, stuckFlag := false, guardOrigin := .edge, guard := .running s.tb (ms s.par.black.guardTime) } s.tac.permitPull
      s.tac.permitEdges false fun hs => ?_)
    simp only [State.permitPhase] at hwaiting
    simp only [State.sessionFormed, State.withSession, hwaiting, Timer.isRunning] at hs ⊢
    simp_all
  · exact h

theorem bscFall_acts (h : Acts Z s₀ s) : Acts Z s₀ (bscFall s) := by
  unfold bscFall
  split
  next hguard =>
    simp only [Bool.and_eq_true, decide_eq_true_eq] at hguard
    obtain ⟨hwaiting, hguard⟩ := hguard
    split
    · exact bscJoin_acts hwaiting (fun hs => (hs.2.2.2.1 hguard).2) h
    · refine h.act (.session { s.bsc.session with
        guard := .stopped, stuck := .running s.tb (sec s.par.black.permitTimeout) } s.tac.permitPull s.tac.permitEdges
        s.tac.alarm.permitStuck fun hs => ?_)
      simp only [State.permitPhase] at hwaiting
      simp only [State.sessionFormed, State.withSession, hwaiting, Timer.isRunning] at hs ⊢
      simp_all
  · exact h

theorem bscDriveBit_acts (i : Nat) (hphase : s.bsc.session.phase = .start ∨ s.bsc.session.phase = .bits) (h : Acts Z s₀ s) :
    Acts Z s₀ (bscDriveBit i s) := by
  refine h.act (.session { s.bsc.session with phase := .bits, bit := i, sampleNext := true, slot := .running s.tb (ms 5) }
    (!s.wordBit i) s.tac.permitEdges s.tac.alarm.permitStuck fun hs => ?_)
  obtain hphase | hphase := hphase <;>
    · simp only [State.sessionFormed, State.withSession, hphase] at hs ⊢
      simp_all

/-- The win: PERMIT is pulled, and the dead-bus close asked for with the slot timer STOPPED (R170). -/
theorem bscWin_acts (hZ : Z.closes .source) (hphase : s.bsc.session.phase = .bits) (hslot : s.bsc.session.slot.isRunning = false)
    (h : Acts Z s₀ s) : Acts Z s₀ (bscWin s) := by
  unfold bscWin
  dsimp only
  split
  · have hpull : Acts Z s₀ (s.drivePermit true) :=
      h.act (.session s.bsc.session true s.tac.permitEdges s.tac.alarm.permitStuck fun hs => by
        simp only [State.sessionFormed, State.withSession, hphase] at hs ⊢
        simp_all)
    exact dsLostOrLive_acts (sessionEnd_acts hpull)
  · refine dsWon_acts hZ (h.act (.session { s.bsc.session with phase := .close } true s.tac.permitEdges s.tac.alarm.permitStuck
      fun hs => ?_))
    simp only [State.sessionFormed, State.withSession, hphase, hslot] at hs ⊢
    simp_all

theorem bscSample_acts (hZ : Z.closes .source) (hphase : s.bsc.session.phase = .bits) (hslot : s.bsc.session.slot.isRunning = false)
    (h : Acts Z s₀ s) : Acts Z s₀ (bscSample s) := by
  unfold bscSample
  dsimp only
  split
  · exact dsLostOrLive_acts (sessionEnd_acts h)
  · split
    · exact bscWin_acts hZ hphase hslot h
    · refine h.act (.session { s.bsc.session with sampleNext := false, slot := .running s.tb (ms 5) } s.tac.permitPull
        s.tac.permitEdges s.tac.alarm.permitStuck fun hs => ?_)
      simp only [State.sessionFormed, State.withSession, hphase] at hs ⊢
      simp_all

theorem bscSlotExpired_acts (hZ : Z.closes .source) (hslot : s.bsc.session.slot.isRunning = false) (h : Acts Z s₀ s) :
    Acts Z s₀ (bscSlotExpired s) := by
  unfold bscSlotExpired
  split
  next hphase => exact bscDriveBit_acts 0 (.inl hphase) h
  next hphase =>
    split
    · exact bscSample_acts hZ hphase hslot h
    · exact bscDriveBit_acts _ (.inr hphase) h
  · exact h

theorem bscHoldExpired_acts (h : Acts Z s₀ s) : Acts Z s₀ (bscHoldExpired s) := by
  unfold bscHoldExpired
  split
  · exact sessionEnd_acts h
  · exact h

theorem bscHold_acts (h : Acts Z s₀ s) : Acts Z s₀ (bscHold s) := by
  unfold bscHold
  split
  · exact h
  · exact sessionEnd_acts h

/-! ### The island state -/

theorem bscTimer_acts {b : Bsc} (hisland : b.island = s.bsc.island) (hsession : b.session = s.bsc.session) (h : Acts Z s₀ s) :
    Acts Z s₀ { s with bsc := b } := h.act (.coordinator b (.inl hisland) hsession)

theorem markWasClosed_acts (h : Acts Z s₀ s) : Acts Z s₀ (markWasClosed s) := h.act (.preDark _ _)

theorem writePreDark_acts (h : Acts Z s₀ s) : Acts Z s₀ (writePreDark s) := (markWasClosed_acts h).act (.preDark _ _)

theorem bscBusLive_acts (c : Condition) (h : Acts Z s₀ s) : Acts Z s₀ (bscBusLive c s) := by
  unfold bscBusLive
  split
  · exact dsLostOrLive_acts (sessionEnd_acts h)
  · exact h

section
variable (hl : Z.ladder) (hs : Z.solar)
include hl hs

theorem reportIsland_acts (h : Acts Z s₀ s) : Acts Z s₀ (reportIsland s) :=
  dsIslandChange_acts (scIslandChange_acts hs (flIslandChange_acts hl h))

theorem bscEnterDark_acts (hZ : Z.down) (h : Acts Z s₀ s) : Acts Z s₀ (bscEnterDark s) :=
  reportIsland_acts hl hs ((writePreDark_acts h).act (.down .dark hZ))

theorem bscEnterDeadWait_acts (origin : Origin) (hZ : Z.down) (h : Acts Z s₀ s) : Acts Z s₀ (bscEnterDeadWait origin s) :=
  reportIsland_acts hl hs
    ((bscTimer_acts (b := { s.bsc with recover := .stopped, dead := .running s.tb (ms s.par.black.deadTime), origin := origin })
      rfl rfl h).act (.down .deadWait hZ))

theorem bscEnterRecover_acts (h : Acts Z s₀ s) : Acts Z s₀ (bscEnterRecover s) :=
  bscLook_acts (bscHoldLive_acts (reportIsland_acts hl hs
    (h.act (.coordinator { s.bsc with recover := .running s.tb (minutes s.par.restore.recoverTimeout), island := some .recover }
      (.inr (.inr rfl)) rfl))))

theorem bscFollow_acts (c : Condition) (hZ : Z.down) (h : Acts Z s₀ s) : Acts Z s₀ (bscFollow c s) := by
  unfold bscFollow
  split
  · exact bscEnterDeadWait_acts hl hs .live hZ h
  · have hcancel : Acts Z s₀ (s.cancel .dead) := cancel_acts nofun nofun h
    dsimp only
    split
    · exact bscEnterLive_acts hcancel
    · exact bscEnterRecover_acts hl hs hcancel
  · exact bscEnterRecover_acts hl hs h
  · exact bscEnterDeadWait_acts hl hs .recover hZ h
  · exact h

theorem bscDeadExpired_acts (hZ : Z.down) (h : Acts Z s₀ s) : Acts Z s₀ (bscDeadExpired s) := by
  unfold bscDeadExpired
  split
  · exact bscEnterDark_acts hl hs hZ h
  · exact h

omit hs in
theorem bscRecoverExpired_acts (h : Acts Z s₀ s) : Acts Z s₀ (bscRecoverExpired s) := by
  unfold bscRecoverExpired
  split
  · dsimp only
    split
    · exact bscEnterLive_acts (flRecoverExpired_acts hl h)
    · exact flRecoverExpired_acts hl h
  · exact h

theorem bscReconstruct_acts (c : Condition) (hZ : Z.down) (h : Acts Z s₀ s) : Acts Z s₀ (bscReconstruct c s) := by
  have hports (ports : List Port) : Acts Z s₀
      (ports.foldl (fun s p => flEnter p .blackOpen none none s) { s with bsc := { s.bsc with reconstructed := true } }) := by
    refine foldl_acts (fun s p h => ?_) ports (bscTimer_acts (b := { s.bsc with reconstructed := true }) rfl rfl h)
    exact flEnter_acts hl ⟨nofun, nofun⟩ (by simp) (by simp) h
  unfold bscReconstruct
  dsimp only
  split
  · split
    · exact bscEnterRecover_acts hl hs (hports _)
    · exact bscEnterLive_acts (hports _)
  · exact bscEnterDark_acts hl hs hZ (hports _)

theorem bscRecord_acts (c : Condition) (hZ : Z.down) (h : Acts Z s₀ s) : Acts Z s₀ (bscRecord c s) := by
  unfold bscRecord
  split
  · exact bscFollow_acts hl hs c hZ (bscBusLive_acts c h)
  · have h' : Acts Z s₀ { s with bsc := { s.bsc with records := s.bsc.records + 1 } } := bscTimer_acts rfl rfl h
    dsimp only
    split
    · exact bscReconstruct_acts hl hs c hZ h'
    · exact h'

/-! ### One event from block to block -/

theorem handRecord_acts (hZ : Z.down) (hclose : ∀ r, s.mu.latest = some r → syncGood s.par r = true → Z.closes .source)
    (h : Acts Z s₀ s) : Acts Z s₀ (handRecord s) := by
  unfold handRecord
  split
  next r hr =>
    refine dsRecord_acts (fun hgood => hclose r hr ?_) (bscRecord_acts hl hs _ hZ (flRecord_acts hl r.f h))
    have hpar : (bscRecord r.busCondition (flRecord r.f s)).par = s.par := congrArg (·.params.getD .unset) (kept_cr (by simp))
    rwa [hpar] at hgood
  · exact h

theorem beExpired_acts (hclose : ∀ q, Z.closes (.feeder q)) (h : Acts Z s₀ s) : Acts Z s₀ (beExpired s) := by
  have hstart : Acts Z s₀ (s.start .balance s.balanceTicks) := h.act (.figures { s.be with timer := .running s.tb s.balanceTicks })
  have hwindows (s : State) : s.windowsOk → windowOk (muHandOver s).mu.window ∧ windowOk (muHandOver s).mu.srcWindow := by
    unfold muHandOver
    dsimp only
    split <;> exact id
  have hmean : Acts Z s₀ (muHandOver (s.start .balance s.balanceTicks)) := by
    rw [muHandOver_eq]
    exact hstart.act (.measure _ (hwindows _))
  replace hmean := hmean.act (.figures (beCompute (muHandOver (s.start .balance s.balanceTicks))).be)
  exact flFigures_acts hl hclose (scFigures_acts hs (dsFigures_acts hmean))

theorem reportConfirmed_acts (r : Requester) (b : Breaker) (hclose : ∀ q, Z.closes (.feeder q)) (h : Acts Z s₀ s) :
    Acts Z s₀ (reportConfirmed r b s) := by
  unfold reportConfirmed
  split
  · exact dsConfirmed_acts h
  · exact scConfirmed_acts hs h
  · exact flConfirmed_acts hl hclose h
  · exact h

theorem reportNotConfirmed_acts (r : Requester) (b : Breaker) (h : Acts Z s₀ s) : Acts Z s₀ (reportNotConfirmed r b s) := by
  unfold reportNotConfirmed
  split
  · exact dsNotConfirmed_acts h
  · exact setTrip_acts false hs h
  · exact flNotConfirmed_acts hl _ h
  · exact h

omit hs in
theorem reportEnded_acts (c : PulseChannel) (hclose : ∀ q, Z.closes (.feeder q)) (h : Acts Z s₀ s) : Acts Z s₀ (reportEnded c s) := by
  cases c with
  | srcClose | srcTrip => exact h
  | crank => exact dsCrankEnded_acts h
  | feederClose p => exact flCloseEnded_acts hl p h
  | feederTrip p => exact flTripEnded_acts hl hclose h

theorem sourceChanged_acts (x : Bool) (h : Acts Z s₀ s) : Acts Z s₀ (sourceChanged x s) := by
  unfold sourceChanged
  split
  · exact scAsserted_acts hs (dsSrcAsserted_acts h)
  · exact scReleased_acts hl hs (dsSrcReleased_acts hl h)

theorem breakerChanged_acts (b : Breaker) (x : Bool) (h : Acts Z s₀ s) :
    Acts Z s₀ (match b with | .source => sourceChanged x s | .feeder p => flBreakerChange p x s) := by
  cases b with
  | source => exact sourceChanged_acts hl hs x h
  | feeder p => exact flBreakerChange_acts hl p x h

theorem breakerQualified_acts (b : Breaker) (x : Bool) (hclose : ∀ q, Z.closes (.feeder q)) (h : Acts Z s₀ s) :
    Acts Z s₀ (breakerQualified b x s) := by
  unfold breakerQualified
  split
  · split
    · exact reportConfirmed_acts hl hs _ b hclose (h.act (.window b _))
    · exact breakerChanged_acts hl hs b x h
  · exact breakerChanged_acts hl hs b x h

end

end

end Sys2Proof.Machine
end

section
/-! SUPPORT. What the link does, as runs of acts; the ranges of a message that is read, and the peer table. -/

namespace Sys2Proof.Machine

section

/-! ### The random generator -/

theorem lfsrStep_ne_zero {r : BitVec 16} (h : r ≠ 0) : lfsrStep r ≠ 0 := by
  intro hstep
  unfold lfsrStep at hstep
  split at hstep
  next hbit =>
    have hmsb := congrArg (·.getLsbD 15) hstep
    simp at hmsb
  next hbit =>
    have hhalf := congrArg BitVec.toNat hstep
    rw [BitVec.toNat_ushiftRight, Nat.shiftRight_eq_div_pow] at hhalf
    have hodd : r.toNat % 2 ≠ 1 := fun hodd => hbit (by simp [BitVec.getLsbD, Nat.testBit_zero, hodd])
    have hzero : r.toNat / 2 = 0 := hhalf
    exact h (BitVec.eq_of_toNat_eq (by rw [show r.toNat = 0 by omega]; rfl))

theorem lfsrSteps_ne_zero (n : Nat) {r : BitVec 16} (h : r ≠ 0) : lfsrSteps n r ≠ 0 := by
  induction n generalizing r with
  | zero => exact h
  | succ n ih => exact ih (lfsrStep_ne_zero h)

theorem lfsrSeed_ne_zero {address : Nat} (t : Tick) (h : 1 ≤ address ∧ address ≤ 32) : lfsrSeed address t ≠ 0 := by
  unfold lfsrSeed
  dsimp only
  split
  · intro hzero
    have := congrArg BitVec.toNat hzero
    rw [BitVec.toNat_ofNat] at this
    simp only [BitVec.ofNat_eq_ofNat, BitVec.toNat_ofNat] at this
    omega
  next hne => exact hne

variable {Z : Scope} {s₀ s : State}

theorem State.placeFrame_eq (s : State) (k : FrameKind) (l : List Byte) :
    ∃ slots, s.placeFrame k l = { s with ilc := { s.ilc with slots := slots } } ∧
      (s.ilc.transmitter.enabled = false → slots = s.ilc.slots) := by
  obtain ⟨hon, hu⟩ | ⟨-, hu⟩ := s.placeFrame_cases k l <;> rw [hu]
  · exact ⟨_, rfl, fun hoff => Bool.noConfusion (hon.symm.trans hoff)⟩
  · exact ⟨_, rfl, fun _ => rfl⟩

theorem draw_eq (s : State) :
    ∃ random, s.draw.2 = { s with ilc := { s.ilc with random := random } } ∧ (s.ilc.random ≠ some 0 → random ≠ some 0) := by
  unfold State.draw
  split
  next r hr =>
    exact ⟨_, rfl, fun hne heq => lfsrSteps_ne_zero 16 (fun hzero => hne (hzero ▸ hr)) (Option.some.inj heq)⟩
  · exact ⟨_, rfl, id⟩

theorem draw_acts (h : Acts Z s₀ s) : Acts Z s₀ s.draw.2 := by
  obtain ⟨random, hu, hrandom⟩ := draw_eq s
  rw [hu]
  exact h.act (.link _ rfl rfl rfl rfl (fun _ => rfl) hrandom)

/-! ### The link -/

theorem ilcTake_cases (fall : Tick) (c : LinkChar) (x : Ilc) :
    ∃ transmitter receiver, ilcTake fall c x = { x with transmitter := transmitter, receiver := receiver } ∧
      transmitter.enabled = x.transmitter.enabled := by
  unfold ilcTake
  split
  next htx => exact ⟨_, _, rfl, by rw [htx]; rfl⟩
  · exact ⟨_, _, rfl, rfl⟩
  · exact ⟨_, _, rfl, rfl⟩
  · dsimp only
    split <;> exact ⟨_, _, rfl, rfl⟩
  · exact ⟨_, _, rfl, rfl⟩

theorem stamp_acts (t : Tick) (h : Acts Z s₀ s) : Acts Z s₀ (s.stamp t) := h.act (.time t)

theorem stampRunning_acts (t : Tick) (h : Acts Z s₀ s) : Acts Z s₀ (s.stampRunning t) := by
  obtain ⟨-, hu⟩ | ⟨-, hu⟩ := s.stampRunning_cases t <;> rw [hu]
  · exact stamp_acts t h
  · exact h

theorem ilcCharacter_acts (fall : Tick) (samples : BitVec 10) (h : Acts Z s₀ s) : Acts Z s₀ (ilcCharacter fall samples s) := by
  unfold ilcCharacter
  split
  next c _ =>
    dsimp only
    split
    · obtain ⟨transmitter, receiver, htake, henabled⟩ := ilcTake_cases fall c (s.stamp (after fall 380)).ilc
      rw [htake]
      exact (stamp_acts _ h).act (.link _ henabled rfl rfl rfl (fun _ => rfl) id)
    · exact stamp_acts _ h
  · exact stamp_acts _ h

theorem ilcFirstEndIdle_acts (h : Acts Z s₀ s) : Acts Z s₀ (ilcFirstEndIdle s) := by
  unfold ilcFirstEndIdle
  split
  · exact (stamp_acts _ h).act (.link _ rfl rfl rfl rfl (fun _ => rfl) id)
  · exact h

theorem ilcBegin_acts (k : FrameKind) (payload : List Byte) (t : Tick) (hready : s.ilc.transmitter = .ready) (h : Acts Z s₀ s) :
    Acts Z s₀ (ilcBegin k payload t s) :=
  (stamp_acts t h).act (.link
    { s.ilc with
      slots := s.ilc.slots.set k ⟨none, (s.ilc.slots.get k).attempts + 1, 0⟩, transmitter := .sending k payload t [] }
    (by rw [State.stamp_ilc, hready]; rfl) rfl rfl rfl nofun id)

theorem ilcAttempt_acts (h : Acts Z s₀ s) : Acts Z s₀ (ilcAttempt s) := by
  unfold ilcAttempt
  split
  next hready _ _ =>
    split
    · split
      · split
        · exact ilcBegin_acts _ _ _ hready h
        · exact h
      · exact h
    · exact h
  · exact h

/-- A slot may be filled while the transmitter is enabled. -/
theorem putSlot_acts (k : FrameKind) (x : Slot) (hon : s.ilc.transmitter.enabled = true) (h : Acts Z s₀ s) :
    Acts Z s₀ (s.putSlot k x) :=
  h.act (.link _ rfl rfl rfl rfl (fun hoff => Bool.noConfusion (hon.symm.trans hoff)) id)

theorem putCounters_acts (c : LinkCounters) (h : Acts Z s₀ s) : Acts Z s₀ (s.putCounters c) :=
  h.act (.link _ rfl rfl rfl rfl (fun _ => rfl) id)

theorem draw_transmitter (s : State) : s.draw.2.ilc.transmitter = s.ilc.transmitter := by
  unfold State.draw
  split <;> rfl

theorem ilcFail_acts (k : FrameKind) (payload : List Byte) (hon : s.ilc.transmitter.enabled = true) (h : Acts Z s₀ s) :
    Acts Z s₀ (ilcFail k payload s) := by
  unfold ilcFail
  dsimp only
  split
  · exact putSlot_acts k _ (by rw [draw_transmitter]; exact hon) (draw_acts h)
  · exact putCounters_acts _ (putSlot_acts k _ hon h)

/-- A frame in flight ends, and the transmitter is READY again. -/
theorem ready_acts (hon : s.ilc.transmitter.enabled = true) (h : Acts Z s₀ s) :
    Acts Z s₀ { s with ilc := { s.ilc with transmitter := .ready } } :=
  h.act (.link _ hon.symm rfl rfl rfl nofun id)

theorem ilcCollide_acts (k : FrameKind) (payload : List Byte) (echoes : List LinkChar) (t : Tick)
    (hon : s.ilc.transmitter.enabled = true) (h : Acts Z s₀ s) : Acts Z s₀ (ilcCollide k payload echoes t s) := by
  have hfail := ilcFail_acts (s := (State.putCounters { s.stamp t with ilc := { s.ilc with transmitter := .ready } }
    { s.ilc.counters with collisions := saturate s.ilc.counters.collisions })) k payload rfl
    (putCounters_acts _ (ready_acts (s := s.stamp t) hon (stamp_acts t h)))
  unfold ilcCollide ilcCollectEchoes
  dsimp only
  split
  · exact hfail
  · exact hfail.act (.link _ rfl rfl rfl rfl (fun _ => rfl) id)

theorem ilcCollision_acts (noEcho : Bool) (h : Acts Z s₀ s) : Acts Z s₀ (ilcCollision noEcho s) := by
  unfold ilcCollision
  split
  next htx =>
    have hon : s.ilc.transmitter.enabled = true := by rw [htx]; rfl
    dsimp only
    split
    · split
      · exact ilcCollide_acts _ _ _ _ hon h
      · exact h
    · split
      · exact ilcCollide_acts _ _ _ _ hon h
      · exact h
  · exact h

theorem ilcSucceed_acts (h : Acts Z s₀ s) : Acts Z s₀ (ilcSucceed s) := by
  unfold ilcSucceed
  split
  next htx =>
    have hon : s.ilc.transmitter.enabled = true := by rw [htx]; rfl
    split
    · exact putCounters_acts _ (ready_acts (s := State.putSlot _ _ _) hon
        (putSlot_acts (s := State.stamp s _) _ _ hon (stamp_acts _ h)))
    · exact h
  · exact h

theorem ilcRelease_acts (h : Acts Z s₀ s) : Acts Z s₀ (ilcRelease s) := by
  unfold ilcRelease
  split
  · exact (stamp_acts _ h).act (.link _ rfl rfl rfl rfl (fun _ => rfl) id)
  · exact h

/-- A status due instant: the timer that has expired runs on (R44). -/
theorem ilcStatusDue_acts (hrun : s.ilc.status.isRunning = true) (h : Acts Z s₀ s) : Acts Z s₀ (ilcStatusDue (s.cancel .status)) := by
  obtain ⟨slots, hplace, hslots⟩ := (s.cancel .status).placeFrame_eq .status (statusPayload (s.cancel .status).ownStatus)
  obtain ⟨random, hdraw, hrandom⟩ := draw_eq ((s.cancel .status).placeFrame .status (statusPayload (s.cancel .status).ownStatus))
  unfold ilcStatusDue
  dsimp only
  rw [hdraw, hplace]
  rw [hplace] at hrandom
  exact h.act (.link _ rfl hrun.symm rfl rfl hslots hrandom)

end

section

/-! ### The ranges of a message that is read -/

theorem numberBE_pair_le (hi lo : Byte) : numberBE [hi, lo] ≤ 65535 := by
  have h := hi.isLt
  have h' := lo.isLt
  simp only [numberBE, List.foldl]
  omega

/-- The feeder records of a payload are in ascending port order and in their ranges (R41). -/
theorem readFeeders_inRange {n last : Nat} {l : List Byte} {fs : List FeederRecord} (h : readFeeders n last l = some fs) :
    (∀ r ∈ fs, last < r.port ∧ r.inRange) ∧ fs.Pairwise (fun a b => a.port < b.port) := by
  induction n generalizing last l fs with
  | zero =>
    cases l with
    | nil =>
      obtain rfl : [] = fs := by simpa [readFeeders] using h
      simp
    | cons => simp [readFeeders] at h
  | succ n ih =>
    match l, h with
    | [], h | [_], h | [_, _], h | [_, _, _], h => simp [readFeeders] at h
    | p :: r :: hi :: lo :: rest, h =>
      simp only [readFeeders] at h
      split at h
      · split at h
        next st _ hfits =>
          simp only [Bool.and_eq_true, decide_eq_true_eq] at hfits
          obtain ⟨⟨hlast, hport⟩, hrank⟩ := hfits
          simp only [Option.map_eq_some_iff] at h
          obtain ⟨gs, hgs, rfl⟩ := h
          obtain ⟨hmem, hsorted⟩ := ih hgs
          have hr := r.isLt
          refine ⟨fun x hx => ?_, List.pairwise_cons.2 ⟨fun x hx => (hmem x hx).1, hsorted⟩⟩
          obtain rfl | hx := List.mem_cons.1 hx
          · exact ⟨hlast, ⟨by dsimp only; omega, by dsimp only; omega, numberBE_pair_le hi lo⟩⟩
          · exact ⟨hlast.trans (hmem x hx).1, (hmem x hx).2⟩
        · cases h
      · cases h

theorem readStatus_wf {l : List Byte} {m : StatusMsg} (h : readStatus l = some m) : m.wf := by
  unfold readStatus at h
  split at h
  · split at h
    · obtain ⟨hfits, h⟩ := Option.ite_none_right_eq_some.1 h
      simp only [Option.map_eq_some_iff] at h
      obtain ⟨fs, hfs, rfl⟩ := h
      simp only [Bool.and_eq_true, decide_eq_true_eq] at hfits
      obtain ⟨⟨hinterval, -⟩, hrank⟩ := hfits
      obtain ⟨hmem, hsorted⟩ := readFeeders_inRange hfs
      refine ⟨hinterval, numberBE_pair_le _ _, numberBE_pair_le _ _, numberBE_pair_le _ _, ?_, hsorted, fun r hr => (hmem r hr).2⟩
      dsimp only
      split at hrank <;> simp_all
    · cases h
  · cases h

/-- A notice's fields lie in the ranges of R42, and a STATUS's in those of R41. -/
def Msg.inRange : Msg → Prop
  | .status m => m.wf
  | .loss _ _ _ => True
  | .intent _ rank rating => rank ≤ 32 ∧ rating ≤ 65535
  | .step port shedRank load => FeederRecord.inRange ⟨port, .closed, shedRank, load⟩

theorem readPayload_inRange {k : FrameKind} {l : List Byte} {m : Msg} (h : readPayload k l = some m) : m.inRange := by
  unfold readPayload at h
  split at h
  · simp only [Option.map_eq_some_iff] at h
    obtain ⟨x, hx, rfl⟩ := h
    exact readStatus_wf hx
  · split at h <;> cases h <;> trivial
  · split at h
    · split at h
      next hrank =>
        cases h
        simp only [Bool.and_eq_true, decide_eq_true_eq] at hrank
        exact ⟨hrank.2, numberBE_pair_le _ _⟩
      · cases h
    · cases h
  · split at h
    next p r hi lo hfits =>
      cases h
      simp only [Bool.and_eq_true, decide_eq_true_eq] at hfits
      obtain ⟨hport, hrank⟩ := hfits
      have hr := r.isLt
      exact ⟨hport, ⟨hrank, by dsimp only; omega⟩, numberBE_pair_le _ _⟩
    · cases h
  · cases h

theorem readFrame_inRange {chars : List Byte} {g : GoodFrame} (h : readFrame chars = some g) :
    (1 ≤ g.sender ∧ g.sender ≤ 32) ∧ g.msg.inRange := by
  unfold readFrame at h
  split at h
  · split at h
    next hfits =>
      split at h
      · simp only [Option.map_eq_some_iff] at h
        obtain ⟨m, hm, rfl⟩ := h
        simp only [Bool.and_eq_true, decide_eq_true_eq] at hfits
        exact ⟨⟨hfits.1.1.1.2, hfits.1.1.2⟩, readPayload_inRange hm⟩
      · cases h
    · cases h
  · cases h

theorem judgeBurst_inRange {burst : List LinkChar} {overlong : Bool} {g : GoodFrame} (h : judgeBurst burst overlong = some g) :
    (1 ≤ g.sender ∧ g.sender ≤ 32) ∧ g.msg.inRange := by
  unfold judgeBurst at h
  split at h
  · cases h
  · exact readFrame_inRange h

/-! ### The peer table -/

/-- The table but for the emptiness within a reset: at most 31 entries in ascending address order, each of another station. -/
def tableOk (own : Nat) (l : List Entry) : Prop :=
  l.length ≤ 31 ∧ l.Pairwise (fun a b => a.address < b.address) ∧ ∀ e ∈ l, e.inRange ∧ e.address ≠ own

theorem State.tableFormed_iff (s : State) :
    s.tableFormed ↔ tableOk s.address s.pv.table ∧ (s.runs = false → s.pv.table = []) := by
  simp only [State.tableFormed, tableOk]
  tauto

theorem mem_putEntry {e x : Entry} {l : List Entry} (h : x ∈ putEntry e l) : x = e ∨ x ∈ l := by
  induction l with
  | nil => exact .inl (by simpa [putEntry] using h)
  | cons y l ih =>
    unfold putEntry at h
    split at h
    · simpa using h
    · split at h
      · simp only [List.mem_cons] at h ⊢
        tauto
      · simp only [List.mem_cons] at h ⊢
        tauto

theorem putEntry_sorted {e : Entry} {l : List Entry} (h : l.Pairwise (fun a b => a.address < b.address)) :
    (putEntry e l).Pairwise (fun a b => a.address < b.address) := by
  induction l with
  | nil => simp [putEntry]
  | cons y l ih =>
    rw [List.pairwise_cons] at h
    obtain ⟨hy, hl⟩ := h
    unfold putEntry
    split
    next hlt =>
      refine List.pairwise_cons.2 ⟨fun x hx => ?_, List.pairwise_cons.2 ⟨hy, hl⟩⟩
      obtain rfl | hx := List.mem_cons.1 hx
      · exact hlt
      · exact hlt.trans (hy x hx)
    next hge =>
      split
      next heq => exact List.pairwise_cons.2 ⟨fun x hx => heq ▸ hy x hx, hl⟩
      next hne =>
        refine List.pairwise_cons.2 ⟨fun x hx => ?_, ih hl⟩
        obtain rfl | hx := mem_putEntry hx
        · omega
        · exact hy x hx

theorem putEntry_length_le (e : Entry) (l : List Entry) : (putEntry e l).length ≤ l.length + 1 := by
  induction l with
  | nil => simp [putEntry]
  | cons y l ih =>
    unfold putEntry
    split
    · simp
    · split
      · simp
      · simpa using ih

/-- An entry of an address that the table holds takes its place. -/
theorem putEntry_length {e : Entry} {l : List Entry} (h : l.Pairwise (fun a b => a.address < b.address))
    (hmem : ∃ x ∈ l, x.address = e.address) : (putEntry e l).length = l.length := by
  induction l with
  | nil => simp at hmem
  | cons y l ih =>
    rw [List.pairwise_cons] at h
    obtain ⟨hy, hl⟩ := h
    obtain ⟨x, hx, hxe⟩ := hmem
    unfold putEntry
    obtain rfl | hx := List.mem_cons.1 hx
    · simp [hxe]
    · have hlt := hy x hx
      rw [if_neg (by omega), if_neg (by omega), List.length_cons, List.length_cons, ih hl ⟨x, hx, hxe⟩]

theorem entryOf_inRange {sender : Nat} {m : StatusMsg} (hsender : 1 ≤ sender ∧ sender ≤ 32) (hm : m.wf) (before : Option IntentRecord)
    (t : Tick) : (entryOf sender before m t).inRange := by
  obtain ⟨hinterval, hrating, houtput, hmin, hrank, hsorted, hfeeders⟩ := hm
  have hstart : m.startRank ≤ 32 := by
    split at hrank <;> omega
  refine ⟨hsender, hinterval, hrating, houtput, hmin, hstart, fun r hr => ?_, hsorted, hfeeders⟩
  simp only [entryOf, nextIntent, Option.map_eq_some_iff] at hr
  obtain ⟨k, -, rfl⟩ := hr
  exact ⟨hstart, hrating⟩

theorem Pv.status_conflict (v : Pv) (sender : Nat) (m : StatusMsg) (t : Tick) : (v.status sender m t).conflict = v.conflict := by
  unfold Pv.status
  split <;> [rfl; (split <;> rfl)]

theorem Pv.status_tableOk {own sender : Nat} {m : StatusMsg} {v : Pv} (t : Tick) (hsender : 1 ≤ sender ∧ sender ≤ 32) (hm : m.wf)
    (hown : sender ≠ own) (h : tableOk own v.table) : tableOk own (v.status sender m t).table := by
  obtain ⟨hlen, hsorted, hentries⟩ := h
  have hput (before : Option IntentRecord) (x : Entry) (hx : x ∈ putEntry (entryOf sender before m t) v.table) :
      x.inRange ∧ x.address ≠ own := by
    obtain rfl | hx := mem_putEntry hx
    · exact ⟨entryOf_inRange hsender hm before t, hown⟩
    · exact hentries x hx
  unfold Pv.status
  split
  next e he =>
    obtain ⟨hmem, haddress⟩ := Pv.entry_mem he
    exact ⟨(putEntry_length hsorted ⟨e, hmem, haddress⟩).trans_le hlen, putEntry_sorted hsorted, hput _⟩
  · split
    next hroom => exact ⟨(putEntry_length_le _ _).trans hroom, putEntry_sorted hsorted, hput _⟩
    · exact ⟨hlen, hsorted, hentries⟩

/-- A change of entries that keeps their addresses and ranges keeps the table formed. -/
theorem Pv.modify_tableOk {own a : Nat} {v : Pv} {g : Entry → Entry} (haddress : ∀ e, (g e).address = e.address)
    (hrange : ∀ e, e.inRange → (g e).inRange) (h : tableOk own v.table) : tableOk own (v.modify a g).table := by
  obtain ⟨hlen, hsorted, hentries⟩ := h
  have hkeep (e : Entry) : (if e.address == a then g e else e).address = e.address := by split <;> simp [haddress]
  refine ⟨by simpa [Pv.modify] using hlen, ?_, fun e he => ?_⟩
  · simp only [Pv.modify, List.pairwise_map]
    exact hsorted.imp fun hlt => by rwa [hkeep, hkeep]
  · simp only [Pv.modify, List.mem_map] at he
    obtain ⟨x, hx, rfl⟩ := he
    obtain ⟨hin, hown⟩ := hentries x hx
    refine ⟨?_, by rwa [hkeep]⟩
    split
    · exact hrange x hin
    · exact hin

theorem Pv.remove_tableOk {own a : Nat} {v : Pv} (h : tableOk own v.table) : tableOk own (v.remove a).table := by
  obtain ⟨hlen, hsorted, hentries⟩ := h
  exact ⟨(List.length_filter_le _ _).trans hlen, hsorted.filter _, fun e he => hentries e (List.mem_filter.1 he).1⟩

theorem mem_putFeeder {e x : FeederRecord} {l : List FeederRecord} (h : x ∈ putFeeder e l) : x = e ∨ x ∈ l := by
  induction l with
  | nil => exact .inl (by simpa [putFeeder] using h)
  | cons y l ih =>
    unfold putFeeder at h
    split at h
    · simpa using h
    · split at h <;>
      · simp only [List.mem_cons] at h ⊢
        tauto

theorem putFeeder_sorted {e : FeederRecord} {l : List FeederRecord} (h : l.Pairwise (fun a b => a.port < b.port)) :
    (putFeeder e l).Pairwise (fun a b => a.port < b.port) := by
  induction l with
  | nil => simp [putFeeder]
  | cons y l ih =>
    rw [List.pairwise_cons] at h
    obtain ⟨hy, hl⟩ := h
    unfold putFeeder
    split
    next hlt =>
      refine List.pairwise_cons.2 ⟨fun x hx => ?_, List.pairwise_cons.2 ⟨hy, hl⟩⟩
      obtain rfl | hx := List.mem_cons.1 hx
      · exact hlt
      · exact hlt.trans (hy x hx)
    next hge =>
      split
      next heq => exact List.pairwise_cons.2 ⟨fun x hx => heq ▸ hy x hx, hl⟩
      next hne =>
        refine List.pairwise_cons.2 ⟨fun x hx => ?_, ih hl⟩
        obtain rfl | hx := mem_putFeeder hx
        · omega
        · exact hy x hx

theorem Entry.notice_address (e : Entry) (m : Msg) (t : Tick) : (e.notice m t).address = e.address := by
  cases m <;> rfl

theorem Entry.notice_inRange {e : Entry} {m : Msg} (t : Tick) (hm : m.inRange) (h : e.inRange) : (e.notice m t).inRange := by
  obtain ⟨haddress, hinterval, hrating, houtput, hmin, hstart, hintent, hsorted, hfeeders⟩ := h
  cases m with
  | status m => exact ⟨haddress, hinterval, hrating, houtput, hmin, hstart, hintent, hsorted, hfeeders⟩
  | loss role output rating => exact ⟨haddress, hinterval, hrating, by simp [Entry.notice, Entry.loss], hmin, hstart, nofun, hsorted, hfeeders⟩
  | intent kind rank rating =>
    refine ⟨haddress, hinterval, hrating, houtput, hmin, hstart, fun r hr => ?_, hsorted, hfeeders⟩
    obtain rfl := Option.some.inj hr
    exact hm
  | step port shedRank load =>
    refine ⟨haddress, hinterval, hrating, houtput, hmin, hstart, hintent, putFeeder_sorted hsorted, fun r hr => ?_⟩
    obtain rfl | hr := mem_putFeeder hr
    · exact hm
    · exact hfeeders r hr

/-! ### Frames delivered and freshness timers -/

variable {Z : Scope} {s₀ s : State}

/-- The table changed so as to stay formed, while the station runs. -/
theorem peers_acts {v : Pv} (hrun : s.runs = true) (hconflict : v.conflict = s.pv.conflict)
    (htable : tableOk s.address s.pv.table → tableOk s.address v.table) (h : Acts Z s₀ s) : Acts Z s₀ { s with pv := v } := by
  refine h.act (.peers v hconflict fun hs => ?_)
  rw [State.tableFormed_iff] at hs ⊢
  exact ⟨htable hs.1, fun hoff => Bool.noConfusion (hrun.symm.trans hoff)⟩

theorem jobsNotice_acts (sender : Nat) (m : Msg) (hl : Z.ladder) (h : Acts Z s₀ s) : Acts Z s₀ (jobsNotice sender m s) := by
  cases m with
  | status m => exact h
  | loss role output rating => exact dsLossNotice_acts (flLoss_acts hl role output rating h)
  | intent kind rank rating => exact dsIntentNotice_acts sender kind rank h
  | step port shedRank load => exact flStepNotice_acts hl h

theorem deliverNotice_acts {sender : Nat} {m : Msg} (hrun : s.runs = true) (hm : m.inRange) (hl : Z.ladder) (h : Acts Z s₀ s) :
    Acts Z s₀ (deliverNotice sender m s) := by
  unfold deliverNotice
  split
  · exact jobsNotice_acts sender m hl (peers_acts (s := ilcCountReceived s) hrun rfl
      (Pv.modify_tableOk (fun e => e.notice_address m _) fun e he => Entry.notice_inRange _ hm he) (putCounters_acts _ h))
  · exact putCounters_acts _ h

end

end Sys2Proof.Machine
end

section
/-! SUPPORT. The shapes of a step: what each command is made of. -/

namespace Sys2Proof.Machine

section
variable {Z : Scope} {s₀ s : State}

/-! ### Changes of the station mode -/

/-- The mode entered, with its ALARM cause, before the blocks act on the change. -/
def State.inMode (m : Mode) (s : State) : State :=
  let u := { s with cr := { s.cr with mode := m } }
  if m = .fault then u.setAlarm .modeFault true else u

/-- The address conflict shown, before the mode and the transmitter follow it. -/
def State.inConflict (s : State) : State :=
  State.setAlarm { s with ilc := { s.ilc with conflict := true }, pv := { s.pv with conflict := true } } .addressConflict true

/-- The ILC started, before the transmitter takes its state. -/
def State.linkStarted (s : State) : State :=
  { s with ilc := { s.ilc with
    started := true, receiver := .ignoring, idleSince := some s.tb, endIdle := false, random := some (lfsrSeed s.address s.tb) } }

theorem ilcStart_eq (s : State) : ilcStart s = ilcFollow s.linkStarted := rfl

theorem bscModeChange_acts (old : Mode) (h : Acts Z s₀ s) : Acts Z s₀ (bscModeChange old s) := by
  unfold bscModeChange
  split
  · exact bscHold_acts h
  · split
    · exact markWasClosed_acts h
    · exact h

theorem dsModeChange_acts (old : Mode) (h : Acts Z s₀ s) : Acts Z s₀ (dsModeChange old s) := by
  unfold dsModeChange
  split
  · split
    · exact dsResume_acts h
    · split
      · exact dsAlone_acts h
      · exact h
  · split
    · exact dsHold_acts h
    · exact h

theorem scModeChange_acts (old : Mode) (hs : Z.solar) (h : Acts Z s₀ s) : Acts Z s₀ (scModeChange old s) := by
  unfold scModeChange
  split
  · exact scZero_acts _ hs h
  · split
    · exact scTripAtDark_acts hs h
    · exact h

/-- A change of mode: the mode is entered, the jobs act on it, and the transmitter follows. -/
theorem crSetMode_cases (m : Mode) (s : State) :
    (s.cr.mode = m ∧ crSetMode m s = s) ∨
    (s.cr.mode ≠ m ∧ crSetMode m s = ilcFollow (flModeChange s.cr.mode (scModeChange s.cr.mode
      (dsModeChange s.cr.mode (bscModeChange s.cr.mode (s.inMode m)))))) := by
  unfold crSetMode
  dsimp only
  split
  next hmode => exact .inl ⟨hmode, rfl⟩
  next hmode => exact .inr ⟨hmode, rfl⟩

/-- What the jobs do on a change of mode. -/
theorem modeJobs_acts (old : Mode) (hl : Z.ladder) (hs : Z.solar) (h : Acts Z s₀ s) :
    Acts Z s₀ (flModeChange old (scModeChange old (dsModeChange old (bscModeChange old s)))) :=
  flModeChange_acts hl old (scModeChange_acts old hs (dsModeChange_acts old (bscModeChange_acts old h)))

theorem crFollow_cases (s : State) :
    crFollow s = s ∨ (s.operating = true ∧ crFollow s = crSetMode s.pv.calledMode s) := by
  unfold crFollow
  split
  next hop => exact .inr ⟨hop, rfl⟩
  · exact .inl rfl

theorem crReport_cases (before : Nat) (s : State) :
    crReport before s = s ∨ (s.operating = true ∧ crReport before s = crSetMode s.pv.calledMode s) := by
  unfold crReport
  split
  · exact crFollow_cases s
  · exact .inl rfl

/-! ### The start-up load -/

/-- The start-up load as it begins: taken, with the sector in the staging buffer. -/
def State.loading (s : State) : State := { s with cr := { s.cr with loaded := true }, mp := { s.mp with staging := s.cr.sector } }

/-- The blocks up to the BSC started from the parameter set taken. -/
def State.blocksStarted (s : State) : State := bscStart ((beStart (muStart s.calibrationTaken s)).start .integrity (sec 10))

theorem crLoad_cases (s : State) :
    crLoad s = flReconstruct (dsReconstruct (scStart (ilcStart (crTake s.cr.sector s.loading).blocksStarted))) ∨
    crLoad s = ilcStart (s.loading.inMode .fault) := by
  unfold crLoad
  dsimp only
  split
  · exact .inl rfl
  · exact .inr rfl

theorem loading_acts (h : Acts Z s₀ s) : Acts Z s₀ s.loading := (h.act (.config { s.cr with loaded := true } _ rfl rfl)).act (.port _)

theorem blocksStarted_acts (hZ : Z.down) (h : Acts Z s₀ s) : Acts Z s₀ s.blocksStarted := by
  have hmu : Acts Z s₀ (muStart s.calibrationTaken s) := h.act (.measure _ id)
  have hbe : Acts Z s₀ (beStart (muStart s.calibrationTaken s)) := hmu.act (.figures _)
  have hcr : Acts Z s₀ ((beStart (muStart s.calibrationTaken s)).start .integrity (sec 10)) := hbe.act (.config _ _ rfl rfl)
  exact (hcr.act (.down .deadWait hZ)).act (.coordinator _ (.inl rfl) rfl)

theorem startedBlocks_acts (hl : Z.ladder) (hs : Z.solar) (hd : Z.strict → s.dieselActive) (ht : s.dieselTaken) (h : Acts Z s₀ s) :
    Acts Z s₀ (flReconstruct (dsReconstruct (scStart s))) := by
  have hsc : (scStart s).ds = s.ds ∧ (scStart s).cr = s.cr := by
    unfold scStart
    split <;> exact ⟨rfl, rfl⟩
  refine flReconstruct_acts hl (dsReconstruct_acts (fun hk => ?_) ?_ (scStart_acts hs h))
  · simpa [State.dieselActive, hsc] using hd hk
  · simpa [State.dieselTaken, hsc] using ht

/-! ### The commit and the integrity check -/

theorem config_acts {c : Cr} {n : Nat} (hmode : c.mode = s.cr.mode) (hparams : c.params = s.cr.params) (h : Acts Z s₀ s) :
    Acts Z s₀ { s with cr := c, freeCount := n } := h.act (.config c n hmode hparams)

end

section
variable {Z : Scope} {E : Prop} {s₀ s t u : State}

/-! ### What a command is made of -/

/-- A run of acts that no scope bounds. -/
def FreeActs (s t : State) : Prop := ∀ Z : Scope, Acts Z s t

/-- A run of acts in which feeders may close, but neither does the source breaker nor goes the island down. -/
def QuietActs (s t : State) : Prop := ∀ Z : Scope, Z.ladder → Z.solar → (∀ q, Z.closes (.feeder q)) → Acts Z s t

theorem FreeActs.quiet (h : FreeActs s t) : QuietActs s t := fun Z _ _ _ => h Z

/-- All the shapes that a step can have: a quiet run of acts; a free run and then a record handed over, the end of the dead or of the slot
timer, a change of mode, an address conflict or the start-up load; and the resets, whose ends stand apart (`E`). -/
inductive StepShape (E : Prop) (s : State) : State → Prop
  | quiet {t : State} (h : QuietActs s t) : StepShape E s t
  | record {u : State} (h : FreeActs s u) : StepShape E s (handRecord u)
  | dead {u : State} (h : FreeActs s u) : StepShape E s (bscDeadExpired u)
  | slot {u : State} (h : FreeActs s u) (hslot : u.bsc.session.slot.isRunning = false) (hinputs : u.tac.inputs = s.tac.inputs) :
      StepShape E s (bscSlotExpired u)
  | mode {u : State} (h : FreeActs s u) (m : Mode) (hm : m ≠ .startup) (hfrom : m = .fault ∨ u.cr.mode ≠ .fault) :
      StepShape E s (crSetMode m u)
  | conflict {u : State} (h : FreeActs s u) : StepShape E s (ilcFollow (crFollow u.inConflict))
  | load {u : State} (h : FreeActs s u) (hmode : u.cr.mode = .startup) : StepShape E s (crLoad u)
  | powerOn {u : State} (h : FreeActs s u) (straps : BitVec 5) (hE : E) : StepShape E s (resetEnd straps (resetAll true u))
  | hold {u : State} (h : FreeActs s u) (p : ResetPhase) (hp : p ≠ .running) : StepShape E s (stationReset p u)
  | release {u : State} (h : FreeActs s u) (straps : BitVec 5) (hE : E) (hphase : u.phase ≠ .running) :
      StepShape E s (resetEnd straps u)

theorem StepShape.free (h : FreeActs s t) : StepShape E s t := .quiet h.quiet

theorem whileRunning_shape {f : State → State} (ht : whileRunning f s = .next t) (h : FreeActs s₀ s)
    (hf : s.runs = true → StepShape E s₀ (f s)) : StepShape E s₀ t := by
  cases ht
  split
  next hrun => exact hf hrun
  · exact .free h

theorem atExpiry_shape {id : TimerId} {f : State → State} (h : FreeActs s₀ s)
    (hf : ∀ t, (s.timer id).expiry = some t → StepShape E s₀ (f ((s.stamp t).cancel id))) : StepShape E s₀ (atExpiry id f s) := by
  unfold atExpiry
  split
  next u hu =>
    obtain ⟨t, ht, rfl⟩ := State.expire_eq_some hu
    exact hf t ht
  · exact .free h

theorem onExpiry_shape {id : TimerId} {f : State → State} (ht : onExpiry id f s = .next u) (h : FreeActs s₀ s)
    (hf : ∀ t, s.runs = true → (s.timer id).expiry = some t → StepShape E s₀ (f ((s.stamp t).cancel id))) : StepShape E s₀ u :=
  whileRunning_shape ht h fun hrun => atExpiry_shape h fun t => hf t hrun

/-- The expiry of a timer whose effect is a quiet run. -/
theorem onExpiry_quiet {id : TimerId} {f : State → State} (ht : onExpiry id f s = .next u) (hid : id ≠ .status) (h : FreeActs s₀ s)
    (hf : ∀ (Z : Scope) (u : State), Z.ladder → Z.solar → (∀ q, Z.closes (.feeder q)) → Acts Z s₀ u → Acts Z s₀ (f u)) :
    StepShape E s₀ u :=
  onExpiry_shape ht h fun t _ _ => .quiet fun Z hl hs hc => hf Z _ hl hs hc (cancel_acts hid (fun _ => hl) (stamp_acts t (h Z)))

/-- The expiry of a timer that is not the ladder's, up to its effect. -/
theorem expired_acts (id : TimerId) (h : FreeActs s₀ s) (hid : id ≠ .status) (hl : ofLadder id = false) (t : Tick) :
    FreeActs s₀ ((s.stamp t).cancel id) :=
  fun Z => cancel_acts hid (fun hof => Bool.noConfusion (hl.symm.trans hof)) (stamp_acts t (h Z))

/-! ### Measurement -/

theorem muCloseCycle_acts (t : Tick) (kind : BoundaryKind) (h : Acts Z s₀ s) : Acts Z s₀ (muCloseCycle t kind s) :=
  (stamp_acts t h).act (.measure (muCloseCycle t kind s).mu fun hw => ⟨windowOk_windowAfter hw.1 _, hw.2⟩)

theorem muSourceCapture_acts (t : Tick) (h : Acts Z s₀ s) : Acts Z s₀ (muSourceCapture t s) := by
  refine (stamp_acts t h).act (.measure (muSourceCapture t s).mu fun hw => ⟨hw.1, ?_⟩)
  unfold muSourceCapture
  dsimp only
  split
  · split
    next hband => exact windowOk_pushPeriod hw.2 hband
    · exact windowOk_nil
  · exact hw.2

theorem muSourceTimeout_acts (h : Acts Z s₀ s) : Acts Z s₀ (muSourceTimeout s) :=
  h.act (.measure (muSourceTimeout s).mu fun hw => ⟨hw.1, windowOk_nil⟩)

theorem muScan_acts (x : AnalogLevels) (h : Acts Z s₀ s) : Acts Z s₀ (muScan x s) :=
  ((stamp_acts s.mu.nextScan h).act (.measure (muScan x s).mu id)).act
    (.pins s.tac.inputs s.tac.nextSample s.tac.permitOthers (muScan x s).tac.c0High (muScan x s).tac.c1High)

/-- A change of the comparators' outputs alone. -/
theorem comparators_acts (c0 c1 : Bool) (h : Acts Z s₀ s) : Acts Z s₀ { s with tac := { s.tac with c0High := c0, c1High := c1 } } :=
  h.act (.pins s.tac.inputs s.tac.nextSample s.tac.permitOthers c0 c1)

/-- The others' drive of PERMIT. -/
theorem permitOthers_acts (b : Bool) (h : Acts Z s₀ s) : Acts Z s₀ { s with tac := { s.tac with permitOthers := b } } :=
  h.act (.pins s.tac.inputs s.tac.nextSample b s.tac.c0High s.tac.c1High)

theorem othersDrive_acts (t : Tick) (b : Bool) (h : Acts Z s₀ s) : Acts Z s₀ (s.othersDrive t b) := by
  have := permitOthers_acts b (stampRunning_acts t h)
  unfold State.othersDrive
  simpa using this

/-! ### The mode and the configuration -/

theorem Mode.ne_fault_of_operating (h : s.operating = true) : s.cr.mode ≠ .fault := by
  intro hmode
  simp [State.operating, hmode] at h

theorem Pv.calledMode_ne_startup (v : Pv) : v.calledMode ≠ .startup := by
  unfold Pv.calledMode
  split <;> nofun

theorem crReport_shape (before : Nat) (h : FreeActs s₀ s) : StepShape E s₀ (crReport before s) := by
  obtain hu | ⟨hop, hu⟩ := crReport_cases before s <;> rw [hu]
  · exact .free h
  · exact .mode h _ s.pv.calledMode_ne_startup (.inr (Mode.ne_fault_of_operating hop))

theorem crReload_cases (s : State) :
    ∃ c : Cr, c.mode = s.cr.mode ∧ c.params = s.cr.params ∧
      (crReload s = { s with cr := c } ∨ crReload s = crSetMode .fault { s with cr := c }) := by
  unfold crReload
  dsimp only
  split
  · exact ⟨{ s.cr with
      reloadDue := false, working := some (clampRecord s.cr.sector), workingCrc := crc16 ((clampRecord s.cr.sector).take 254)
      clamped := s.cr.clamped || clampRecord s.cr.sector != s.cr.sector }, rfl, rfl, .inl rfl⟩
  · exact ⟨{ s.cr with reloadDue := false }, rfl, rfl, .inr rfl⟩

theorem crReload_shape (h : FreeActs s₀ s) : StepShape E s₀ (crReload s) := by
  obtain ⟨c, hmode, hparams, hu | hu⟩ := crReload_cases s <;> rw [hu]
  · exact .free fun Z => config_acts hmode hparams (h Z)
  · exact .mode (fun Z => config_acts hmode hparams (h Z)) .fault nofun (.inl rfl)

theorem crReloadIfDue_shape (h : FreeActs s₀ s) : StepShape E s₀ (crReloadIfDue s) := by
  unfold crReloadIfDue
  split
  · exact crReload_shape h
  · exact .free h

theorem crIntegrity_shape (upset : List (Fin 256 × Byte)) (h : FreeActs s₀ s) : StepShape E s₀ (crIntegrity upset s) := by
  unfold crIntegrity
  split
  next w _ =>
    have hcopy : FreeActs s₀ { s with cr := { s.cr with working := some (disturb w upset) } } :=
      fun Z => config_acts rfl rfl (h Z)
    dsimp only
    split
    · exact .free hcopy
    · split
      · exact .free fun Z => config_acts (c := { s.cr with working := some (disturb w upset), reloadDue := true }) rfl rfl (h Z)
      · exact crReload_shape hcopy
  · exact .free h

theorem spoilSector_acts (h : Acts Z s₀ s) : Acts Z s₀ s.spoilSector := config_acts rfl rfl h

theorem crCommitEnd_shape (programmed : Bool) (h : FreeActs s₀ s) : StepShape E s₀ (crCommitEnd programmed s) := by
  unfold crCommitEnd
  dsimp only
  split
  · exact crReloadIfDue_shape fun Z => config_acts (s := s)
      (c := { s.cr with sector := s.mp.staging, commit := if recordCrcOk s.mp.staging then .completed else .failed }) rfl rfl (h Z)
  · exact crReloadIfDue_shape fun Z => config_acts (s := s.spoilSector)
      (c := { s.spoilSector.cr with commit := if recordCrcOk s.spoilSector.cr.sector then .completed else .failed }) rfl rfl
      (spoilSector_acts (h Z))

theorem crServiceAsserted_shape (h : FreeActs s₀ s) : StepShape E s₀ (crServiceAsserted s) := by
  unfold crServiceAsserted
  split
  next hop => exact .mode h .service nofun (.inr (Mode.ne_fault_of_operating hop))
  · exact .free h

/-- The transmitter that follows the mode changes the link's record alone, and there neither the start nor the conflict flag. -/
theorem ilcFollow_eq (s : State) :
    ∃ x : Ilc, ilcFollow s = { s with ilc := x } ∧ x.started = s.ilc.started ∧ x.conflict = s.ilc.conflict := by
  unfold ilcFollow
  split
  · split
    · obtain ⟨_, hu, -⟩ := draw_eq { s with ilc := { s.ilc with transmitter := .ready, slots := .empty } }
      unfold ilcEnable
      dsimp only
      rw [hu]
      exact ⟨_, rfl, rfl, rfl⟩
    · split
      · exact ⟨_, rfl, rfl, rfl⟩
      · exact ⟨s.ilc, rfl, rfl, rfl⟩
  · exact ⟨s.ilc, rfl, rfl, rfl⟩

theorem ilcFollow_cr (s : State) : (ilcFollow s).cr = s.cr := by
  obtain ⟨_, hu, -⟩ := ilcFollow_eq s
  rw [hu]

/-- No act changes the mode. -/
theorem Acts.mode_eq (h : Acts Z s t) : t.cr.mode = s.cr.mode := by
  refine h.keep_eq (f := (·.cr.mode)) fun s t hst => ?_
  cases hst with
  | config c n hmode => exact hmode
  | timer id x => cases id <;> rfl
  | _ => rfl

theorem crSetMode_mode (m : Mode) (s : State) : (crSetMode m s).cr.mode = m := by
  obtain ⟨hmode, hu⟩ | ⟨-, hu⟩ := crSetMode_cases m s <;> rw [hu]
  · exact hmode
  · rw [ilcFollow_cr, (modeJobs_acts (Z := .full True) _ trivial trivial (.refl _)).mode_eq]
    unfold State.inMode
    dsimp only
    split <;> rfl

theorem crAbandonCommit_cases (s : State) :
    (∃ c n, Cr.mode c = s.cr.mode ∧ c.params = s.cr.params ∧ crAbandonCommit s = { s with cr := c, freeCount := n }) ∨
    ∃ c n, Cr.mode c = s.cr.mode ∧ c.params = s.cr.params ∧ crAbandonCommit s = crSetMode .fault { s with cr := c, freeCount := n } := by
  unfold crAbandonCommit crReloadIfDue
  dsimp only
  split
  · split
    · obtain ⟨c, hmode, hparams, hu | hu⟩ := crReload_cases { s.spoilSector with cr := { s.spoilSector.cr with commit := .failed } }
      · exact .inl ⟨c, _, hmode, hparams, hu⟩
      · exact .inr ⟨c, _, hmode, hparams, hu⟩
    · exact .inl ⟨{ s.spoilSector.cr with commit := .failed }, s.spoilSector.freeCount, rfl, rfl, rfl⟩
  · exact .inl ⟨s.cr, s.freeCount, rfl, rfl, rfl⟩

theorem crServiceReleased_shape (h : FreeActs s₀ s) : StepShape E s₀ (crServiceReleased s) := by
  unfold crServiceReleased
  obtain ⟨c, n, hmode, hparams, hu⟩ | ⟨c, n, hmode, hparams, hu⟩ := crAbandonCommit_cases s <;> rw [hu] <;> dsimp only
  · split
    next hservice =>
      refine .mode (fun Z => config_acts hmode hparams (h Z)) _ (Pv.calledMode_ne_startup _) (.inr ?_)
      rw [hservice]
      nofun
    · exact .free fun Z => config_acts hmode hparams (h Z)
  · rw [if_neg (by rw [crSetMode_mode]; nofun)]
    exact .mode (fun Z => config_acts hmode hparams (h Z)) .fault nofun (.inl rfl)

/-! ### Frames and freshness -/

theorem pvStaleExpired_shape (a : Nat) (hrun : s.runs = true) (h : FreeActs s₀ s) : StepShape E s₀ (pvStaleExpired a s) :=
  crReport_shape _ fun Z => peers_acts hrun rfl (Pv.modify_tableOk (fun _ => rfl) fun _ he => he) (h Z)

theorem deliver_shape {g : GoodFrame} (hrun : s.runs = true) (hsender : 1 ≤ g.sender ∧ g.sender ≤ 32) (hm : g.msg.inRange)
    (h : FreeActs s₀ s) : StepShape E s₀ (deliver g s) := by
  unfold deliver
  split
  · unfold crConflict
    dsimp only
    split
    · exact .free fun Z => putCounters_acts _ (h Z)
    · exact .conflict fun Z => putCounters_acts _ (h Z)
  next hother =>
    split
    next m heq =>
      rw [heq] at hm
      exact crReport_shape _ fun Z => peers_acts (s := ilcCountReceived s) hrun (Pv.status_conflict _ _ _ _)
        (Pv.status_tableOk _ hsender hm hother) (putCounters_acts _ (h Z))
    · exact .quiet fun Z hl _ _ => deliverNotice_acts hrun hm hl (h Z)

theorem ilcBurstClose_shape (hrun : s.runs = true) (h : FreeActs s₀ s) : StepShape E s₀ (ilcBurstClose s) := by
  unfold ilcBurstClose
  split
  next burst overlong since _ _ =>
    generalize after since endIdleTicks = t
    have hclosed : FreeActs s₀ { s.stamp t with ilc := { s.ilc with receiver := .waiting, endIdle := true } } :=
      fun Z => (stamp_acts _ (h Z)).act (.link _ rfl rfl rfl rfl (fun _ => rfl) id)
    dsimp only
    split
    next g hg =>
      obtain ⟨hsender, hm⟩ := judgeBurst_inRange hg
      exact deliver_shape hrun hsender hm hclosed
    · exact .free fun Z => putCounters_acts _ (hclosed Z)
  · exact .free h

/-! ### The maintenance port -/

theorem answer_acts (r : Request) (h : Acts Z s₀ s) : Acts Z s₀ (answer r s).state := by
  cases r with
  | readStation | readFigures | readPorts | malformed => exact h
  | readPeer a =>
    simp only [answer]
    split <;> exact h
  | readConfig sector offset length =>
    simp only [answer]
    split <;> exact h
  | writeConfig offset length data =>
    simp only [answer, answerWrite]
    split_ifs
    · exact h
    · exact h
    · exact h
    · exact h.act (.port _)
  | commit =>
    simp only [answer, answerCommit]
    split_ifs
    · exact h
    · exact h
    · exact h
    · exact config_acts rfl rfl h
  | clearLockout =>
    simp only [answer, answerClearLockout]
    split_ifs with hrole
    · exact h
    · push Not at hrole
      exact dsClearLockout_acts hrole.2 h
    · exact h
  | restart =>
    simp only [answer, answerRestart]
    split_ifs
    · exact h
    · exact h.act (.port _)

theorem mpJudge_acts (r : Request) (h : Acts Z s₀ s) : Acts Z s₀ (mpJudge r s) := (answer_acts r h).act (.port _)

theorem mpRequest_acts (t : Tick) (r : Request) (h : Acts Z s₀ s) : Acts Z s₀ (mpRequest t r s) := by
  have ht := stamp_acts t h
  obtain ⟨-, hu⟩ | ⟨-, -, hu⟩ | ⟨-, -, -, hu⟩ | ⟨-, -, -, hu⟩ := mpRequest_cases t r s <;> rw [hu]
  · exact ht.act (.port _)
  · exact mpJudge_acts r ht
  · exact ht.act (.port _)
  · exact ht

theorem mpSent_shape (inRequest : Bool) (h : FreeActs s₀ s) : StepShape E s₀ (mpSent inRequest s) := by
  obtain ⟨-, hu⟩ | ⟨-, -, hu⟩ | ⟨-, -, -, hu⟩ | ⟨r, -, -, -, hu⟩ := mpSent_cases inRequest s <;> rw [hu]
  · exact .free h
  · exact .hold h _ nofun
  · exact .free fun Z => (h Z).act (.port _)
  · exact .free fun Z => mpJudge_acts r ((h Z).act (.port _))

/-! ### Qualified inputs -/

theorem qualify_acts (i : InputLine) (x : Bool) (h : Acts Z s₀ s) : Acts Z s₀ (s.qualify i x) :=
  h.act (.pins (s.qualify i x).tac.inputs s.tac.nextSample s.tac.permitOthers s.tac.c0High s.tac.c1High)

theorem reportQualified_shape (i : InputLine) (x : Bool) (h : FreeActs s₀ s) : StepShape E s₀ (reportQualified i x s) := by
  cases i with
  | srcCb => exact .quiet fun Z hl hs hc => breakerQualified_acts hl hs .source x hc (h Z)
  | feederCb p => exact .quiet fun Z hl hs hc => breakerQualified_acts hl hs (.feeder p) x hc (h Z)
  | runFb =>
    unfold reportQualified
    refine .quiet fun Z hl _ _ => ?_
    dsimp only
    split
    · exact dsRunAsserted_acts (h Z)
    · exact dsRunReleased_acts hl (h Z)
  | inhibit =>
    unfold reportQualified
    refine .free fun Z => ?_
    dsimp only
    split
    · exact dsInhibitAsserted_acts (h Z)
    · exact dsInhibitReleased_acts (h Z)
  | service =>
    unfold reportQualified
    dsimp only
    split
    · exact crServiceAsserted_shape h
    · exact crServiceReleased_shape h
  | feederLocal p =>
    unfold reportQualified
    refine .quiet fun Z hl _ _ => ?_
    dsimp only
    split
    · exact flLocalAsserted_acts hl p (cutLocal_acts p (h Z))
    · exact flLocalReleased_acts hl p (h Z)

theorem tacQualify_shape (i : InputLine) (h : FreeActs s₀ s) : StepShape E s₀ (tacQualify i s) := by
  unfold tacQualify
  split
  · exact reportQualified_shape i _ fun Z => qualify_acts i _ (h Z)
  · exact .free h

end

section
variable {E : Prop} {s₀ s t : State}

/-! ### Timers of the session -/

/-- The join at the guard's expiry stops a guard timer that is stopped already. -/
theorem bscJoin_cancel_guard (s : State) : bscJoin (s.cancel .guard) = bscJoin s := rfl

theorem guardExpired_shape (h : FreeActs s₀ s) (hguard : s.bsc.session.guard.isRunning = true) :
    StepShape E s₀ (bscGuardExpired (s.cancel .guard)) := by
  unfold bscGuardExpired
  split
  next hwaiting =>
    rw [bscJoin_cancel_guard]
    exact .free fun Z => bscJoin_acts hwaiting (fun hs => (hs.2.2.2.1 hguard).2) (h Z)
  · exact .free fun Z => cancel_acts nofun nofun (h Z)

theorem stuckExpired_shape (h : FreeActs s₀ s) (hstuck : s.bsc.session.stuck.isRunning = true) :
    StepShape E s₀ (bscStuckExpired (s.cancel .stuck)) := by
  unfold bscStuckExpired
  split
  next hwaiting =>
    refine .free fun Z => (h Z).act (.session { s.bsc.session with stuck := .stopped, stuckFlag := true } s.tac.permitPull
      s.tac.permitEdges true fun hs => ?_)
    have hphase : s.bsc.session.phase = .waiting := hwaiting
    have hguard : s.bsc.session.guard.isRunning = false := by
      by_contra hrun
      rw [Bool.not_eq_false] at hrun
      exact Bool.noConfusion (hstuck.symm.trans (hs.2.2.2.1 hrun).1)
    simp only [State.sessionFormed, State.withSession, hphase, hguard] at hs ⊢
    simp_all
  · exact .free fun Z => cancel_acts nofun nofun (h Z)

theorem Timer.isRunning_of_expiry {x : Timer} {t : Tick} (h : x.expiry = some t) : x.isRunning = true := by
  obtain ⟨start, d, rfl, -, -⟩ := Timer.expiry_eq_some h
  rfl

/-! ### Every command, and every step -/

theorem State.timer_stamp (s : State) (t : Tick) (id : TimerId) : (s.stamp t).timer id = s.timer id := by cases id <;> rfl

theorem tacSample_acts {Z : Scope} (x : InputLevels) (h : Acts Z s₀ s) : Acts Z s₀ (tacSample x s) :=
  (stamp_acts s.tac.nextSample h).act (.pins (tacSample x s).tac.inputs (tacSample x s).tac.nextSample s.tac.permitOthers
    s.tac.c0High s.tac.c1High)

theorem tacPwmPeriod_acts {Z : Scope} (h : Acts Z s₀ s) : Acts Z s₀ (tacPwmPeriod s) := by
  unfold tacPwmPeriod
  generalize after s.tac.pwmStart 10000 = t
  exact (stamp_acts t h).act (.pwmPeriod t)

theorem segment_shape (id : TimerId) (h : FreeActs s₀ s) (ht : execTimerSegmentComplete id s = .next t) : StepShape E s₀ t := by
  refine whileRunning_shape ht h fun _ => ?_
  split
  next t rest hsegment =>
    have hrun : (s.timer id).isRunning = true ∧ rest.isRunning = true := by
      cases htimer : s.timer id with
      | stopped => simp [htimer, Timer.segment] at hsegment
      | running start d =>
        simp only [htimer, Timer.segment, Option.ite_none_right_eq_some, Option.some.injEq, Prod.mk.injEq] at hsegment
        obtain ⟨-, -, rfl⟩ := hsegment
        exact ⟨rfl, rfl⟩
    refine .quiet fun Z hl _ _ => (stamp_acts t (h Z)).act (.timer id rest (fun _ => ?_) (fun hid => ?_) fun _ => hl)
    · exact (congrArg Timer.isRunning (s.timer_stamp t id)).trans hrun.1
    · subst hid
      exact hrun.2.trans hrun.1.symm
  · exact .free h

theorem c0Capture_shape (rise : Rise) (h : FreeActs s₀ s) (ht : execC0Capture rise s = .next t) : StepShape E s₀ t := by
  refine whileRunning_shape ht h (fun _ => ?_)
  split
  · have hrise : FreeActs s₀ { s.stamp rise.time with tac := { s.tac with c0High := true } } :=
      fun Z => comparators_acts (s := s.stamp rise.time) true s.tac.c1High (stamp_acts _ (h Z))
    dsimp only
    split
    · exact .record fun Z => muCloseCycle_acts _ _ (hrise Z)
    · exact .free hrise
  · exact .free fun Z => comparators_acts _ s.tac.c1High (h Z)

theorem c1Capture_shape (rise : Rise) (h : FreeActs s₀ s) (ht : execC1Capture rise s = .next t) : StepShape E s₀ t := by
  refine whileRunning_shape ht h (fun _ => ?_)
  split
  · have hrise : FreeActs s₀ { s.stamp rise.time with tac := { s.tac with c1High := true } } :=
      fun Z => comparators_acts (s := s.stamp rise.time) s.tac.c0High true (stamp_acts _ (h Z))
    dsimp only
    split
    · exact .free fun Z => muSourceCapture_acts _ (hrise Z)
    · exact .free hrise
  · exact .free fun Z => comparators_acts s.tac.c0High _ (h Z)

theorem load_shape {p : Bool} {t' : Tick} (h : FreeActs s₀ s) :
    StepShape E s₀ (if s.awaitsLoad && p then crLoad (s.stamp t') else s) := by
  split
  next hwait =>
    simp only [State.awaitsLoad, Bool.and_eq_true, beq_iff_eq] at hwait
    exact .load (fun Z => stamp_acts _ (h Z)) hwait.1.1
  · exact .free h

theorem removal_shape (a : Nat) (h : FreeActs s₀ s) (ht : execRemovalTimerExpiry a s = .next t) : StepShape E s₀ t := by
  refine whileRunning_shape ht h (fun hrun => ?_)
  split
  · refine atExpiry_shape h fun t' _ => .free fun Z => ?_
    exact peers_acts (s := (s.stamp t').cancel (.removal a)) hrun rfl Pv.remove_tableOk (expired_acts (.removal a) h nofun rfl t' Z)
  · exact .free h

/-- A command that ends a reset. -/
def resetEnds : Instr → Prop
  | .powerOnReset _ | .resetRelease _ | .restartResetEnd _ => True
  | _ => False

/-- Every command leaves a state of one of the shapes. -/
theorem exec_shape (c : Instr) (h : FreeActs s₀ s) (hinputs : s.tac.inputs = s₀.tac.inputs) (ht : exec c s = .next t) :
    StepShape (resetEnds c) s₀ t := by
  cases c with
  | powerOnReset straps =>
    cases ht
    exact .powerOn h straps trivial
  | stationReset t' =>
    cases ht
    split
    · exact .free h
    · exact .hold (fun Z => stamp_acts t' (h Z)) _ nofun
  | resetRelease straps =>
    cases ht
    split
    next hphase => exact .release h straps trivial (by rw [hphase]; nofun)
    · exact .free h
  | restartResetEnd straps =>
    cases ht
    split
    next hphase => exact .release h straps trivial (by rw [hphase]; nofun)
    · exact .free h
  | standbySupplyLost t' =>
    cases ht
    have hret : (s.stampRunning t').ret = s.ret := by
      unfold State.stampRunning
      split <;> rfl
    rw [← hret]
    exact .free fun Z => (stampRunning_acts t' (h Z)).act (.standby false)
  | timerSegmentComplete id => exact segment_shape id h ht
  | startUpLoadComplete t' => exact whileRunning_shape ht h (fun _ => load_shape h)
  | settleLimitExpiry => exact whileRunning_shape ht h (fun _ => load_shape h)
  | scan levels =>
    refine whileRunning_shape ht h (fun _ => ?_)
    split
    · exact .free fun Z => muScan_acts levels (h Z)
    · exact .free h
  | c0Capture rise => exact c0Capture_shape rise h ht
  | syntheticTimeoutExpiry =>
    exact onExpiry_shape ht h (fun t' _ _ => .record fun Z => muCloseCycle_acts _ _ (expired_acts .synthetic h nofun rfl t' Z))
  | c1Capture rise => exact c1Capture_shape rise h ht
  | sourceTimeoutExpiry => exact onExpiry_quiet ht nofun h (fun Z u _ _ _ hu => muSourceTimeout_acts hu)
  | pulseTimerExpiry c =>
    exact onExpiry_quiet ht nofun h (fun Z u hl _ hc hu => reportEnded_acts hl c hc (hu.act (.idlePulse c)))
  | confirmTimerExpiry b =>
    refine onExpiry_quiet ht nofun h (fun Z u hl hs _ hu => ?_)
    unfold tacNotConfirmed
    split
    · exact reportNotConfirmed_acts hl hs _ b (hu.act (.window b _))
    · exact hu
  | pwmPeriodStart =>
    exact whileRunning_shape ht h (fun _ => .free fun Z => tacPwmPeriod_acts (h Z))
  | inputQualified i => exact whileRunning_shape ht h (fun _ => tacQualify_shape i h)
  | permitFallingEdge t' own =>
    cases ht
    refine .free fun Z => ?_
    split
    · exact stampRunning_acts t' (h Z)
    · split
      · exact bscFall_acts (othersDrive_acts t' true (h Z))
      · exact othersDrive_acts t' true (h Z)
  | permitRisingEdge t' =>
    cases ht
    refine .free fun Z => ?_
    split
    · exact bscRise_acts (othersDrive_acts t' false (h Z))
    · exact othersDrive_acts t' false (h Z)
  | burstClose => exact whileRunning_shape ht h (fun hrun => ilcBurstClose_shape hrun h)
  | statusTimerExpiry =>
    exact onExpiry_shape ht h (fun t' _ hdue => .free fun Z => ilcStatusDue_acts (Timer.isRunning_of_expiry hdue) (stamp_acts t' (h Z)))
  | attemptStart => exact whileRunning_shape ht h (fun _ => .free fun Z => ilcAttempt_acts (h Z))
  | collision noEcho => exact whileRunning_shape ht h (fun _ => .free fun Z => ilcCollision_acts noEcho (h Z))
  | attemptSuccess => exact whileRunning_shape ht h (fun _ => .free fun Z => ilcSucceed_acts (h Z))
  | disableDriverRelease => exact whileRunning_shape ht h (fun _ => .free fun Z => ilcRelease_acts (h Z))
  | staleTimerExpiry a =>
    exact onExpiry_shape ht h (fun t' hrun _ => pvStaleExpired_shape a hrun (expired_acts (.stale a) h nofun rfl t'))
  | removalTimerExpiry a => exact removal_shape a h ht
  | balancePeriodExpiry => exact onExpiry_quiet ht nofun h (fun Z u hl hs hc hu => beExpired_acts hl hs hc hu)
  | windowTimerExpiry => exact onExpiry_quiet ht nofun h (fun Z u _ _ _ hu => dsWindowExpired_acts hu)
  | holdoffTimerExpiry => exact onExpiry_quiet ht nofun h (fun Z u _ _ _ hu => hu.act (.diesel _ rfl rfl))
  | lossTimerExpiry => exact onExpiry_quiet ht nofun h (fun Z u _ _ _ hu => hu)
  | stopTimerExpiry => exact onExpiry_quiet ht nofun h (fun Z u _ _ _ hu => dsStopExpired_acts hu)
  | restTimerExpiry => exact onExpiry_quiet ht nofun h (fun Z u _ _ _ hu => dsRestExpired_acts hu)
  | spoolTimerExpiry => exact onExpiry_quiet ht nofun h (fun Z u _ _ _ hu => dsSpoolExpired_acts hu)
  | syncTimeoutExpiry => exact onExpiry_quiet ht nofun h (fun Z u _ _ _ hu => dsSyncExpired_acts hu)
  | unloadTimerExpiry => exact onExpiry_quiet ht nofun h (fun Z u _ _ _ hu => dsUnloadExpired_acts hu)
  | cooldownTimerExpiry => exact onExpiry_quiet ht nofun h (fun Z u _ _ _ hu => dsCooldownExpired_acts hu)
  | ripenessTimerExpiry p =>
    exact onExpiry_quiet ht nofun h (fun Z u hl _ _ hu => hu.act (.record p _ hl fun r _ => PortRecord.quietly_of_eq rfl rfl rfl fun hc => hc))
  | restoreQualificationTimerExpiry => exact onExpiry_quiet ht nofun h (fun Z u hl _ _ hu => hu.act (.ladder _ hl rfl))
  | stepSpacingTimerExpiry => exact onExpiry_quiet ht nofun h (fun Z u _ _ _ hu => hu)
  | overloadTimerExpiry => exact onExpiry_quiet ht nofun h (fun Z u hl _ _ hu => flOverloadExpired_acts hl hu)
  | deadTimerExpiry => exact onExpiry_shape ht h (fun t' _ _ => .dead (expired_acts .dead h nofun rfl t'))
  | recoverTimerExpiry => exact onExpiry_quiet ht nofun h (fun Z u hl hs _ hu => bscRecoverExpired_acts hl hu)
  | guardTimerExpiry =>
    exact onExpiry_shape ht h (fun t' _ hdue => guardExpired_shape (fun Z => stamp_acts t' (h Z)) (Timer.isRunning_of_expiry hdue))
  | stuckTimerExpiry =>
    exact onExpiry_shape ht h (fun t' _ hdue => stuckExpired_shape (fun Z => stamp_acts t' (h Z)) (Timer.isRunning_of_expiry hdue))
  | slotTimerExpiry othersLow =>
    exact onExpiry_shape ht h (fun t' _ _ => .slot (fun Z => permitOthers_acts othersLow (expired_acts .slot h nofun rfl t' Z)) rfl hinputs)
  | holdTimerExpiry => exact onExpiry_quiet ht nofun h (fun Z u _ _ _ hu => bscHoldExpired_acts hu)
  | liveWaitTimerExpiry => exact onExpiry_quiet ht nofun h (fun Z u _ _ _ hu => bscHoldExpired_acts hu)
  | integrityTimerExpiry upset =>
    exact onExpiry_shape ht h (fun t' _ _ => crIntegrity_shape upset fun Z => (expired_acts .integrity h nofun rfl t' Z).act (.config _ _ rfl rfl))
  | commitComplete t' programmed =>
    refine whileRunning_shape ht h (fun _ => ?_)
    split
    · exact crCommitEnd_shape programmed fun Z => stamp_acts t' (h Z)
    · exact .free h
  | readStation t' | readFigures t' | readPorts t' | commit t' | clearLockout t' | restart t' =>
    exact whileRunning_shape ht h (fun _ => .free fun Z => mpRequest_acts t' _ (h Z))
  | readPeer t' | readConfig t' | writeConfig t' | malformedRequest t' | requestGapTimeout t' =>
    exact whileRunning_shape ht h (fun _ => .free fun Z => mpRequest_acts t' _ (h Z))
  | responseSent sent =>
    refine whileRunning_shape ht h (fun _ => ?_)
    split
    · exact mpSent_shape _ fun Z => stamp_acts _ (h Z)
    · exact .free h
  | characterReceived fall samples => exact whileRunning_shape ht h (fun _ => .free fun Z => ilcCharacter_acts fall samples (h Z))
  | firstEndIdle => exact whileRunning_shape ht h (fun _ => .free fun Z => ilcFirstEndIdle_acts (h Z))
  | inputSample levels => exact whileRunning_shape ht h (fun _ => .free fun Z => tacSample_acts levels (h Z))

theorem StepShape.weaken (h : StepShape E s t) : StepShape True s t := by
  cases h with
  | quiet h => exact .quiet h
  | record h => exact .record h
  | dead h => exact .dead h
  | slot h hslot hinputs => exact .slot h hslot hinputs
  | mode h m hm hfrom => exact .mode h m hm hfrom
  | conflict h => exact .conflict h
  | load h hmode => exact .load h hmode
  | powerOn h straps => exact .powerOn h straps trivial
  | hold h p hp => exact .hold h p hp
  | release h straps _ hphase => exact .release h straps trivial hphase

theorem step_shape (h : step s = .next t) : StepShape True s t := by
  unfold step at h
  split at h
  next c rest _ => exact (exec_shape (s := { s with pending := rest }) c (fun Z => (Acts.refl s).act (.queue rest)) rfl h).weaken
  · cases h
    refine .free fun Z => ?_
    unfold State.tick
    split
    · exact (Acts.refl s).act (.time _)
    · exact .refl s

end

end Sys2Proof.Machine
end

section
/-! SUPPORT. The invariants: what every move keeps. -/

namespace Sys2Proof.Machine

section
variable {K E : Prop} {s t u : State}

/-! ### What every step keeps -/

/-- The acts, and the few updates by which a step changes the mode, the conflict, the transmitter, or resets the station. In a strict run
(`K`) the diesel sequencer takes no state from FAILED, nor from none in STARTUP; the ends of the resets stand apart (`E`). -/
inductive Move (K E : Prop) (s : State) : State → Prop
  | acts {t : State} (h : Acts (.full K) s t) : Move K E s t
  | mode (m : Mode) (hm : m ≠ .startup) (hfrom : m = .fault ∨ s.cr.mode ≠ .fault) : Move K E s (s.inMode m)
  | conflict : Move K E s s.inConflict
  | take (record : List Byte) (hmode : s.cr.mode = .startup) : Move K E s (crTake record s)
  | link : Move K E s s.linkStarted
  | follow : Move K E s (ilcFollow s)
  | powerOn (straps : BitVec 5) (hE : E) : Move K E s (resetEnd straps (resetAll true s))
  | hold (p : ResetPhase) (hp : p ≠ .running) : Move K E s (stationReset p s)
  | release (straps : BitVec 5) (hE : E) (hphase : s.phase ≠ .running) : Move K E s (resetEnd straps s)

/-- A run of moves. -/
def Moves (K E : Prop) : State → State → Prop := Relation.ReflTransGen (Move K E)

theorem Moves.move (h : Moves K E s t) (hm : Move K E t u) : Moves K E s u := Relation.ReflTransGen.tail h hm

theorem Acts.moves (h : Acts (.full K) s t) : Moves K E s t := Relation.ReflTransGen.single (.acts h)

/-- What every move keeps, a run keeps. -/
theorem Moves.keep {P : State → Prop} (h : Moves K E s t) (hmove : ∀ s t, Move K E s t → P s → P t) (hs : P s) : P t := by
  induction h with
  | refl => exact hs
  | tail _ h ih => exact hmove _ _ h ih

theorem crSetMode_moves (m : Mode) (hm : m ≠ .startup) (hfrom : m = .fault ∨ u.cr.mode ≠ .fault) (h : Moves K E s u) :
    Moves K E s (crSetMode m u) := by
  obtain ⟨-, hu⟩ | ⟨-, hu⟩ := crSetMode_cases m u <;> rw [hu]
  · exact h
  · exact ((h.move (.mode m hm hfrom)).move (.acts (modeJobs_acts _ trivial trivial (.refl _)))).move .follow

/-- The diesel sequencer holds no state in STARTUP. -/
def State.dieselWaits (s : State) : Prop := s.cr.mode = .startup → s.ds.state = none

theorem State.dieselWaits.dieselTaken (hs : s.dieselWaits) (h : s.dieselTaken) : s.cr.mode ≠ .startup := by
  obtain h | h := h
  · intro hmode
    rw [hs hmode] at h
    cases h
  · exact h

theorem ilcFollow_ds (s : State) : (ilcFollow s).ds = s.ds := by
  obtain ⟨_, hu, -⟩ := ilcFollow_eq s
  rw [hu]

theorem crTake_mode (record : List Byte) (s : State) : (crTake record s).cr.mode ≠ .startup ∧ (crTake record s).cr.mode ≠ .fault := by
  unfold crTake
  dsimp only
  split <;> exact ⟨nofun, nofun⟩

theorem linkStarted_blocksStarted_ds (s : State) : s.blocksStarted.linkStarted.ds = s.ds := by
  simp only [State.linkStarted, State.blocksStarted, bscStart, State.start, State.putTimer, beStart, muStart]

theorem crTake_ds (record : List Byte) (s : State) : (crTake record s).ds = s.ds := by
  simp only [crTake]

theorem crLoad_moves (hmode : u.cr.mode = .startup) (hwaits : K → u.ds.state = none) (h : Moves K E s u) : Moves K E s (crLoad u) := by
  have hloading : Moves K E s u.loading := h.move (.acts (loading_acts (.refl u)))
  obtain hu | hu := crLoad_cases u <;> rw [hu, ilcStart_eq]
  · obtain ⟨hstartup, -⟩ := crTake_mode u.cr.sector u.loading
    have htake := hloading.move (.take u.cr.sector hmode)
    generalize hx : crTake u.cr.sector u.loading = x at htake hstartup ⊢
    have hstarted := ((htake.move (.acts (blocksStarted_acts trivial (.refl x)))).move .link).move .follow
    refine hstarted.move (.acts (startedBlocks_acts trivial trivial (fun hK => ?_) (.inr ?_) (.refl _)))
    · refine ⟨?_, .inr ?_⟩
      · have hds : x.ds = u.ds := by rw [← hx, crTake_ds, State.loading]
        rw [ilcFollow_ds, linkStarted_blocksStarted_ds, hds, hwaits hK]
        nofun
      · rw [ilcFollow_cr]
        exact hstartup
    · rw [ilcFollow_cr]
      exact hstartup
  · exact ((hloading.move (.mode .fault nofun (.inl rfl))).move .link).move .follow

theorem Acts.dieselWaits (h : FreeActs s t) (hs : s.dieselWaits) : t.dieselWaits := by
  refine Acts.keep (h .core) (P := State.dieselWaits) (fun s t hst hs => ?_) hs
  cases hst with
  | config c n hmode => exact fun hm => hs (hmode.symm.trans hm)
  | diesel d hstate => exact fun hm => hstate.trans (hs hm)
  | enter st hst hfrom => exact fun hm => absurd (hs.dieselTaken (hfrom trivial).2) (not_not.2 hm)
  | fail d hstate hbias hfrom => exact fun hm => absurd (hs.dieselTaken hfrom) (not_not.2 hm)
  | unlock st hst hfrom => exact fun hm => nomatch hfrom.symm.trans (hs hm)
  | timer id x => cases id <;> exact hs
  | _ => exact hs

theorem StepShape.moves (hK : K → s.dieselWaits) (h : StepShape E s t) : Moves K E s t := by
  cases h with
  | quiet h => exact (h _ trivial trivial fun _ => trivial).moves
  | record h => exact (h _).moves.move (.acts (handRecord_acts trivial trivial trivial (fun _ _ _ => trivial) (.refl _)))
  | dead h => exact (h _).moves.move (.acts (bscDeadExpired_acts trivial trivial trivial (.refl _)))
  | slot h hslot _ => exact (h _).moves.move (.acts (bscSlotExpired_acts trivial hslot (.refl _)))
  | mode h m hm hfrom => exact crSetMode_moves m hm hfrom (h _).moves
  | @conflict u h =>
    have hshown : Moves K E s u.inConflict := (h _).moves.move .conflict
    obtain hu | ⟨hop, hu⟩ := crFollow_cases u.inConflict <;> rw [hu]
    · exact hshown.move .follow
    · exact (crSetMode_moves _ (Pv.calledMode_ne_startup _) (.inr (Mode.ne_fault_of_operating hop)) hshown).move .follow
  | load h hmode => exact crLoad_moves hmode (fun k => Acts.dieselWaits h (hK k) hmode) (h _).moves
  | powerOn h straps hE => exact (h _).moves.move (.powerOn straps hE)
  | hold h p hp => exact (h _).moves.move (.hold p hp)
  | release h straps hE hphase => exact (h _).moves.move (.release straps hE hphase)

/-- An invariant that every move keeps holds after a step. -/
theorem step_keeps {P : State → Prop} (hmove : ∀ s t, Move False True s t → P s → P t) (hs : P s) (h : step s = .next t) : P t :=
  ((step_shape h).moves False.elim).keep hmove hs

end

section
variable {Z : Scope} {K E : Prop} {s t : State}

/-! ### The moves, field by field -/

theorem State.inMode_eq (s : State) (m : Mode) :
    s.inMode m = { s with
      cr := { s.cr with mode := m }
      tac := { s.tac with alarm := { s.tac.alarm with modeFault := decide (m = .fault) || s.tac.alarm.modeFault } } } := by
  unfold State.inMode
  by_cases hm : m = .fault
  · simp only [hm, if_true, decide_true, Bool.true_or]
    rfl
  · simp only [hm, if_false, decide_false, Bool.false_or]

/-! ### Pulse channels -/

theorem Pulse.isActive_withTimer (x : Pulse) (y : Timer) : (x.withTimer y).isActive = x.isActive := by cases x <;> rfl

theorem State.isActive_putTimer (s : State) (id : TimerId) (x : Timer) (c : PulseChannel) :
    ((s.putTimer id x).pulse c).isActive = (s.pulse c).isActive := by
  cases id with
  | pulse d =>
    by_cases hd : c = d
    · subst hd
      rw [State.putTimer, State.pulse_putPulse_same, Pulse.isActive_withTimer]
    · rw [State.putTimer, State.pulse_putPulse_other _ _ hd]
  | confirm b => rw [State.putTimer, State.pulse_putWindow]
  | _ => rfl

/-- All that an act can do to the pulse channels. -/
theorem Act.pulse_cases (h : Act Z s t) :
    (∀ c, (t.pulse c).isActive = (s.pulse c).isActive) ∨
    (∃ c, (t.pulse c).isActive = false ∧ ∀ d, d ≠ c → t.pulse d = s.pulse d) ∨
    (∃ b, Z.closes b ∧ (s.pulse (tripChannel b)).isActive = false ∧
      (∀ p, b = .feeder p → s.operating = true ∧ s.islandUp = true) ∧ ∀ d, d ≠ closeChannel b → t.pulse d = s.pulse d) ∨
    (∃ b, (s.pulse (closeChannel b)).isActive = false ∧ ∀ d, d ≠ tripChannel b → t.pulse d = s.pulse d) ∨
    ∀ d, d ≠ .crank → t.pulse d = s.pulse d := by
  cases h with
  | idlePulse c =>
    exact .inr (.inl ⟨c, congrArg Pulse.isActive (State.pulse_putPulse_same s c .idle), fun _ => State.pulse_putPulse_other s _⟩)
  | closePulse b x hZ htrip hup => exact .inr (.inr (.inl ⟨b, hZ, htrip, hup, fun _ => State.pulse_putPulse_other s x⟩))
  | tripPulse b x hclose => exact .inr (.inr (.inr (.inl ⟨b, hclose, fun _ => State.pulse_putPulse_other s x⟩)))
  | crankPulse x => exact .inr (.inr (.inr (.inr fun _ => State.pulse_putPulse_other s x)))
  | timer id x => exact .inl (s.isActive_putTimer id x)
  | window b w => exact .inl fun c => congrArg Pulse.isActive (State.pulse_putWindow s b w c)
  | _ => exact .inl fun c => by cases c <;> rfl

theorem closeChannel_injective {b d : Breaker} (h : closeChannel b = closeChannel d) : b = d := by
  cases b <;> cases d <;> simp_all [closeChannel]

theorem tripChannel_injective {b d : Breaker} (h : tripChannel b = tripChannel d) : b = d := by
  cases b <;> cases d <;> simp_all [tripChannel]

theorem Act.pairsExclusive (h : Act Z s t) (hs : s.pairsExclusive) : t.pairsExclusive := by
  intro d ⟨hclose, htrip⟩
  refine hs d ?_
  obtain hsame | ⟨c, hidle, hother⟩ | ⟨b, -, hidle, -, hother⟩ | ⟨b, hidle, hother⟩ | hother := h.pulse_cases
  · exact ⟨(hsame _).symm.trans hclose, (hsame _).symm.trans htrip⟩
  · have hne (e : PulseChannel) (he : (t.pulse e).isActive = true) : e ≠ c := fun hec => by simp [hec, hidle] at he
    rw [hother _ (hne _ hclose)] at hclose
    rw [hother _ (hne _ htrip)] at htrip
    exact ⟨hclose, htrip⟩
  · rw [hother _ (closeChannel_ne_tripChannel b d).symm] at htrip
    have hne : d ≠ b := fun hd => by simp [hd, hidle] at htrip
    rw [hother _ fun hc => hne (closeChannel_injective hc)] at hclose
    exact ⟨hclose, htrip⟩
  · rw [hother _ (closeChannel_ne_tripChannel d b)] at hclose
    have hne : d ≠ b := fun hd => by simp [hd, hidle] at hclose
    rw [hother _ fun hc => hne (tripChannel_injective hc)] at htrip
    exact ⟨hclose, htrip⟩
  · exact ⟨hother _ (closeChannel_ne_crank d) ▸ hclose, hother _ (tripChannel_ne_crank d) ▸ htrip⟩

/-- Pairs of channels that are idle exclude each other. -/
theorem State.pairsExclusive_of_reset (hs : s.tac.srcClose = .idle ∧ s.tac.feederClose = .all .idle) : s.pairsExclusive := by
  obtain ⟨hsource, hfeeder⟩ := hs
  rintro (_ | p) ⟨hclose, -⟩
  · simp [closeChannel, State.pulse, hsource, Pulse.isActive] at hclose
  · simp [closeChannel, State.pulse, hfeeder, Pulse.isActive] at hclose

theorem State.pairsExclusive_of_pulse (hst : ∀ c, t.pulse c = s.pulse c) (hs : s.pairsExclusive) : t.pairsExclusive := by
  intro b
  have := hs b
  rwa [State.pairExclusive, ← hst, ← hst] at this

theorem Move.pairsExclusive (h : Move K E s t) (hs : s.pairsExclusive) : t.pairsExclusive := by
  cases h with
  | acts h => exact h.keep (fun _ _ => Act.pairsExclusive) hs
  | mode m => exact State.pairsExclusive_of_pulse (fun c => by rw [State.inMode_eq]; cases c <;> rfl) hs
  | follow =>
    obtain ⟨x, hx, -⟩ := ilcFollow_eq s
    exact State.pairsExclusive_of_pulse (fun c => by rw [hx]; cases c <;> rfl) hs
  | take record => exact State.pairsExclusive_of_pulse (fun c => by cases c <;> simp only [crTake, State.pulse]) hs
  | conflict | link => exact State.pairsExclusive_of_pulse (fun c => by cases c <;> rfl) hs
  | powerOn | hold => exact State.pairsExclusive_of_reset ⟨rfl, rfl⟩
  | release straps => exact State.pairsExclusive_of_pulse (fun c => by cases c <;> rfl) hs

/-- Settles O51: no act closes where the trip is active, nor trips where the close is. -/
theorem pairsStayExclusive : Obligations.PairsStayExclusive := by
  intro s t hs h
  exact step_keeps (fun _ _ => Move.pairsExclusive) hs h

end

section
variable {Z : Scope} {K E : Prop} {s t : State}

/-! ### The arbitration session -/

/-- A session is formed by its own fields, the drive of PERMIT, its edge reports and the permit-stuck cause. -/
theorem State.sessionFormed_of_eq (hsession : t.bsc.session = s.bsc.session) (hpull : t.tac.permitPull = s.tac.permitPull)
    (hedges : t.tac.permitEdges = s.tac.permitEdges) (hstuck : t.tac.alarm.permitStuck = s.tac.alarm.permitStuck)
    (hs : s.sessionFormed) : t.sessionFormed := by
  simp only [State.sessionFormed, hsession, hpull, hedges, hstuck] at hs ⊢
  exact hs

theorem State.sessionFormed_reset : State.reset.sessionFormed := by
  refine ⟨?_, ?_, ?_, ?_, ?_, ?_, ?_, ?_⟩ <;> decide

/-- The fields of the TAC that are the session's own. -/
theorem State.putPulse_permit (s : State) (c : PulseChannel) (x : Pulse) :
    (s.putPulse c x).tac.permitPull = s.tac.permitPull ∧ (s.putPulse c x).tac.permitEdges = s.tac.permitEdges ∧
      (s.putPulse c x).tac.alarm = s.tac.alarm := by cases c <;> exact ⟨rfl, rfl, rfl⟩

theorem State.putWindow_permit (s : State) (b : Breaker) (w : Window) :
    (s.putWindow b w).tac.permitPull = s.tac.permitPull ∧ (s.putWindow b w).tac.permitEdges = s.tac.permitEdges ∧
      (s.putWindow b w).tac.alarm = s.tac.alarm := by cases b <;> exact ⟨rfl, rfl, rfl⟩

theorem State.sessionFormed_putPulse (c : PulseChannel) (x : Pulse) (hs : s.sessionFormed) : (s.putPulse c x).sessionFormed := by
  obtain ⟨hpull, hedges, halarm⟩ := s.putPulse_permit c x
  exact State.sessionFormed_of_eq (s := s) rfl hpull hedges (congrArg AlarmSet.permitStuck halarm) hs

theorem State.sessionFormed_putWindow (b : Breaker) (w : Window) (hs : s.sessionFormed) : (s.putWindow b w).sessionFormed := by
  obtain ⟨hpull, hedges, halarm⟩ := s.putWindow_permit b w
  exact State.sessionFormed_of_eq (s := s) rfl hpull hedges (congrArg AlarmSet.permitStuck halarm) hs

/-- A session timer that runs only where it ran before keeps the session formed. -/
theorem State.sessionFormed_putTimer {id : TimerId} {x : Timer} (hrun : x.isRunning = true → (s.timer id).isRunning = true)
    (hs : s.sessionFormed) : (s.putTimer id x).sessionFormed := by
  obtain ⟨hpull, hedges, hwaiting, hguard, hslot, hhold, hstuck, hflag⟩ := hs
  cases id with
  | guard => exact ⟨hpull, hedges, fun h => hwaiting (h.imp_left hrun), fun h => hguard (hrun h), hslot, hhold, hstuck, hflag⟩
  | stuck =>
    refine ⟨hpull, hedges, fun h => hwaiting (h.imp_right hrun), fun h => ⟨?_, (hguard h).2⟩, hslot, hhold, hstuck, hflag⟩
    by_contra hx
    exact Bool.noConfusion ((hguard h).1.symm.trans (hrun ((Bool.not_eq_false _).mp hx)))
  | slot => exact ⟨hpull, hedges, hwaiting, hguard, fun h => hslot (hrun h), hhold, hstuck, hflag⟩
  | hold => exact ⟨hpull, hedges, hwaiting, hguard, hslot, fun h => hhold (h.imp_left hrun), hstuck, hflag⟩
  | liveWait => exact ⟨hpull, hedges, hwaiting, hguard, hslot, fun h => hhold (h.imp_right hrun), hstuck, hflag⟩
  | pulse c => exact State.sessionFormed_putPulse c _ ⟨hpull, hedges, hwaiting, hguard, hslot, hhold, hstuck, hflag⟩
  | confirm b => exact State.sessionFormed_putWindow b _ ⟨hpull, hedges, hwaiting, hguard, hslot, hhold, hstuck, hflag⟩
  | _ => exact ⟨hpull, hedges, hwaiting, hguard, hslot, hhold, hstuck, hflag⟩

theorem Act.sessionFormed (h : Act Z s t) (hs : s.sessionFormed) : t.sessionFormed := by
  cases h with
  | session x pull edges stuck hformed => exact hformed hs
  | coordinator b _ hsession => exact State.sessionFormed_of_eq hsession rfl rfl rfl hs
  | timer id x hrun => exact State.sessionFormed_putTimer hrun hs
  | idlePulse c => exact State.sessionFormed_putPulse c _ hs
  | closePulse b x => exact State.sessionFormed_putPulse _ x hs
  | tripPulse b x => exact State.sessionFormed_putPulse _ x hs
  | crankPulse x => exact State.sessionFormed_putPulse _ x hs
  | window b w => exact State.sessionFormed_putWindow b w hs
  | _ => exact State.sessionFormed_of_eq (s := s) rfl rfl rfl rfl hs

theorem Move.sessionFormed (h : Move K E s t) (hs : s.sessionFormed) : t.sessionFormed := by
  cases h with
  | acts h => exact h.keep (fun _ _ => Act.sessionFormed) hs
  | mode m =>
    rw [State.inMode_eq]
    exact State.sessionFormed_of_eq (s := s) rfl rfl rfl rfl hs
  | follow =>
    obtain ⟨x, hx, -⟩ := ilcFollow_eq s
    rw [hx]
    exact State.sessionFormed_of_eq (s := s) rfl rfl rfl rfl hs
  | take record =>
    unfold crTake
    exact State.sessionFormed_of_eq (s := s) rfl rfl rfl rfl hs
  | conflict | link | release => exact State.sessionFormed_of_eq (s := s) rfl rfl rfl rfl hs
  | powerOn | hold => exact State.sessionFormed_of_eq (s := State.reset) rfl rfl rfl rfl State.sessionFormed_reset

/-- Settles O56: every act on the session leaves it formed, and no other act touches it. -/
theorem sessionStaysFormed : Obligations.SessionStaysFormed := by
  intro s t hs h
  exact step_keeps (fun _ _ => Move.sessionFormed) hs h

/-! ### The peer table, the windows and the generator -/

/-- What the peer table, the frequency windows and the generator are made of. -/
def State.formed (s : State) : Prop := s.tableFormed ∧ s.windowsOk ∧ s.generatorOk

theorem State.formed_of_eq (hphase : t.phase = s.phase) (haddress : t.address = s.address) (hpv : t.pv = s.pv)
    (hmu : t.mu = s.mu) (hrandom : t.ilc.random = s.ilc.random) (hs : s.formed) : t.formed := by
  simp only [State.formed, State.tableFormed, State.windowsOk, State.generatorOk, State.runs, hphase, haddress, hpv, hmu,
    hrandom] at hs ⊢
  exact hs

theorem State.tableFormed_modify {a : Nat} {g : Entry → Entry} (haddress : ∀ e, (g e).address = e.address)
    (hrange : ∀ e, e.inRange → (g e).inRange) (hs : s.tableFormed) : State.tableFormed { s with pv := s.pv.modify a g } := by
  rw [State.tableFormed_iff] at hs ⊢
  obtain ⟨htable, hreset⟩ := hs
  exact ⟨Pv.modify_tableOk haddress hrange htable, fun hrun => by simp [Pv.modify, hreset hrun]⟩

theorem State.formed_putTimer (id : TimerId) (x : Timer) (hs : s.formed) : (s.putTimer id x).formed := by
  obtain ⟨htable, hwindows, hgenerator⟩ := hs
  cases id with
  | stale a => exact ⟨State.tableFormed_modify (fun _ => rfl) (fun _ he => he) htable, hwindows, hgenerator⟩
  | removal a => exact ⟨State.tableFormed_modify (fun _ => rfl) (fun _ he => he) htable, hwindows, hgenerator⟩
  | _ => exact ⟨htable, hwindows, hgenerator⟩

theorem Act.formed (h : Act Z s t) (hs : s.formed) : t.formed := by
  cases h with
  | measure m hwindows => exact ⟨hs.1, hwindows hs.2.1, hs.2.2⟩
  | peers v _ htable => exact ⟨htable hs.1, hs.2⟩
  | link x _ _ _ _ _ hrandom => exact ⟨hs.1, hs.2.1, hs.2.2.1, hrandom hs.2.2.2⟩
  | timer id x => exact State.formed_putTimer id x hs
  | _ => exact State.formed_of_eq (s := s) rfl rfl rfl rfl rfl hs

theorem ilcFollow_random (s : State) (h : s.ilc.random ≠ some 0) : (ilcFollow s).ilc.random ≠ some 0 := by
  unfold ilcFollow
  split
  · split
    · obtain ⟨r, hu, hr⟩ := draw_eq { s with ilc := { s.ilc with transmitter := .ready, slots := .empty } }
      unfold ilcEnable
      dsimp only
      rw [hu]
      exact hr h
    · split <;> exact h
  · exact h

theorem windowsOk_reset : State.reset.windowsOk := ⟨windowOk_nil, windowOk_nil⟩

/-- A station that has just been reset holds an empty table, empty windows and no generator value. -/
theorem State.formed_of_reset (haddress : 1 ≤ t.address ∧ t.address ≤ 32) (hpv : t.pv.table = []) (hmu : t.mu = State.reset.mu)
    (hrandom : t.ilc.random = none) : t.formed := by
  refine ⟨(State.tableFormed_iff t).2 ⟨?_, fun _ => hpv⟩, ?_, haddress, ?_⟩
  · simp [tableOk, hpv]
  · simp only [State.windowsOk, hmu]
    exact windowsOk_reset
  · rw [hrandom]
    nofun

theorem stationReset_address (p : ResetPhase) (s : State) : (stationReset p s).address = s.address := by
  unfold stationReset resetAll
  dsimp only
  split <;> rfl

theorem Move.formed (h : Move K E s t) (hs : s.formed) : t.formed := by
  have hstraps (straps : BitVec 5) : 1 ≤ straps.toNat + 1 ∧ straps.toNat + 1 ≤ 32 := by have := straps.isLt; omega
  cases h with
  | acts h => exact h.keep (fun _ _ => Act.formed) hs
  | mode m =>
    rw [State.inMode_eq]
    exact State.formed_of_eq (s := s) rfl rfl rfl rfl rfl hs
  | conflict =>
    obtain ⟨htable, hrest⟩ := hs
    exact ⟨htable, hrest⟩
  | take record =>
    unfold crTake
    exact State.formed_of_eq (s := s) rfl rfl rfl rfl rfl hs
  | link =>
    obtain ⟨htable, hwindows, haddress, -⟩ := hs
    exact ⟨htable, hwindows, haddress, fun hzero => lfsrSeed_ne_zero _ haddress (Option.some.inj hzero)⟩
  | follow =>
    obtain ⟨htable, hwindows, haddress, hrandom⟩ := hs
    have hnonzero := ilcFollow_random s hrandom
    obtain ⟨x, hx, -⟩ := ilcFollow_eq s
    rw [hx] at hnonzero ⊢
    exact ⟨htable, hwindows, haddress, hnonzero⟩
  | powerOn straps _ => exact State.formed_of_reset (hstraps straps) rfl rfl rfl
  | hold p => exact State.formed_of_reset (by rw [stationReset_address]; exact hs.2.2.1) rfl rfl rfl
  | release straps _ hphase =>
    obtain ⟨⟨-, -, -, hreset⟩, hwindows, -, hrandom⟩ := hs
    have hrun : s.runs = false := by simpa [State.runs] using hphase
    refine ⟨(State.tableFormed_iff _).2 ⟨?_, fun _ => hreset hrun⟩, hwindows, hstraps straps, hrandom⟩
    simp [tableOk, resetEnd, hreset hrun]

/-- Settles O53: every change of the table, of a window and of the generator keeps it formed. -/
theorem tablesStayFormed : Obligations.TablesStayFormed := by
  intro s t hs h
  exact step_keeps (P := State.formed) (fun _ _ => Move.formed) hs h

end

section
variable {Z : Scope} {K E : Prop} {s t : State}

/-! ### Pulses and windows lie apart from the rest of the TAC -/

theorem State.putPulse_eq (s : State) (c : PulseChannel) (x : Pulse) :
    ∃ srcClose srcTrip crank feederClose feederTrip, s.putPulse c x = { s with tac := { s.tac with
      srcClose := srcClose, srcTrip := srcTrip, crank := crank, feederClose := feederClose, feederTrip := feederTrip } } := by
  cases c <;> exact ⟨_, _, _, _, _, rfl⟩

theorem State.putWindow_eq (s : State) (b : Breaker) (w : Window) :
    ∃ srcWindow feederWindow, s.putWindow b w = { s with tac := { s.tac with srcWindow := srcWindow, feederWindow := feederWindow } } := by
  cases b <;> exact ⟨_, _, rfl⟩

/-! ### The outputs -/

theorem capCode_le (cap : Int) (rating : Nat) (offset : Int) : capCode cap rating offset ≤ 4095 := by
  have := clamp_bounds (roundDiv (cap * 4095) rating + offset) (show (0 : Int) ≤ 4095 by decide)
  unfold capCode
  omega

theorem State.outputsFollow_of_eq (hbias : t.ds.bias = s.ds.bias) (hpwm : t.tac.pwm = s.tac.pwm) (hinUse : t.tac.pwmInUse = s.tac.pwmInUse)
    (hcap : t.tac.capCode = s.tac.capCode) (hcode : t.sc.code = s.sc.code) (hs : s.outputsFollow) : t.outputsFollow := by
  simp only [State.outputsFollow, hbias, hpwm, hinUse, hcap, hcode] at hs ⊢
  exact hs

theorem State.outputsFollow_putPulse (c : PulseChannel) (x : Pulse) (hs : s.outputsFollow) : (s.putPulse c x).outputsFollow := by
  obtain ⟨_, _, _, _, _, hu⟩ := s.putPulse_eq c x
  rw [hu]
  exact State.outputsFollow_of_eq (s := s) rfl rfl rfl rfl rfl hs

theorem State.outputsFollow_putWindow (b : Breaker) (w : Window) (hs : s.outputsFollow) : (s.putWindow b w).outputsFollow := by
  obtain ⟨_, _, hu⟩ := s.putWindow_eq b w
  rw [hu]
  exact State.outputsFollow_of_eq (s := s) rfl rfl rfl rfl rfl hs

theorem Act.outputsFollow (h : Act Z s t) (hs : s.outputsFollow) : t.outputsFollow := by
  have ⟨⟨hlo, hhi⟩, hpwm, hinUse, hcap, hcode⟩ := hs
  cases h with
  | pwmPeriod t =>
    refine ⟨⟨hlo, hhi⟩, hpwm, ?_, hcap, hcode⟩
    dsimp only
    rw [hpwm]
    exact ⟨hlo, hhi⟩
  | diesel d _ hbias => exact State.outputsFollow_of_eq (s := s) hbias rfl rfl rfl rfl hs
  | fail d _ hbias => exact ⟨by dsimp only [State.failedWith]; omega, hbias.symm, hinUse, hcap, hcode⟩
  | bias v hrange =>
    obtain ⟨hlo', hhi'⟩ := hrange hlo hhi
    exact ⟨⟨hlo', hhi'⟩, clamp_inside hlo' hhi', hinUse, hcap, hcode⟩
  | source x _ hsame => exact State.outputsFollow_of_eq (s := s) rfl rfl rfl rfl hsame hs
  | command cap override => exact ⟨⟨hlo, hhi⟩, hpwm, hinUse, clamp_capCode _ _ _, capCode_le _ _ _⟩
  | idlePulse c => exact State.outputsFollow_putPulse c _ hs
  | closePulse b x => exact State.outputsFollow_putPulse _ x hs
  | tripPulse b x => exact State.outputsFollow_putPulse _ x hs
  | crankPulse x => exact State.outputsFollow_putPulse _ x hs
  | window b w => exact State.outputsFollow_putWindow b w hs
  | timer id x =>
    cases id with
    | pulse c => exact State.outputsFollow_putPulse c _ hs
    | confirm b => exact State.outputsFollow_putWindow b _ hs
    | _ => exact State.outputsFollow_of_eq (s := s) rfl rfl rfl rfl rfl hs
  | _ => exact State.outputsFollow_of_eq (s := s) rfl rfl rfl rfl rfl hs

theorem State.outputsFollow_reset : State.reset.outputsFollow := by
  refine ⟨⟨?_, ?_⟩, ?_, ⟨?_, ?_⟩, ?_, ?_⟩ <;> decide

theorem Move.outputsFollow (h : Move K E s t) (hs : s.outputsFollow) : t.outputsFollow := by
  cases h with
  | acts h => exact h.keep (fun _ _ => Act.outputsFollow) hs
  | mode m =>
    rw [State.inMode_eq]
    exact State.outputsFollow_of_eq (s := s) rfl rfl rfl rfl rfl hs
  | follow =>
    obtain ⟨x, hx, -⟩ := ilcFollow_eq s
    rw [hx]
    exact State.outputsFollow_of_eq (s := s) rfl rfl rfl rfl rfl hs
  | take record =>
    unfold crTake
    exact State.outputsFollow_of_eq (s := s) rfl rfl rfl rfl rfl hs
  | conflict | link | release => exact State.outputsFollow_of_eq (s := s) rfl rfl rfl rfl rfl hs
  | powerOn | hold => exact State.outputsFollow_of_eq (s := State.reset) rfl rfl rfl rfl rfl State.outputsFollow_reset

/-! ### The ALARM causes -/

theorem State.causesShown_of_eq (hmodeFault : t.tac.alarm.modeFault = s.tac.alarm.modeFault) (hmode : t.cr.mode = s.cr.mode)
    (haddress : t.tac.alarm.addressConflict = s.tac.alarm.addressConflict) (hilc : t.ilc.conflict = s.ilc.conflict)
    (hpv : t.pv.conflict = s.pv.conflict) (hs : s.causesShown) : t.causesShown := by
  simp only [State.causesShown, hmodeFault, hmode, haddress, hilc, hpv] at hs ⊢
  exact hs

theorem State.causesShown_putPulse (c : PulseChannel) (x : Pulse) (hs : s.causesShown) : (s.putPulse c x).causesShown := by
  obtain ⟨_, _, _, _, _, hu⟩ := s.putPulse_eq c x
  rw [hu]
  exact State.causesShown_of_eq (s := s) rfl rfl rfl rfl rfl hs

theorem State.causesShown_putWindow (b : Breaker) (w : Window) (hs : s.causesShown) : (s.putWindow b w).causesShown := by
  obtain ⟨_, _, hu⟩ := s.putWindow_eq b w
  rw [hu]
  exact State.causesShown_of_eq (s := s) rfl rfl rfl rfl rfl hs

theorem Act.causesShown (h : Act Z s t) (hs : s.causesShown) : t.causesShown := by
  cases h with
  | peers v hconflict => exact State.causesShown_of_eq (s := s) rfl rfl rfl rfl hconflict hs
  | config c n hmode => exact State.causesShown_of_eq (s := s) rfl hmode rfl rfl rfl hs
  | link x _ _ _ hconflict => exact State.causesShown_of_eq (s := s) rfl rfl rfl hconflict rfl hs
  | idlePulse c => exact State.causesShown_putPulse c _ hs
  | closePulse b x => exact State.causesShown_putPulse _ x hs
  | tripPulse b x => exact State.causesShown_putPulse _ x hs
  | crankPulse x => exact State.causesShown_putPulse _ x hs
  | window b w => exact State.causesShown_putWindow b w hs
  | timer id x =>
    cases id with
    | pulse c => exact State.causesShown_putPulse c _ hs
    | confirm b => exact State.causesShown_putWindow b _ hs
    | _ => exact State.causesShown_of_eq (s := s) rfl rfl rfl rfl rfl hs
  | _ => exact State.causesShown_of_eq (s := s) rfl rfl rfl rfl rfl hs

theorem State.causesShown_reset : State.reset.causesShown := ⟨by decide, rfl, rfl⟩

theorem Move.causesShown (h : Move K E s t) (hs : s.causesShown) : t.causesShown := by
  have ⟨hmodeFault, haddress, hconflict⟩ := hs
  cases h with
  | acts h => exact h.keep (fun _ _ => Act.causesShown) hs
  | mode m _ hfrom =>
    rw [State.inMode_eq]
    refine ⟨?_, haddress, hconflict⟩
    obtain rfl | hfrom := hfrom
    · simp
    · have hclear : s.tac.alarm.modeFault = false := Bool.eq_false_iff.2 fun h => hfrom (hmodeFault.1 h)
      simp [hclear]
  | conflict => exact ⟨hmodeFault, rfl, rfl⟩
  | take record hmode =>
    obtain ⟨-, hfault⟩ := crTake_mode record s
    refine ⟨⟨fun h => absurd (hmodeFault.1 h) (by rw [hmode]; nofun), fun h => absurd h hfault⟩, haddress, hconflict⟩
  | follow =>
    obtain ⟨x, hx, -, hsame⟩ := ilcFollow_eq s
    rw [hx]
    exact State.causesShown_of_eq (s := s) rfl rfl rfl hsame rfl hs
  | link | release => exact State.causesShown_of_eq (s := s) rfl rfl rfl rfl rfl hs
  | powerOn | hold => exact State.causesShown_of_eq (s := State.reset) rfl rfl rfl rfl rfl State.causesShown_reset

/-! ### FAILED and its lockout -/

theorem State.failedLocked_of_eq (hfailed : t.tac.alarm.dieselFailed = s.tac.alarm.dieselFailed) (hstate : t.ds.state = s.ds.state)
    (hlockout : t.ret.lockout = s.ret.lockout) (hrun : t.ret.run = s.ret.run) (hmode : t.cr.mode = s.cr.mode) (hs : s.failedLocked) :
    t.failedLocked := by
  simp only [State.failedLocked, hfailed, hstate, hlockout, hrun, hmode] at hs ⊢
  exact hs

theorem State.failedLocked_putPulse (c : PulseChannel) (x : Pulse) (hs : s.failedLocked) : (s.putPulse c x).failedLocked := by
  obtain ⟨_, _, _, _, _, hu⟩ := s.putPulse_eq c x
  rw [hu]
  exact State.failedLocked_of_eq (s := s) rfl rfl rfl rfl rfl hs

theorem State.failedLocked_putWindow (b : Breaker) (w : Window) (hs : s.failedLocked) : (s.putWindow b w).failedLocked := by
  obtain ⟨_, _, hu⟩ := s.putWindow_eq b w
  rw [hu]
  exact State.failedLocked_of_eq (s := s) rfl rfl rfl rfl rfl hs

/-- The diesel sequencer in a state but FAILED, out of STARTUP. -/
theorem State.failedLocked_of_active {st : DieselState} (hst : t.ds.state = some st) (hne : st ≠ .failed)
    (halarm : t.tac.alarm.dieselFailed = false) (hmode : t.cr.mode ≠ .startup) : t.failedLocked := by
  have hstate : t.ds.state ≠ some .failed := fun h => hne (Option.some.inj (hst.symm.trans h))
  exact ⟨⟨fun h => (nomatch halarm.symm.trans h), fun h => absurd h hstate⟩, fun h => absurd h hstate, fun h => absurd h hmode⟩

theorem Act.failedLocked (hstrict : Z.strict) (h : Act Z s t) (hs : s.failedLocked) : t.failedLocked := by
  have ⟨halarm, hlocked, hwaits⟩ := hs
  cases h with
  | diesel d hstate => exact State.failedLocked_of_eq (s := s) rfl hstate rfl rfl rfl hs
  | enter st hst hfrom =>
    obtain ⟨hstate, htaken⟩ := hfrom hstrict
    exact State.failedLocked_of_active rfl hst (Bool.eq_false_iff.2 fun h => hstate (halarm.1 h))
      (State.dieselWaits.dieselTaken (s := s) hwaits htaken)
  | fail d hstate _ hfrom =>
    exact ⟨⟨fun _ => hstate, fun _ => rfl⟩, fun _ => ⟨rfl, rfl⟩,
      fun hmode => absurd hmode (State.dieselWaits.dieselTaken (s := s) hwaits hfrom)⟩
  | unlock st hst hfrom =>
    exact State.failedLocked_of_active rfl hst rfl (State.dieselWaits.dieselTaken (s := s) hwaits (State.dieselTaken_of (s := s) hfrom))
  | run b hstate =>
    refine ⟨halarm, fun hfailed => ⟨(hlocked hfailed).1, ?_⟩, hwaits⟩
    exact Bool.eq_false_iff.2 fun hb => hstate hb hfailed
  | config c n hmode => exact State.failedLocked_of_eq (s := s) rfl rfl rfl rfl hmode hs
  | idlePulse c => exact State.failedLocked_putPulse c _ hs
  | closePulse b x => exact State.failedLocked_putPulse _ x hs
  | tripPulse b x => exact State.failedLocked_putPulse _ x hs
  | crankPulse x => exact State.failedLocked_putPulse _ x hs
  | window b w => exact State.failedLocked_putWindow b w hs
  | timer id x =>
    cases id with
    | pulse c => exact State.failedLocked_putPulse c _ hs
    | confirm b => exact State.failedLocked_putWindow b _ hs
    | _ => exact State.failedLocked_of_eq (s := s) rfl rfl rfl rfl rfl hs
  | _ => exact State.failedLocked_of_eq (s := s) rfl rfl rfl rfl rfl hs

/-- A station in which the diesel sequencer holds no state. -/
theorem State.failedLocked_of_none (hstate : t.ds.state = none) (halarm : t.tac.alarm.dieselFailed = false) : t.failedLocked := by
  refine ⟨?_, ?_, fun _ => hstate⟩ <;> simp [hstate, halarm]

theorem Move.failedLocked (hK : K) (h : Move K E s t) (hs : s.failedLocked) : t.failedLocked := by
  have ⟨halarm, hlocked, hwaits⟩ := hs
  cases h with
  | acts h => exact h.keep (fun _ _ => Act.failedLocked hK) hs
  | mode m hm =>
    rw [State.inMode_eq]
    exact ⟨halarm, hlocked, fun h => absurd h hm⟩
  | take record => exact ⟨halarm, hlocked, fun h => absurd h (crTake_mode record s).1⟩
  | follow =>
    obtain ⟨x, hx, -⟩ := ilcFollow_eq s
    rw [hx]
    exact State.failedLocked_of_eq (s := s) rfl rfl rfl rfl rfl hs
  | conflict | link | release => exact State.failedLocked_of_eq (s := s) rfl rfl rfl rfl rfl hs
  | powerOn | hold => exact State.failedLocked_of_none rfl rfl

/-- Settles O54: every act and every move keeps the causes with what they stand for; a strict run enters no state from FAILED but by the
lockout's clearing. -/
theorem causesStayShown : Obligations.CausesStayShown := by
  intro s t ⟨hcauses, hfailed⟩ h
  exact ⟨step_keeps (fun _ _ => Move.causesShown) hcauses h,
    ((step_shape h).moves (K := s.dieselWaits) id).keep (fun _ _ => Move.failedLocked hfailed.2.2) hfailed⟩

end

end Sys2Proof.Machine
end

section
/-! SUPPORT. The cap, the transmitter, the ports and the close pulses. -/

namespace Sys2Proof.Machine

section
variable {K E : Prop} {s t u : State}

/-! ### The cap -/

/-- All but a change of the island state to DEAD-WAIT or DARK. -/
def Scope.up : Scope := ⟨fun _ => True, True, True, False, False⟩

/-- Anything but a change of the solar record. -/
def Scope.unlit : Scope := ⟨fun _ => True, True, False, True, False⟩

/-- No cap is commanded. -/
def State.capZero (s : State) : Prop := s.sc.finalCap = 0 ∧ s.sc.lastCap = 0

/-- The cap stands at 0 where the mode or the missing source demands it, whatever the island. -/
def State.capHeldByMode (s : State) : Prop := s.cr.mode = .startup ∨ s.cr.mode = .fault ∨ s.sc.state = none → s.capZero

theorem State.capHeld.byMode (hs : s.capHeld) : s.capHeldByMode := fun h => hs (.inr (.inr h))

theorem State.capZero.capHeld (hs : s.capZero) : s.capHeld := fun _ => hs

/-- The cap is held where the same demands as before are met, and no other. -/
theorem State.capHeld_of_eq
    (hisland : t.bsc.island = s.bsc.island ∨ t.bsc.island = some .live ∨ t.bsc.island = some .recover)
    (hmode : t.cr.mode = s.cr.mode) (hstate : t.sc.state = none → s.sc.state = none)
    (hcaps : t.sc.finalCap = s.sc.finalCap ∧ t.sc.lastCap = s.sc.lastCap) (hs : s.capHeld) : t.capHeld := by
  intro h
  obtain ⟨hfinal, hlast⟩ := hcaps
  rw [hfinal, hlast]
  refine hs ?_
  obtain h | h | h | h | h := h
  · obtain hi | hi | hi := hisland
    · exact .inl (hi.symm.trans h)
    · cases hi.symm.trans h
    · cases hi.symm.trans h
  · obtain hi | hi | hi := hisland
    · exact .inr (.inl (hi.symm.trans h))
    · cases hi.symm.trans h
    · cases hi.symm.trans h
  · exact .inr (.inr (.inl (hmode.symm.trans h)))
  · exact .inr (.inr (.inr (.inl (hmode.symm.trans h))))
  · exact .inr (.inr (.inr (.inr (hstate h))))

theorem Act.capHeld {Z : Scope} (hup : ¬ Z.down) (h : Act Z s t) (hs : s.capHeld) : t.capHeld := by
  cases h with
  | down i hZ => exact absurd hZ hup
  | coordinator b hisland => exact State.capHeld_of_eq (s := s) hisland rfl id ⟨rfl, rfl⟩ hs
  | source x _ _ hcap hstate => exact State.capHeld_of_eq (s := s) (.inl rfl) rfl hstate hcap hs
  | command cap override _ hstate hcap =>
    intro h
    have hforced : s.capForced := by
      obtain h | h | h | h | h := h
      · exact .inl h
      · exact .inr (.inl h)
      · exact .inr (.inr (.inl h))
      · exact .inr (.inr (.inr h))
      · exact absurd hstate (by rw [show s.sc.state = none from h]; nofun)
    exact ⟨hcap hforced, hcap hforced⟩
  | config c n hmode => exact State.capHeld_of_eq (s := s) (.inl rfl) hmode id ⟨rfl, rfl⟩ hs
  | timer id x => cases id <;> exact State.capHeld_of_eq (s := s) (.inl rfl) rfl (fun h => h) ⟨rfl, rfl⟩ hs
  | _ => exact State.capHeld_of_eq (s := s) (.inl rfl) rfl id ⟨rfl, rfl⟩ hs

theorem Acts.capHeld {Z : Scope} (hup : ¬ Z.down) (h : Acts Z s t) (hs : s.capHeld) : t.capHeld :=
  h.keep (fun _ _ => Act.capHeld hup) hs

theorem scZero_capZero (override : CapOverride) (hs : s.sc.state = none → s.capZero) : (scZero override s).capZero := by
  unfold scZero
  split
  · exact ⟨rfl, rfl⟩
  next hnone => exact hs (by simpa using hnone)

/-- The report of an island state leaves the cap held. -/
theorem reportIsland_capHeld (hs : s.capHeldByMode) : (reportIsland s).capHeld := by
  have hfl : Acts .unlit s (flIslandChange s) := flIslandChange_acts trivial (.refl s)
  generalize hx : flIslandChange s = x at hfl
  have hsc := hfl.sc_eq id
  have hzero : x.cr.mode = .startup ∨ x.cr.mode = .fault ∨ x.sc.state = none → x.capZero := by
    rw [hfl.mode_eq, State.capZero, hsc]
    exact hs
  have hcommanded (override : CapOverride) : (scZero override x).capHeld :=
    (scZero_capZero override fun h => hzero (.inr (.inr h))).capHeld
  unfold reportIsland
  rw [hx]
  refine Acts.capHeld (Z := .up) id (dsIslandChange_acts (.refl _)) ?_
  unfold scIslandChange
  split
  · exact hcommanded _
  · exact Acts.capHeld (Z := .up) id (scTripAtDark_acts trivial (.refl _)) (hcommanded _)
  next hdead hdark =>
    rintro (h | h | h)
    · exact absurd h hdead
    · exact absurd h hdark
    · exact hzero h

theorem bscEnterDark_capHeld (hs : s.capHeld) : (bscEnterDark s).capHeld := reportIsland_capHeld hs.byMode

theorem bscEnterDeadWait_capHeld (origin : Origin) (hs : s.capHeld) : (bscEnterDeadWait origin s).capHeld :=
  reportIsland_capHeld hs.byMode

theorem bscDeadExpired_capHeld (hs : s.capHeld) : (bscDeadExpired s).capHeld := by
  unfold bscDeadExpired
  split
  · exact bscEnterDark_capHeld hs
  · exact hs

theorem bscFollow_capHeld (c : Condition) (hs : s.capHeld) : (bscFollow c s).capHeld := by
  unfold bscFollow
  split
  · exact bscEnterDeadWait_capHeld _ hs
  · refine Acts.capHeld (Z := .up) (s := s.cancel .dead) id ?_
      (State.capHeld_of_eq (s := s) (.inl rfl) rfl (fun h => h) ⟨rfl, rfl⟩ hs)
    dsimp only
    split
    · exact bscEnterLive_acts (.refl _)
    · exact bscEnterRecover_acts trivial trivial (.refl _)
  · exact Acts.capHeld (Z := .up) id (bscEnterRecover_acts trivial trivial (.refl _)) hs
  · exact bscEnterDeadWait_capHeld _ hs
  · exact hs

theorem blackened_capHeld (ports : List Port) (hs : s.capHeld) :
    (ports.foldl (fun s p => flEnter p .blackOpen none none s) s).capHeld := by
  refine Acts.capHeld (Z := .up) id (foldl_acts (fun s p h => ?_) ports (.refl s)) hs
  exact flEnter_acts trivial ⟨nofun, nofun⟩ (by simp) (by simp) h

theorem bscReconstruct_capHeld (c : Condition) (hs : s.capHeld) : (bscReconstruct c s).capHeld := by
  have hports (ports : List Port) := blackened_capHeld (s := { s with bsc := { s.bsc with reconstructed := true } }) ports
    (State.capHeld_of_eq (s := s) (.inl rfl) rfl id ⟨rfl, rfl⟩ hs)
  unfold bscReconstruct
  dsimp only
  split
  · split
    · exact Acts.capHeld (Z := .up) id (bscEnterRecover_acts trivial trivial (.refl _)) (hports _)
    · exact Acts.capHeld (Z := .up) id (bscEnterLive_acts (.refl _)) (hports _)
  · exact bscEnterDark_capHeld (hports _)

theorem bscRecord_capHeld (c : Condition) (hs : s.capHeld) : (bscRecord c s).capHeld := by
  have hcounted : State.capHeld { s with bsc := { s.bsc with records := s.bsc.records + 1 } } :=
    State.capHeld_of_eq (s := s) (.inl rfl) rfl id ⟨rfl, rfl⟩ hs
  unfold bscRecord
  split
  · exact bscFollow_capHeld c (Acts.capHeld (Z := .up) id (bscBusLive_acts c (.refl s)) hs)
  · dsimp only
    split
    · exact bscReconstruct_capHeld c hcounted
    · exact hcounted

theorem handRecord_capHeld (hs : s.capHeld) : (handRecord s).capHeld := by
  unfold handRecord
  split
  · exact Acts.capHeld (Z := .up) id (dsRecord_acts (fun _ => trivial) (.refl _))
      (bscRecord_capHeld _ (Acts.capHeld (Z := .up) id (flRecord_acts trivial _ (.refl s)) hs))
  · exact hs

theorem ilcFollow_capHeld (hs : s.capHeld) : (ilcFollow s).capHeld := by
  obtain ⟨x, hx, -⟩ := ilcFollow_eq s
  rw [hx]
  exact State.capHeld_of_eq (s := s) (.inl rfl) rfl id ⟨rfl, rfl⟩ hs

/-- A change of mode leaves the cap held: at FAULT it is commanded to 0. -/
theorem crSetMode_capHeld (m : Mode) (hm : m ≠ .startup) (hs : s.capHeld) : (crSetMode m s).capHeld := by
  obtain ⟨-, hu⟩ | ⟨-, hu⟩ := crSetMode_cases m s <;> rw [hu]
  · exact hs
  refine ilcFollow_capHeld (Acts.capHeld (Z := .up) id (flModeChange_acts trivial _ (.refl _)) ?_)
  have hjobs : Acts .unlit (s.inMode m) (dsModeChange s.cr.mode (bscModeChange s.cr.mode (s.inMode m))) :=
    dsModeChange_acts _ (bscModeChange_acts _ (.refl _))
  have hup : Acts .up (s.inMode m) (dsModeChange s.cr.mode (bscModeChange s.cr.mode (s.inMode m))) :=
    dsModeChange_acts _ (bscModeChange_acts _ (.refl _))
  generalize dsModeChange s.cr.mode (bscModeChange s.cr.mode (s.inMode m)) = x at hjobs hup
  have hsc : x.sc = s.sc := (hjobs.sc_eq id).trans (by rw [State.inMode_eq])
  have hmode : x.cr.mode = m := hjobs.mode_eq.trans (by rw [State.inMode_eq])
  by_cases hfault : m = .fault
  · unfold scModeChange
    rw [if_pos (hmode.trans hfault)]
    refine (scZero_capZero _ fun hnone => ?_).capHeld
    rw [State.capZero, hsc]
    exact hs (.inr (.inr (.inr (.inr (hsc ▸ hnone)))))
  · refine Acts.capHeld (Z := .up) id (hup.trans (scModeChange_acts _ trivial (.refl _))) ?_
    rw [State.inMode_eq]
    rintro (h | h | h | h | h)
    · exact hs (.inl h)
    · exact hs (.inr (.inl h))
    · exact absurd h hm
    · exact absurd h hfault
    · exact hs (.inr (.inr (.inr (.inr h))))

/-- The start-up load begins with no cap commanded, and commands none. -/
theorem crLoad_capHeld (hmode : s.cr.mode = .startup) (hs : s.capHeld) : (crLoad s).capHeld := by
  have hzero : s.capZero := hs (.inr (.inr (.inl hmode)))
  obtain hu | hu := crLoad_cases s <;> rw [hu, ilcStart_eq]
  · have hblocks : Acts .unlit (crTake s.cr.sector s.loading) (crTake s.cr.sector s.loading).blocksStarted :=
      blocksStarted_acts trivial (.refl _)
    have hsc := hblocks.sc_eq id
    have hmode := (crTake_mode s.cr.sector s.loading).1
    rw [← hblocks.mode_eq] at hmode
    generalize (crTake s.cr.sector s.loading).blocksStarted = x at hsc hmode
    have hstarted : (ilcFollow x.linkStarted).capHeld := by
      refine ilcFollow_capHeld (State.capZero.capHeld ?_)
      rw [State.capZero, show x.linkStarted.sc = s.sc from hsc.trans (by simp only [crTake, State.loading])]
      exact hzero
    refine Acts.capHeld (Z := .up) id (startedBlocks_acts trivial trivial False.elim (.inr ?_) (.refl _)) hstarted
    rw [ilcFollow_cr]
    exact hmode
  · refine ilcFollow_capHeld (State.capZero.capHeld ?_)
    rw [State.inMode_eq]
    exact hzero

theorem step_capHeld (hs : s.capHeld) (hstep : step s = .next t) : t.capHeld := by
  have hfree {u : State} (h : FreeActs s u) : u.capHeld := Acts.capHeld (Z := .up) id (h _) hs
  have hreset {u : State} (hu : u.sc = .reset) : u.capHeld := State.capZero.capHeld (by rw [State.capZero, hu]; exact ⟨rfl, rfl⟩)
  cases step_shape hstep with
  | quiet h => exact Acts.capHeld (Z := .up) id (h _ trivial trivial fun _ => trivial) hs
  | record h => exact handRecord_capHeld (hfree h)
  | dead h => exact bscDeadExpired_capHeld (hfree h)
  | slot h hslot => exact Acts.capHeld (Z := .up) id (bscSlotExpired_acts trivial hslot (.refl _)) (hfree h)
  | mode h m hm => exact crSetMode_capHeld m hm (hfree h)
  | @conflict u h =>
    have hshown : u.inConflict.capHeld := State.capHeld_of_eq (s := u) (.inl rfl) rfl id ⟨rfl, rfl⟩ (hfree h)
    obtain hu | ⟨-, hu⟩ := crFollow_cases u.inConflict <;> rw [hu]
    · exact ilcFollow_capHeld hshown
    · exact ilcFollow_capHeld (crSetMode_capHeld _ (Pv.calledMode_ne_startup _) hshown)
  | load h hmode => exact crLoad_capHeld hmode (hfree h)
  | powerOn | hold => exact hreset rfl
  | @release u h => exact State.capHeld_of_eq (s := u) (.inl rfl) rfl id ⟨rfl, rfl⟩ (hfree h)

/-- Settles O52: the outputs are followed by every move; a change to DEAD-WAIT, DARK or FAULT commands the cap to 0, and no other step
can demand it. -/
theorem outputsStayHeld : Obligations.OutputsStayHeld := by
  intro s t ⟨houtputs, hcap⟩ h
  exact ⟨step_keeps (fun _ _ => Move.outputsFollow) houtputs h, step_capHeld hcap h⟩

end

section
variable {Z : Scope} {K E : Prop} {s t u : State}

/-! ### The transmitter -/

/-- What the transmitter keeps also while it has yet to follow a change of mode. -/
def State.senderHeld (s : State) : Prop :=
  (s.ilc.transmitter.enabled = true → s.ilc.started = true) ∧ s.ilc.status.isRunning = s.ilc.transmitter.enabled ∧
    (s.ilc.transmitter.enabled = false → s.ilc.slots = .empty)

theorem State.senderFollows.held (hs : s.senderFollows) : s.senderHeld := by
  obtain ⟨henabled, hstatus, hslots⟩ := hs
  exact ⟨fun h => (Bool.and_eq_true_iff.1 (henabled.symm.trans h)).1, hstatus, hslots⟩

theorem State.senderFollows_of_eq (henabled : t.ilc.transmitter.enabled = s.ilc.transmitter.enabled)
    (hstatus : t.ilc.status.isRunning = s.ilc.status.isRunning) (hstarted : t.ilc.started = s.ilc.started)
    (hconflict : t.ilc.conflict = s.ilc.conflict) (hslots : t.ilc.transmitter.enabled = false → t.ilc.slots = s.ilc.slots)
    (hmode : t.cr.mode = s.cr.mode) (hs : s.senderFollows) : t.senderFollows := by
  obtain ⟨hfollow, hrunning, hempty⟩ := hs
  refine ⟨?_, hstatus.trans (hrunning.trans henabled.symm), fun h => (hslots h).trans (hempty (henabled.symm.trans h))⟩
  rw [henabled, hfollow, hstarted, State.maySend, State.maySend, State.operating, State.operating, hmode, hconflict]

theorem State.senderHeld_of_eq (henabled : t.ilc.transmitter.enabled = s.ilc.transmitter.enabled)
    (hstatus : t.ilc.status.isRunning = s.ilc.status.isRunning) (hstarted : s.ilc.started = true → t.ilc.started = true)
    (hslots : t.ilc.transmitter.enabled = false → t.ilc.slots = s.ilc.slots) (hs : s.senderHeld) : t.senderHeld := by
  obtain ⟨hfollow, hrunning, hempty⟩ := hs
  exact ⟨fun h => hstarted (hfollow (henabled.symm.trans h)), hstatus.trans (hrunning.trans henabled.symm),
    fun h => (hslots h).trans (hempty (henabled.symm.trans h))⟩

/-- All that an act can do to what the transmitter's state is made of. -/
theorem Act.sender_eq (h : Act Z s t) :
    t.ilc.transmitter.enabled = s.ilc.transmitter.enabled ∧ t.ilc.status.isRunning = s.ilc.status.isRunning ∧
      t.ilc.started = s.ilc.started ∧ t.ilc.conflict = s.ilc.conflict ∧
      (t.ilc.transmitter.enabled = false → t.ilc.slots = s.ilc.slots) ∧ t.cr.mode = s.cr.mode := by
  cases h with
  | link x henabled hstatus hstarted hconflict hslots => exact ⟨henabled, hstatus, hstarted, hconflict, hslots, rfl⟩
  | config c n hmode => exact ⟨rfl, rfl, rfl, rfl, fun _ => rfl, hmode⟩
  | timer id x _ hstatus =>
    cases id with
    | status => exact ⟨rfl, hstatus rfl, rfl, rfl, fun _ => rfl, rfl⟩
    | _ => exact ⟨rfl, rfl, rfl, rfl, fun _ => rfl, rfl⟩
  | _ => exact ⟨rfl, rfl, rfl, rfl, fun _ => rfl, rfl⟩

theorem Acts.senderFollows (h : Acts Z s t) (hs : s.senderFollows) : t.senderFollows := by
  refine h.keep (fun s t hst hs => ?_) hs
  obtain ⟨henabled, hstatus, hstarted, hconflict, hslots, hmode⟩ := hst.sender_eq
  exact State.senderFollows_of_eq henabled hstatus hstarted hconflict hslots hmode hs

theorem Acts.senderHeld (h : Acts Z s t) (hs : s.senderHeld) : t.senderHeld := by
  refine h.keep (fun s t hst hs => ?_) hs
  obtain ⟨henabled, hstatus, hstarted, -, hslots, -⟩ := hst.sender_eq
  exact State.senderHeld_of_eq henabled hstatus (fun h => hstarted.trans h) hslots hs

/-- Enabled, the transmitter has an empty queue and its status timer runs. -/
theorem ilcEnable_ilc (s : State) :
    (ilcEnable s).ilc.transmitter = .ready ∧ (ilcEnable s).ilc.status.isRunning = true ∧ (ilcEnable s).ilc.started = s.ilc.started := by
  obtain ⟨_, hu, -⟩ := draw_eq { s with ilc := { s.ilc with transmitter := .ready, slots := .empty } }
  unfold ilcEnable
  dsimp only
  rw [hu]
  exact ⟨rfl, rfl, rfl⟩

theorem ilcFollow_maySend (s : State) : (ilcFollow s).maySend = s.maySend := by
  obtain ⟨x, hx, -, hconflict⟩ := ilcFollow_eq s
  rw [hx]
  exact congrArg (fun b => (s.cr.mode == .service || s.operating) && !b) hconflict

/-- The transmitter that follows has the state that the mode and the conflict flag give. -/
theorem ilcFollow_senderFollows (hs : s.senderHeld) : (ilcFollow s).senderFollows := by
  have ⟨hstarted, hstatus, hslots⟩ := hs
  have hmay := ilcFollow_maySend s
  unfold State.senderFollows
  rw [hmay]
  unfold ilcFollow
  split
  next hon =>
    split
    next hturnOn =>
      obtain ⟨htransmitter, hrunning, hkept⟩ := ilcEnable_ilc s
      rw [Bool.and_eq_true] at hturnOn
      rw [htransmitter, hrunning, hkept, hon, hturnOn.1]
      exact ⟨rfl, rfl, nofun⟩
    next hkeepOff =>
      split
      next hturnOff =>
        rw [Bool.and_eq_true, Bool.not_eq_true'] at hturnOff
        exact ⟨by rw [hturnOff.1, Bool.and_false]; rfl, rfl, fun _ => rfl⟩
      next hkeepOn =>
        refine ⟨?_, hstatus, hslots⟩
        rw [hon]
        cases hmay : s.maySend <;> cases henabled : s.ilc.transmitter.enabled <;> simp_all
  next hoff =>
    refine ⟨?_, hstatus, hslots⟩
    have hdisabled : s.ilc.transmitter.enabled = false := Bool.eq_false_iff.2 fun h => hoff (hstarted h)
    rw [hdisabled, Bool.eq_false_iff.2 hoff, Bool.false_and]

theorem crSetMode_senderFollows (m : Mode) (hs : s.senderFollows) : (crSetMode m s).senderFollows := by
  obtain ⟨-, hu⟩ | ⟨-, hu⟩ := crSetMode_cases m s <;> rw [hu]
  · exact hs
  · refine ilcFollow_senderFollows (Acts.senderHeld (modeJobs_acts (Z := .full True) _ trivial trivial (.refl _)) ?_)
    rw [State.inMode_eq]
    exact State.senderHeld_of_eq (s := s) rfl rfl (fun h => h) (fun _ => rfl) hs.held

/-- A conflict found disables the transmitter, whether or not the mode changes with it. -/
theorem conflict_senderFollows (hs : s.senderHeld) : (ilcFollow (crFollow s.inConflict)).senderFollows := by
  have hshown : s.inConflict.senderHeld := State.senderHeld_of_eq (s := s) rfl rfl (fun h => h) (fun _ => rfl) hs
  refine ilcFollow_senderFollows ?_
  obtain hu | ⟨-, hu⟩ := crFollow_cases s.inConflict <;> rw [hu]
  · exact hshown
  obtain ⟨-, hu⟩ | ⟨-, hu⟩ := crSetMode_cases s.inConflict.pv.calledMode s.inConflict <;> rw [hu]
  · exact hshown
  · refine (ilcFollow_senderFollows (Acts.senderHeld (modeJobs_acts (Z := .full True) _ trivial trivial (.refl _)) ?_)).held
    rw [State.inMode_eq]
    exact State.senderHeld_of_eq (s := s.inConflict) rfl rfl (fun h => h) (fun _ => rfl) hshown

theorem crLoad_senderFollows (hs : s.senderHeld) : (crLoad s).senderFollows := by
  obtain hu | hu := crLoad_cases s <;> rw [hu, ilcStart_eq]
  · have hblocks : Acts .unlit (crTake s.cr.sector s.loading) (crTake s.cr.sector s.loading).blocksStarted :=
      blocksStarted_acts trivial (.refl _)
    have hmode := (crTake_mode s.cr.sector s.loading).1
    have htaken : (crTake s.cr.sector s.loading).senderHeld := by
      unfold crTake
      exact State.senderHeld_of_eq (s := s) rfl rfl (fun h => h) (fun _ => rfl) hs
    have hheld := hblocks.senderHeld htaken
    rw [← hblocks.mode_eq] at hmode
    generalize (crTake s.cr.sector s.loading).blocksStarted = x at hheld hmode
    refine Acts.senderFollows (startedBlocks_acts (Z := .full False) trivial trivial False.elim (.inr ?_) (.refl _)) ?_
    · rw [ilcFollow_cr]
      exact hmode
    · exact ilcFollow_senderFollows (State.senderHeld_of_eq (s := x) rfl rfl (fun _ => rfl) (fun _ => rfl) hheld)
  · refine ilcFollow_senderFollows ?_
    rw [State.inMode_eq]
    exact State.senderHeld_of_eq (s := s) rfl rfl (fun _ => rfl) (fun _ => rfl) hs

/-- Settles O55: no act changes whether the transmitter is enabled, and at every change of the mode or of the conflict flag it follows. -/
theorem senderStaysEnabledByMode : Obligations.SenderStaysEnabledByMode := by
  intro s t hs hstep
  have hfree {u : State} (h : FreeActs s u) : u.senderFollows := (h .core).senderFollows hs
  cases step_shape hstep with
  | quiet h => exact (h (.full True) trivial trivial fun _ => trivial).senderFollows hs
  | record h =>
    exact (handRecord_acts (Z := .full True) trivial trivial trivial (fun _ _ _ => trivial) (.refl _)).senderFollows (hfree h)
  | dead h => exact (bscDeadExpired_acts (Z := .full True) trivial trivial trivial (.refl _)).senderFollows (hfree h)
  | slot h hslot => exact (bscSlotExpired_acts (Z := .full True) trivial hslot (.refl _)).senderFollows (hfree h)
  | mode h m => exact crSetMode_senderFollows m (hfree h)
  | conflict h => exact conflict_senderFollows (hfree h).held
  | load h => exact crLoad_senderFollows (hfree h).held
  | powerOn | hold => exact ⟨rfl, rfl, fun _ => rfl⟩
  | @release u h => exact State.senderFollows_of_eq (s := u) rfl rfl rfl rfl (fun _ => rfl) rfl (hfree h)

end

section
variable {Z : Scope} {K E : Prop} {s t u : State}

/-! ### Port records -/

/-- The retention record, the destination, the shed cause and the FAULTED cause of one port are as its record says. -/
def State.portShown (s : State) (p : Port) : Prop :=
  (∀ r, s.port p = some r → s.ret.ports.get p = some (r.state, r.shedCause) ∧
    (r.destination.isSome = true ↔ r.state = .opening) ∧ (r.shedCause.isSome = true ↔ r.state = .shed)) ∧
  (s.tac.alarm.portFaulted.get p = true ↔ s.portState p = some .faulted)

theorem State.portsShown_iff (s : State) : s.portsShown ↔ ∀ p, s.portShown p :=
  ⟨fun h p => ⟨h.1 p, h.2 p⟩, fun h => ⟨fun p => (h p).1, fun p => (h p).2⟩⟩

theorem State.portShown_of_eq {p : Port} (hport : t.port p = s.port p) (hret : t.ret.ports.get p = s.ret.ports.get p)
    (halarm : t.tac.alarm.portFaulted.get p = s.tac.alarm.portFaulted.get p) (hs : s.portShown p) : t.portShown p := by
  simp only [State.portShown, State.portState, hport, hret, halarm] at hs ⊢
  exact hs

theorem State.portsShown_of_eq (hports : t.fl.ports = s.fl.ports) (hret : t.ret.ports = s.ret.ports)
    (halarm : t.tac.alarm.portFaulted = s.tac.alarm.portFaulted) (hs : s.portsShown) : t.portsShown := by
  rw [State.portsShown_iff] at hs ⊢
  exact fun p => State.portShown_of_eq (congrArg (·.get p) hports) (congrArg (·.get p) hret) (congrArg (·.get p) halarm) (hs p)

theorem State.portsShown_putPulse (c : PulseChannel) (x : Pulse) (hs : s.portsShown) : (s.putPulse c x).portsShown := by
  obtain ⟨_, _, _, _, _, hu⟩ := s.putPulse_eq c x
  rw [hu]
  exact State.portsShown_of_eq (s := s) rfl rfl rfl hs

theorem State.portsShown_putWindow (b : Breaker) (w : Window) (hs : s.portsShown) : (s.putWindow b w).portsShown := by
  obtain ⟨_, _, hu⟩ := s.putWindow_eq b w
  rw [hu]
  exact State.portsShown_of_eq (s := s) rfl rfl rfl hs

theorem State.port_modifyPort_same (p : Port) (g : PortRecord → PortRecord) : (s.modifyPort p g).port p = (s.port p).map g :=
  Quad.get_set_same _ _ _

theorem State.port_modifyPort_other {p q : Port} (hq : q ≠ p) (g : PortRecord → PortRecord) :
    (s.modifyPort p g).port q = s.port q := Quad.get_set_other _ _ hq

/-- A quiet change of a record keeps what is shown of its port. -/
theorem State.portsShown_modifyPort {p : Port} {g : PortRecord → PortRecord} (hg : ∀ r, s.port p = some r → r.quietly (g r))
    (hs : s.portsShown) : (s.modifyPort p g).portsShown := by
  rw [State.portsShown_iff] at hs ⊢
  intro q
  by_cases hq : q = p
  · subst hq
    obtain ⟨hrecord, halarm⟩ := hs q
    refine ⟨fun r hr => ?_, ?_⟩
    · rw [State.port_modifyPort_same] at hr
      obtain ⟨r, hfound, rfl⟩ := Option.map_eq_some_iff.1 hr
      obtain ⟨hretained, hdest, hcause⟩ := hrecord r hfound
      obtain ⟨hstate, hsame, hmoved, -⟩ := hg r hfound
      rw [hstate, hsame]
      refine ⟨hretained, ?_, hcause⟩
      obtain hmoved | ⟨hopening, hmoved⟩ := hmoved
      · rwa [hmoved]
      · simp [hopening, hmoved]
    · have hstate : (s.modifyPort q g).portState q = s.portState q := by
        unfold State.portState
        rw [State.port_modifyPort_same]
        cases hr : s.port q with
        | none => rfl
        | some r => exact congrArg some (hg r hr).1
      rw [hstate]
      exact halarm
  · exact State.portShown_of_eq (s := s) (State.port_modifyPort_other hq g) rfl rfl (hs q)

/-- What an entry of a state leaves of the retention record and of the ALARM cause set. -/
theorem portEntered_shown (p : Port) (st : PortState) (dest : Option Destination) (cause : Option ShedCause) (s : State) :
    (portEntered p st dest cause s).ret.ports = s.ret.ports.set p (some (st, cause)) ∧
      (portEntered p st dest cause s).tac.alarm.portFaulted = s.tac.alarm.portFaulted.set p (st == .faulted) := ⟨rfl, rfl⟩

theorem portEntered_portsShown {p : Port} {st : PortState} {dest : Option Destination} {cause : Option ShedCause}
    (hport : st = .faulted → (s.port p).isSome = true) (hdest : dest.isSome = true ↔ st = .opening)
    (hcause : cause.isSome = true ↔ st = .shed) (hs : ∀ q, q ≠ p → s.portShown q) : (portEntered p st dest cause s).portsShown := by
  obtain ⟨hret, halarm⟩ := portEntered_shown p st dest cause s
  rw [State.portsShown_iff]
  intro q
  by_cases hq : q = p
  · subst hq
    refine ⟨fun r hr => ?_, ?_⟩
    · rw [portEntered_port_same] at hr
      obtain ⟨r, -, rfl⟩ := Option.map_eq_some_iff.1 hr
      rw [hret, Quad.get_set_same]
      exact ⟨rfl, hdest, hcause⟩
    · rw [halarm, Quad.get_set_same, beq_iff_eq, State.portState, portEntered_port_same, Option.map_map]
      constructor
      · intro hst
        obtain ⟨r, hr⟩ := Option.isSome_iff_exists.1 (hport hst)
        rw [hr, ← hst]
        rfl
      · intro h
        obtain ⟨r, -, hr⟩ := Option.map_eq_some_iff.1 h
        exact hr
  · refine State.portShown_of_eq (s := s) (portEntered_port_other hq st dest cause s) ?_ ?_ (hs q hq)
    · rw [hret, Quad.get_set_other _ _ hq]
    · rw [halarm, Quad.get_set_other _ _ hq]

theorem Act.portsShown (h : Act Z s t) (hs : s.portsShown) : t.portsShown := by
  cases h with
  | ladder f _ hports => exact State.portsShown_of_eq (s := s) hports rfl rfl hs
  | record p g _ hg => exact State.portsShown_modifyPort hg hs
  | enterPort p st dest cause _ _ hport hdest hcause =>
    exact portEntered_portsShown hport hdest hcause fun q _ => (s.portsShown_iff.1 hs) q
  | beginClose p =>
    refine portEntered_portsShown nofun (by simp) (by simp) fun q hq => ?_
    exact State.portShown_of_eq (s := s) (State.port_modifyPort_other hq _) rfl rfl ((s.portsShown_iff.1 hs) q)
  | foundPort p x st cause _ _ hst hcause =>
    refine portEntered_portsShown (fun _ => ?_) (by simp [hst.2]) hcause fun q hq => ?_
    · rw [State.port, Quad.get_set_same]
      rfl
    · exact State.portShown_of_eq (s := s) (Quad.get_set_other _ _ hq) rfl rfl ((s.portsShown_iff.1 hs) q)
  | idlePulse c => exact State.portsShown_putPulse c _ hs
  | closePulse b x => exact State.portsShown_putPulse _ x hs
  | tripPulse b x => exact State.portsShown_putPulse _ x hs
  | crankPulse x => exact State.portsShown_putPulse _ x hs
  | window b w => exact State.portsShown_putWindow b w hs
  | timer id x =>
    cases id with
    | pulse c => exact State.portsShown_putPulse c _ hs
    | confirm b => exact State.portsShown_putWindow b _ hs
    | ripeness p => exact State.portsShown_modifyPort (fun _ _ => ⟨rfl, rfl, .inl rfl, id⟩) hs
    | _ => exact State.portsShown_of_eq (s := s) rfl rfl rfl hs
  | _ => exact State.portsShown_of_eq (s := s) rfl rfl rfl hs

/-- Without port records nothing is shown but that no port is FAULTED. -/
theorem State.portsShown_of_reset (hports : t.fl = .reset) (halarm : t.tac.alarm.portFaulted = .all false) : t.portsShown := by
  have hnone (p : Port) : t.port p = none := by
    rw [State.port, hports]
    exact Quad.get_all _ _
  refine ⟨fun p r hr => ?_, fun p => ?_⟩
  · rw [hnone p] at hr
    cases hr
  · rw [halarm, Quad.get_all, State.portState, hnone p]
    simp

theorem Move.portsShown (h : Move K E s t) (hs : s.portsShown) : t.portsShown := by
  cases h with
  | acts h => exact h.keep (fun _ _ => Act.portsShown) hs
  | mode m =>
    rw [State.inMode_eq]
    exact State.portsShown_of_eq (s := s) rfl rfl rfl hs
  | take record =>
    unfold crTake
    exact State.portsShown_of_eq (s := s) rfl rfl rfl hs
  | follow =>
    obtain ⟨x, hx, -⟩ := ilcFollow_eq s
    rw [hx]
    exact State.portsShown_of_eq (s := s) rfl rfl rfl hs
  | conflict | link | release => exact State.portsShown_of_eq (s := s) rfl rfl rfl hs
  | powerOn | hold => exact State.portsShown_of_reset rfl rfl

/-- Settles O57: a port's record, its retained state and its cause change together, at the entry of a state. -/
theorem portsStayShown : Obligations.PortsStayShown := by
  intro s t hs h
  exact step_keeps (fun _ _ => Move.portsShown) hs h

/-! ### One close in flight -/

/-- A port is CLOSING or has a close active. -/
def State.inFlight (s : State) (p : Port) : Prop := ∃ r, s.port p = some r ∧ (r.state = .closing ∨ r.closeActive = true)

theorem State.oneCloseInFlight_iff (s : State) : s.oneCloseInFlight ↔ ∀ p q, s.inFlight p → s.inFlight q → p = q := by
  constructor
  · rintro h p q ⟨x, hx, hclose⟩ ⟨y, hy, hclose'⟩
    exact h p q x y hx hy hclose hclose'
  · intro h p q x y hx hy hclose hclose'
    exact h p q ⟨x, hx, hclose⟩ ⟨y, hy, hclose'⟩

theorem State.closeInFlight_eq_false (h : s.closeInFlight = false) (p : Port) : ¬ s.inFlight p := by
  rintro ⟨r, hr, hclose⟩
  have hall : p ∈ Port.all := by cases p <;> decide
  have := (List.any_eq_false.1 h) p hall
  simp only [hr, Option.map_some, Option.getD_some, Bool.or_eq_true, beq_iff_eq] at this
  exact this hclose

/-- All that an act can do to the ports in flight: none joins them, or one where there was none. -/
theorem Act.inFlight_cases (h : Act Z s t) :
    (∀ q, t.inFlight q → s.inFlight q) ∨ ∃ p, ∀ q, t.inFlight q → q = p := by
  cases h with
  | ladder f _ hports =>
    refine .inl fun q ⟨r, hr, hclose⟩ => ⟨r, ?_, hclose⟩
    rwa [State.port, hports] at hr
  | record p g _ hg =>
    refine .inl fun q ⟨r, hr, hclose⟩ => ?_
    by_cases hq : q = p
    · subst hq
      rw [State.port_modifyPort_same] at hr
      obtain ⟨r, hfound, rfl⟩ := Option.map_eq_some_iff.1 hr
      obtain ⟨hstate, -, -, hactive⟩ := hg r hfound
      exact ⟨r, hfound, hclose.imp (fun h => hstate.symm.trans h) hactive⟩
    · exact ⟨r, by rwa [State.port_modifyPort_other hq] at hr, hclose⟩
  | enterPort p st dest cause _ hst =>
    refine .inl fun q ⟨r, hr, hclose⟩ => ?_
    by_cases hq : q = p
    · subst hq
      rw [portEntered_port_same] at hr
      obtain ⟨r, hfound, rfl⟩ := Option.map_eq_some_iff.1 hr
      exact ⟨r, hfound, .inr (hclose.resolve_left hst)⟩
    · exact ⟨r, by rwa [portEntered_port_other hq] at hr, hclose⟩
  | beginClose p _ hnone =>
    refine .inr ⟨p, fun q ⟨r, hr, hclose⟩ => ?_⟩
    by_contra hq
    rw [portEntered_port_other hq, State.port_modifyPort_other hq] at hr
    exact State.closeInFlight_eq_false hnone q ⟨r, hr, hclose⟩
  | foundPort p x st cause _ hx hst =>
    refine .inl fun q ⟨r, hr, hclose⟩ => ?_
    by_cases hq : q = p
    · subst hq
      rw [portEntered_port_same, State.port, Quad.get_set_same] at hr
      obtain rfl := Option.some.inj hr
      exact absurd hclose (not_or.2 ⟨hst.1, by simp [PortRecord.entered, hx]⟩)
    · rw [portEntered_port_other hq, State.port, Quad.get_set_other _ _ hq] at hr
      exact ⟨r, hr, hclose⟩
  | timer id x =>
    cases id with
    | ripeness p =>
      refine .inl fun q ⟨r, hr, hclose⟩ => ?_
      by_cases hq : q = p
      · subst hq
        rw [State.putTimer, State.port_modifyPort_same] at hr
        obtain ⟨r, hfound, rfl⟩ := Option.map_eq_some_iff.1 hr
        exact ⟨r, hfound, hclose⟩
      · exact ⟨r, by rwa [State.putTimer, State.port_modifyPort_other hq] at hr, hclose⟩
    | _ => exact .inl fun q h => h
  | _ => exact .inl fun q h => h

theorem Act.oneCloseInFlight (h : Act Z s t) (hs : s.oneCloseInFlight) : t.oneCloseInFlight := by
  rw [State.oneCloseInFlight_iff] at hs ⊢
  intro p q hp hq
  obtain hsame | ⟨o, hone⟩ := h.inFlight_cases
  · exact hs p q (hsame p hp) (hsame q hq)
  · exact (hone p hp).trans (hone q hq).symm

theorem State.oneCloseInFlight_of_fl (hfl : t.fl = s.fl) (hs : s.oneCloseInFlight) : t.oneCloseInFlight := by
  simpa only [State.oneCloseInFlight, State.port, hfl] using hs

theorem Move.oneCloseInFlight (h : Move K E s t) (hs : s.oneCloseInFlight) : t.oneCloseInFlight := by
  cases h with
  | acts h => exact h.keep (fun _ _ => Act.oneCloseInFlight) hs
  | mode m => exact State.oneCloseInFlight_of_fl (s := s) (by rw [State.inMode_eq]) hs
  | take record => exact State.oneCloseInFlight_of_fl (s := s) (by unfold crTake; rfl) hs
  | follow =>
    obtain ⟨x, hx, -⟩ := ilcFollow_eq s
    exact State.oneCloseInFlight_of_fl (s := s) (by rw [hx]) hs
  | conflict | link | release => exact State.oneCloseInFlight_of_fl (s := s) rfl hs
  | powerOn | hold =>
    refine State.oneCloseInFlight_of_fl (s := State.reset) rfl ?_
    intro p q x y hx
    rw [show State.reset.port p = none from Quad.get_all _ _] at hx
    cases hx

/-! ### What begins a close pulse -/

/-- A close channel of a breaker is active. -/
def State.closeActive (s : State) (b : Breaker) : Prop := (s.pulse (closeChannel b)).isActive = true

/-- A close pulse begins only within the scope, and a feeder's only on a live island in operation. -/
theorem Act.closeActive {b : Breaker} (h : Act Z s t) (ht : t.closeActive b) :
    s.closeActive b ∨ Z.closes b ∧ ∀ p, b = .feeder p → s.operating = true ∧ s.islandUp = true := by
  unfold State.closeActive at ht ⊢
  obtain hsame | ⟨c, hidle, hother⟩ | ⟨d, hZ, -, hup, hother⟩ | ⟨d, -, hother⟩ | hother := h.pulse_cases
  · exact .inl ((hsame _).symm.trans ht)
  · have hne : closeChannel b ≠ c := fun hc => by simp [hc, hidle] at ht
    exact .inl (hother _ hne ▸ ht)
  · by_cases hd : b = d
    · exact .inr ⟨hd ▸ hZ, hd ▸ hup⟩
    · exact .inl (hother _ (fun hc => hd (closeChannel_injective hc)) ▸ ht)
  · exact .inl (hother _ (closeChannel_ne_tripChannel b d) ▸ ht)
  · exact .inl (hother _ (closeChannel_ne_crank b) ▸ ht)

/-- A run whose scope does not close a breaker begins no close pulse of it. -/
theorem Acts.closeActive {b : Breaker} (hZ : ¬ Z.closes b) (h : Acts Z s t) (ht : t.closeActive b) : s.closeActive b := by
  have : t.closeActive b → s.closeActive b :=
    h.keep (P := fun t => t.closeActive b → s.closeActive b)
      (fun _ _ hst hs ht => hs ((hst.closeActive ht).resolve_right fun h => hZ h.1)) fun hs => hs
  exact this ht

theorem State.closeActive_of_pulse {b : Breaker} (hpulse : t.pulse (closeChannel b) = s.pulse (closeChannel b)) (ht : t.closeActive b) :
    s.closeActive b := by
  unfold State.closeActive at ht ⊢
  rwa [hpulse] at ht

/-- No source close, no feeder close. -/
def Scope.still : Scope := ⟨fun _ => False, True, True, True, False⟩

theorem ilcFollow_closeActive {b : Breaker} (ht : (ilcFollow s).closeActive b) : s.closeActive b := by
  obtain ⟨x, hx, -⟩ := ilcFollow_eq s
  rw [hx] at ht
  exact State.closeActive_of_pulse (by cases b <;> rfl) ht

theorem inMode_closeActive {m : Mode} {b : Breaker} (ht : (s.inMode m).closeActive b) : s.closeActive b := by
  rw [State.inMode_eq] at ht
  exact State.closeActive_of_pulse (by cases b <;> rfl) ht

theorem crSetMode_closeActive {m : Mode} {b : Breaker} (ht : (crSetMode m s).closeActive b) : s.closeActive b := by
  obtain ⟨-, hu⟩ | ⟨-, hu⟩ := crSetMode_cases m s <;> rw [hu] at ht
  · exact ht
  · exact inMode_closeActive (Acts.closeActive (Z := .still) id (modeJobs_acts _ trivial trivial (.refl _)) (ilcFollow_closeActive ht))

theorem inConflict_closeActive {b : Breaker} (ht : s.inConflict.closeActive b) : s.closeActive b :=
  State.closeActive_of_pulse (by cases b <;> rfl) ht

theorem conflict_closeActive {b : Breaker} (ht : (ilcFollow (crFollow s.inConflict)).closeActive b) : s.closeActive b := by
  have hfollow := ilcFollow_closeActive ht
  obtain hu | ⟨-, hu⟩ := crFollow_cases s.inConflict <;> rw [hu] at hfollow
  · exact inConflict_closeActive hfollow
  · exact inConflict_closeActive (crSetMode_closeActive hfollow)

theorem linkStarted_closeActive {b : Breaker} (ht : s.linkStarted.closeActive b) : s.closeActive b :=
  State.closeActive_of_pulse (by cases b <;> rfl) ht

theorem crTake_closeActive {record : List Byte} {b : Breaker} (ht : (crTake record s).closeActive b) : s.closeActive b :=
  State.closeActive_of_pulse (by cases b <;> simp only [crTake, State.pulse, closeChannel]) ht

theorem crLoad_closeActive {b : Breaker} (ht : (crLoad s).closeActive b) : s.closeActive b := by
  have hloading : s.loading.closeActive b → s.closeActive b := Acts.closeActive (Z := .still) id (loading_acts (.refl s))
  obtain hu | hu := crLoad_cases s <;> rw [hu, ilcStart_eq] at ht
  · have hblocks : Acts .still (crTake s.cr.sector s.loading) (crTake s.cr.sector s.loading).blocksStarted :=
      blocksStarted_acts trivial (.refl _)
    have hmode := (crTake_mode s.cr.sector s.loading).1
    rw [← hblocks.mode_eq] at hmode
    refine hloading (crTake_closeActive (hblocks.closeActive id ?_))
    generalize (crTake s.cr.sector s.loading).blocksStarted = x at ht hmode
    exact linkStarted_closeActive (ilcFollow_closeActive (Acts.closeActive (Z := .still) id
      (startedBlocks_acts trivial trivial False.elim (.inr (by rw [ilcFollow_cr]; exact hmode)) (.refl _)) ht))
  · exact hloading (inMode_closeActive (linkStarted_closeActive (ilcFollow_closeActive ht)))

/-- All that can begin a close pulse in a step: a quiet run, for a feeder in operation on a live island; and for the source breaker a
record handed over, or the end of the slot timer. -/
theorem step_closeActive {b : Breaker} (hstep : step s = .next t) (hs : ¬ s.closeActive b) (ht : t.closeActive b) :
    (b ≠ .source ∧ t.operating = true ∧ t.islandUp = true) ∨
    (b = .source ∧ ∃ u r, FreeActs s u ∧ ¬ u.closeActive b ∧ u.mu.latest = some r ∧ syncGood u.par r = true ∧ t = handRecord u) ∨
    (b = .source ∧ ∃ u, FreeActs s u ∧ ¬ u.closeActive b ∧ u.tac.inputs = s.tac.inputs ∧ u.bsc.session.slot.isRunning = false ∧
      t = bscSlotExpired u) := by
  have hfree {u : State} (h : FreeActs s u) : ¬ u.closeActive b := fun hu => hs ((h .core).closeActive id hu)
  have hreset {u : State} (hu : u.tac.srcClose = .idle ∧ u.tac.feederClose = .all .idle) : ¬ u.closeActive b := by
    obtain ⟨hsource, hfeeder⟩ := hu
    cases b <;> simp [State.closeActive, closeChannel, State.pulse, hsource, hfeeder, Pulse.isActive]
  cases step_shape hstep with
  | quiet h =>
    refine .inl ?_
    have hkept : t.closeActive b → s.closeActive b ∨ b ≠ .source ∧ ((∃ p, b = .feeder p) → t.operating = true ∧ t.islandUp = true) := by
      refine (h .quiet trivial trivial fun _ => nofun).keep
        (P := fun t => t.closeActive b → s.closeActive b ∨ b ≠ .source ∧ ((∃ p, b = .feeder p) → t.operating = true ∧ t.islandUp = true))
        (fun x y hxy hx hy => ?_) .inl
      have hup : x.operating = true ∧ x.islandUp = true → y.operating = true ∧ y.islandUp = true := by
        cases hxy with
        | down i hZ => exact hZ.elim
        | config c n hmode => exact fun h => ⟨by rw [← h.1, State.operating, State.operating, hmode], h.2⟩
        | coordinator c hisland =>
          refine fun h => ⟨h.1, ?_⟩
          obtain hi | hi | hi := hisland
          · rw [← h.2, State.islandUp, State.islandUp, hi]
          · simp [State.islandUp, hi]
          · simp [State.islandUp, hi]
        | timer id x => cases id <;> exact fun h => h
        | _ => exact fun h => h
      obtain hactive | ⟨hb, hlive⟩ := hxy.closeActive hy
      · exact (hx hactive).imp_right fun ⟨hb, hlive⟩ => ⟨hb, fun hp => hup (hlive hp)⟩
      · exact .inr ⟨hb, fun ⟨p, hp⟩ => hup (hlive p hp)⟩
    obtain ⟨hb, hlive⟩ := (hkept ht).resolve_left hs
    refine ⟨hb, hlive ?_⟩
    cases b with
    | source => exact absurd rfl hb
    | feeder p => exact ⟨p, rfl⟩
  | @record u h =>
    by_cases hclose : b = .source ∧ ∃ r, u.mu.latest = some r ∧ syncGood u.par r = true
    · obtain ⟨hb, r, hr, hgood⟩ := hclose
      exact .inr (.inl ⟨hb, u, r, h, hfree h, hr, hgood, rfl⟩)
    · refine absurd (Acts.closeActive (Z := .source (∃ r, u.mu.latest = some r ∧ syncGood u.par r = true)) hclose
        (handRecord_acts trivial trivial trivial (fun r hr hgood => ⟨rfl, r, hr, hgood⟩) (.refl u)) ht) (hfree h)
  | dead h =>
    exact absurd (Acts.closeActive (Z := .still) id (bscDeadExpired_acts trivial trivial trivial (.refl _)) ht) (hfree h)
  | @slot u h hslot hinputs =>
    by_cases hb : b = .source
    · exact .inr (.inr ⟨hb, u, h, hfree h, hinputs, hslot, rfl⟩)
    · exact absurd (Acts.closeActive (Z := .source True) (fun h => hb h.1) (bscSlotExpired_acts ⟨rfl, trivial⟩ hslot (.refl _)) ht)
        (hfree h)
  | mode h m => exact absurd (crSetMode_closeActive ht) (hfree h)
  | conflict h => exact absurd (conflict_closeActive ht) (hfree h)
  | load h => exact absurd (crLoad_closeActive ht) (hfree h)
  | powerOn | hold => exact absurd ht (hreset ⟨rfl, rfl⟩)
  | @release u h => exact absurd (State.closeActive_of_pulse (s := u) (by cases b <;> rfl) ht) (hfree h)

/-- Settles O58: a port begins to close only where none is in flight, and its pulse only in a quiet step, which leaves the mode and a live
island. -/
theorem feederClosesStaySingle : Obligations.FeederClosesStaySingle := by
  intro s t hs h
  refine ⟨step_keeps (fun _ _ => Move.oneCloseInFlight) hs h, fun p hidle hactive => ?_⟩
  have hbefore : ¬ s.closeActive (.feeder p) := fun hbefore => Bool.noConfusion (hidle.symm.trans hbefore)
  obtain ⟨-, hup⟩ | ⟨hb, -⟩ | ⟨hb, -⟩ := step_closeActive (b := .feeder p) h hbefore hactive
  · exact hup
  · cases hb
  · cases hb

end

section
variable {Z : Scope} {s t u : State}

/-! ### The dead-bus close -/

/-- A close request for the source breaker that is not qualified as closed: it begins and waits for its window, or leaves the state. -/
theorem requestClose_source_open (w : Nat) (hlevel : s.level .srcCb ≠ .asserted) :
    (∃ a c d, s.requestClose .source .ds w true = (⟨a, c, d⟩, s) ∧ a ≠ .started) ∨
    ∃ c u, s.requestClose .source .ds w true = (⟨.started, c, false⟩, u) := by
  obtain ⟨-, hu⟩ | ⟨-, -, hu⟩ | ⟨-, -, -, hu⟩ | ⟨-, -, -, hu⟩ := s.requestClose_cases .source .ds w true
  · exact .inl ⟨_, _, _, hu, nofun⟩
  · exact .inl ⟨_, _, _, hu, nofun⟩
  · exact .inl ⟨_, _, _, hu, nofun⟩
  · have hwaits : ((s.beginPulse .srcClose .ds w).openWindowIf true .source .ds true).1 = false := by
      obtain ⟨hclosed, -⟩ | ⟨-, hopen⟩ := (s.beginPulse .srcClose .ds w).openWindow_cases .source .ds true
      · exact absurd hclosed hlevel
      · exact congrArg Prod.fst hopen
    refine .inr ⟨false, ((s.beginPulse .srcClose .ds w).openWindowIf true .source .ds true).2, hu.trans ?_⟩
    exact Prod.ext (congrArg (PulseReply.mk .started false) hwaits) rfl

/-- The station has won and pulls PERMIT. -/
def State.won (s : State) : Prop := s.bsc.session.phase = .close ∧ s.tac.permitPull = true

theorem State.SameButBreaker.won {b : Breaker} (h : s.SameButBreaker b u) (hs : s.won) : u.won := by
  obtain ⟨-, -, tac, rfl, htac⟩ := h
  exact ⟨hs.1, by rw [htac]; exact hs.2⟩

/-- A diesel state entered beside a session that is not in HOLD touches the diesel record alone. -/
theorem dsEnter_of_phase (st : DieselState) (hphase : s.permitPhase ≠ .hold) : dsEnter st s = { s with ds := s.ds.enter st } := by
  unfold dsEnter
  simp only [show (s.permitPhase == .hold) = false by simp [hphase], Bool.and_false, Bool.false_eq_true, if_false]

/-- A dead-bus close that waits for its window leaves the win as it is. -/
theorem dsEnterClosing_won (hs : s.won) : (dsEnterClosing true false s).won := by
  have hphase : (s.cancel .sync).permitPhase ≠ .hold := by
    rw [show (s.cancel .sync).permitPhase = .close from hs.1]
    nofun
  unfold dsEnterClosing
  rw [dsEnter_of_phase _ hphase]
  exact hs

/-- A source close that begins after a win, with the breaker not qualified as closed, leaves the station in its win. -/
theorem dsWon_closeActive (hwon : s.won) (hlevel : s.level .srcCb ≠ .asserted) (hs : ¬ s.closeActive .source)
    (ht : (dsWon s).closeActive .source) : (dsWon s).won := by
  unfold dsWon at ht ⊢
  split
  next harbitrate =>
    rw [if_pos harbitrate] at ht
    obtain ⟨a, c, d, hu, ha⟩ | ⟨c, u, hu⟩ := requestClose_source_open s.par.diesel.pulse hlevel
    · rw [hu] at ht
      have hfailed : Acts .still s (dsEnterFailed (bscCloseFailed s)) :=
        dsEnterFailed_acts ((bscCloseFailed_acts (Z := .still) (.refl s)).dieselTaken
          (State.dieselTaken_of (State.dieselIs_iff.1 harbitrate))) (bscCloseFailed_acts (.refl s))
      cases a with
      | started => exact absurd rfl ha
      | ignored => exact absurd (hfailed.closeActive id ht) hs
      | refused => exact absurd (hfailed.closeActive id ht) hs
    · rw [hu]
      exact dsEnterClosing_won ((sameButBreaker_of_requestClose hu).won hwon)
  next harbitrate =>
    rw [if_neg harbitrate] at ht
    exact absurd ht hs

/-- A source close that begins at a slot point begins after the win. -/
theorem bscSlotExpired_closeActive (hlevel : s.level .srcCb ≠ .asserted) (hs : ¬ s.closeActive .source)
    (ht : (bscSlotExpired s).closeActive .source) : (bscSlotExpired s).won := by
  have hdrive (i : Nat) : ¬ (bscDriveBit i s).closeActive .source :=
    fun h => hs (State.closeActive_of_pulse rfl h)
  have hlost (u : State) (hu : u.pulse .srcClose = s.pulse .srcClose) : ¬ (dsLostOrLive (sessionEnd u)).closeActive .source :=
    fun h => hs (State.closeActive_of_pulse hu
      (Acts.closeActive (Z := .still) id (dsLostOrLive_acts (sessionEnd_acts (.refl u))) h))
  unfold bscSlotExpired at ht ⊢
  split
  next hstart =>
    rw [hstart] at ht
    exact absurd ht (hdrive 0)
  next hbits =>
    rw [hbits] at ht
    dsimp only at ht
    split
    next hsample =>
      rw [if_pos hsample] at ht
      unfold bscSample at ht ⊢
      dsimp only at ht ⊢
      split
      next hread =>
        rw [if_pos hread] at ht
        exact absurd ht (hlost s rfl)
      next hread =>
        rw [if_neg hread] at ht
        split
        next hlast =>
          rw [if_pos hlast] at ht
          unfold bscWin at ht ⊢
          dsimp only at ht ⊢
          split
          next hlive =>
            rw [if_pos hlive] at ht
            exact absurd ht (hlost _ rfl)
          next hlive =>
            rw [if_neg hlive] at ht
            exact dsWon_closeActive ⟨rfl, rfl⟩ hlevel hs ht
        next hlast =>
          rw [if_neg hlast] at ht
          exact absurd ht hs
    next hsample =>
      rw [if_neg hsample] at ht
      exact absurd ht (hdrive _)
  next hstart hbits =>
    split at ht
    next h => exact absurd h hstart
    next h => exact absurd h hbits
    · exact absurd ht hs

/-- A good cycle is one on a bus at or above the live level. -/
theorem syncGood_live {p : Params} {r : CycleRecord} (h : syncGood p r = true) :
    ∃ bus, r.busRms = some bus ∧ (2 * p.black.liveLevel + 1) * p.station.nominalV ≤ 32 * bus := by
  unfold syncGood at h
  split at h
  next bus _ _ hbus _ =>
    simp only [Bool.and_eq_true, decide_eq_true_eq] at h
    obtain ⟨⟨⟨⟨hlive, -⟩, -⟩, -⟩, -⟩ := h
    exact ⟨bus, hbus, hlive⟩
  · cases h

theorem handRecord_par (s : State) : (handRecord s).par = s.par := by
  have hcr : (handRecord s).cr = s.cr := by
    apply kept_cr
    unfold handRecord
    split <;> simp
  rw [State.par, hcr, State.par]

/-- Settles O59: a source close begins in SYNC, on a good cycle, or at the slot point that wins; and only the qualified position of a
closed breaker would end the win at once. -/
theorem sourceClosesNeedLiveBusOrWin : Obligations.SourceClosesNeedLiveBusOrWin := by
  intro s t hlevel hstep hidle hactive
  have hbefore : ¬ s.closeActive .source := fun hbefore => Bool.noConfusion (hidle.symm.trans hbefore)
  obtain ⟨hb, -⟩ | ⟨-, u, r, -, -, hr, hgood, rfl⟩ | ⟨-, u, -, hu, hinputs, -, rfl⟩ :=
    step_closeActive (b := .source) hstep hbefore hactive
  · exact absurd rfl hb
  · obtain ⟨bus, hbus, hlive⟩ := syncGood_live hgood
    exact .inl ⟨r, bus, by rw [handRecord_mu, hr], hbus, by rwa [handRecord_par]⟩
  · refine .inr (bscSlotExpired_closeActive (fun h => hlevel ?_) hu hactive)
    rwa [State.level, hinputs] at h

end

section

/-- Settles O1: a step is the front command's meaning. -/
theorem stepTakesFrontCommand : Obligations.StepTakesFrontCommand := by
  intro c rest s hpending
  exact step_cons hpending

/-- Settles O60: after a reset every channel is IDLE, every output at 0, every table empty, and no block holds a state. -/
theorem resetMeetsInvariants : Obligations.ResetMeetsInvariants := by
  have hformed : State.reset.formed := State.formed_of_reset ⟨by decide, by decide⟩ rfl rfl rfl
  obtain ⟨htable, hwindows, hgenerator⟩ := hformed
  have hone : State.reset.oneCloseInFlight := by
    intro p q x y hx
    rw [show State.reset.port p = none from Quad.get_all _ _] at hx
    cases hx
  exact ⟨State.pairsExclusive_of_reset ⟨rfl, rfl⟩, State.outputsFollow_reset, State.capZero.capHeld ⟨rfl, rfl⟩, htable, hwindows,
    hgenerator, State.causesShown_reset, State.failedLocked_of_none rfl rfl, ⟨rfl, rfl, fun _ => rfl⟩, State.sessionFormed_reset,
    State.portsShown_of_reset rfl rfl, hone⟩

end

end Sys2Proof.Machine
end

section
/-! SUPPORT. Commands that cannot occur, the resets, the timers and the measurement unit. -/

namespace Sys2Proof.Machine

section
variable {s t : State}

/-! ### Commands that cannot occur, and what none moves -/

theorem whileRunning_of_idle {f : State → State} (hf : f s = s) : whileRunning f s = .next s := by
  unfold whileRunning
  split <;> [rw [hf]; rfl]

theorem onExpiry_of_idle {id : TimerId} (f : State → State) (h : (s.timer id).expiry = none) : onExpiry id f s = .next s :=
  whileRunning_of_idle (by simp [atExpiry, State.expire, h])

/-- Without an expiry the command of a timer leaves the state. -/
theorem exec_of_no_expiry {c : Instr} {id : TimerId} (hc : expiryOf c = some id) (h : (s.timer id).expiry = none) :
    exec c s = .next s := by
  cases c with
  | removalTimerExpiry a =>
    obtain rfl := Option.some.inj hc
    refine whileRunning_of_idle ?_
    split
    · simp [atExpiry, State.expire, h]
    · rfl
  | syntheticTimeoutExpiry | sourceTimeoutExpiry | statusTimerExpiry | balancePeriodExpiry | windowTimerExpiry | holdoffTimerExpiry
  | lossTimerExpiry | stopTimerExpiry | restTimerExpiry | spoolTimerExpiry | syncTimeoutExpiry | unloadTimerExpiry
  | cooldownTimerExpiry | restoreQualificationTimerExpiry | stepSpacingTimerExpiry | overloadTimerExpiry | deadTimerExpiry
  | recoverTimerExpiry | guardTimerExpiry | stuckTimerExpiry | holdTimerExpiry | liveWaitTimerExpiry =>
    obtain rfl := Option.some.inj hc
    exact onExpiry_of_idle _ h
  | pulseTimerExpiry | confirmTimerExpiry | staleTimerExpiry | ripenessTimerExpiry | slotTimerExpiry | integrityTimerExpiry =>
    obtain rfl := Option.some.inj hc
    exact onExpiry_of_idle _ h
  | _ => cases hc

/-- Within a reset only the resets, the standby supply and the pin PERMIT act. -/
theorem exec_of_held {c : Instr} (hphase : s.phase ≠ .running) (hc : actsInReset c = false) : exec c s = .next s := by
  have hrun : s.runs = false := by simpa [State.runs] using hphase
  cases c with
  | powerOnReset | stationReset | resetRelease | restartResetEnd | standbySupplyLost | permitFallingEdge | permitRisingEdge => cases hc
  | timerSegmentComplete id => exact (whileRunning_held _ hrun : execTimerSegmentComplete id s = .next s)
  | c0Capture rise => exact (whileRunning_held _ hrun : execC0Capture rise s = .next s)
  | c1Capture rise => exact (whileRunning_held _ hrun : execC1Capture rise s = .next s)
  | _ => exact whileRunning_held _ hrun

/-- Settles O2: every other command is taken while the station runs, and an expiry where there is one. -/
theorem idleAndImpossibleLeaveState : Obligations.IdleAndImpossibleLeaveState := by
  refine ⟨fun s hpending => ⟨fun hphase => ?_, fun hphase => ?_⟩, fun c s => ⟨exec_of_held, fun id => exec_of_no_expiry⟩⟩
  · rw [step_nil hpending, State.tick, if_pos (by simpa [State.runs] using hphase)]
  · rw [step_nil hpending, State.tick, if_neg (by simpa [State.runs] using hphase)]

theorem exec_next (c : Instr) (s : State) : ∃ t, exec c s = .next t := by
  cases c <;> exact ⟨_, rfl⟩

theorem Act.address_eq {Z : Scope} (h : Act Z s t) : t.address = s.address := by
  cases h with
  | timer id x => cases id <;> rfl
  | _ => rfl

theorem Move.address_eq {K : Prop} (h : Move K False s t) : t.address = s.address := by
  cases h with
  | acts h => exact h.keep_eq (f := State.address) fun _ _ => Act.address_eq
  | mode m => rw [State.inMode_eq]
  | follow =>
    obtain ⟨x, hx, -⟩ := ilcFollow_eq s
    rw [hx]
  | take record => simp only [crTake]
  | conflict | link => rfl
  | powerOn straps hE | release straps hE => exact hE.elim
  | hold p => exact stationReset_address p s

/-- Only the end of a reset moves the address. -/
theorem exec_address {c : Instr} (hc : ¬ resetEnds c) (h : exec c s = .next t) : t.address = s.address := by
  have hshape := exec_shape c (fun Z => Acts.refl s) rfl h
  rw [eq_false hc] at hshape
  exact (hshape.moves (K := False) False.elim).keep (P := fun u => u.address = s.address)
    (fun _ _ hm hs => hm.address_eq.trans hs) rfl

/-- Settles O3: each arm of the dispatch is a next state, and the address is no matter of any but the resets' ends. -/
theorem everyCommandAnswersNext : Obligations.EveryCommandAnswersNext := by
  intro c s
  obtain ⟨t, ht⟩ := exec_next c s
  refine ⟨t, ht, fun hc => exec_address (fun hends => ?_) ht⟩
  cases c with
  | powerOnReset straps => exact (hc straps).1 rfl
  | resetRelease straps => exact (hc straps).2.1 rfl
  | restartResetEnd straps => exact (hc straps).2.2 rfl
  | _ => exact hends

/-! ### The resets -/

/-- Settles O4: each reset gives every block its reset values but for what it keeps. -/
theorem resetsLeaveResetState : Obligations.ResetsLeaveResetState := by
  intro straps t s
  dsimp only
  refine ⟨?_, fun hphase => ?_, fun hphase => ?_, ?_, ?_, ?_⟩
  · change Host.Outcome.next (resetEnd straps (resetAll true s)) = _
    unfold resetEnd resetAll retentionAfter State.spoilSector
    dsimp only
    by_cases hbroken : s.cr.commit = .running <;> by_cases hintact : s.ret.intact <;> simp only [hbroken, hintact, Bool.not_true, Bool.and_false, if_true, if_false, Bool.false_eq_true] <;> rfl
  · change Host.Outcome.next (if s.phase = .heldByLine then s else stationReset .heldByLine (s.stamp t)) = _
    rw [if_neg hphase]
    unfold stationReset resetAll retentionAfter State.spoilSector State.stamp
    dsimp only
    by_cases hbroken : s.cr.commit = .running <;> by_cases hintact : s.ret.intact <;> simp only [hbroken, hintact, Bool.not_false, Bool.and_true, if_true, if_false, Bool.false_eq_true]
  · change Host.Outcome.next (if s.phase = .heldByLine then s else stationReset .heldByLine (s.stamp t)) = _
    rw [if_pos hphase]
  · rintro c (⟨rfl, hphase⟩ | ⟨rfl, hphase⟩)
    · change Host.Outcome.next (if s.phase = .heldByLine then resetEnd straps s else s) = _
      rw [if_pos hphase]
      rfl
    · change Host.Outcome.next (if s.phase = .heldByRestart then resetEnd straps s else s) = _
      rw [if_pos hphase]
      rfl
  · rintro c (⟨rfl, hphase⟩ | ⟨rfl, hphase⟩)
    · change Host.Outcome.next (if s.phase = .heldByLine then resetEnd straps s else s) = _
      rw [if_neg hphase]
    · change Host.Outcome.next (if s.phase = .heldByRestart then resetEnd straps s else s) = _
      rw [if_neg hphase]
  · change Host.Outcome.next ({ s.stampRunning t with ret := { s.ret with intact := false } } : State) = _
    unfold State.stampRunning State.runs State.stamp
    by_cases hphase : s.phase = .running <;> simp [hphase]

end

section
variable {s t : State}

/-! ### Timers read after a write -/

theorem Pv.entry_modify {v : Pv} {a b : Nat} {g : Entry → Entry} (hg : ∀ e, (g e).address = e.address) :
    (v.modify a g).entry b = (v.entry b).map fun e => if e.address = a then g e else e := by
  unfold Pv.entry Pv.modify
  rw [List.find?_map]
  congr 1
  · funext e
    simp
  · congr 1
    funext e
    simp only [Function.comp, beq_iff_eq]
    split <;> simp [hg]

theorem Window.timer_withTimer {w : Window} {x : Timer} (h : w.timer.isRunning = true) : (w.withTimer x).timer = x := by
  cases w with
  | closedOut => cases h
  | watching => rfl

theorem Pulse.timer_withTimer {p : Pulse} {x : Timer} (h : p.timer.isRunning = true) : (p.withTimer x).timer = x := by
  cases p with
  | idle => cases h
  | active => rfl

/-- A timer that runs holds what is put into it. -/
theorem State.timer_putTimer_same {id : TimerId} {x : Timer} (h : (s.timer id).isRunning = true) : (s.putTimer id x).timer id = x := by
  cases id with
  | pulse c =>
    rw [State.putTimer, State.timer, State.pulse_putPulse_same]
    exact Pulse.timer_withTimer h
  | confirm b =>
    rw [State.putTimer, State.timer, State.window_putWindow_same]
    exact Window.timer_withTimer h
  | stale a | removal a =>
    simp only [State.timer] at h
    simp only [State.putTimer, State.timer, Pv.entry_modify, implies_true]
    cases he : s.pv.entry a with
    | none => simp [he, Timer.isRunning] at h
    | some e => simp [(Pv.entry_mem he).2]
  | ripeness p =>
    rw [State.putTimer, State.timer, State.port_modifyPort_same]
    simp only [State.timer] at h
    cases hr : s.port p with
    | none => simp [hr, Timer.isRunning] at h
    | some r => rfl
  | _ => rfl

/-- A timer put leaves every other. -/
theorem State.timer_putTimer_other {id j : TimerId} (x : Timer) (hj : j ≠ id) : (s.putTimer id x).timer j = s.timer j := by
  cases id with
  | pulse c =>
    cases j with
    | pulse d => exact congrArg Pulse.timer (State.pulse_putPulse_other s _ fun h => hj (congrArg _ h))
    | confirm b => exact congrArg Window.timer (State.window_putPulse s c _ b)
    | _ => rfl
  | confirm b =>
    cases j with
    | pulse c => exact congrArg Pulse.timer (State.pulse_putWindow s b _ c)
    | confirm d => exact congrArg Window.timer (State.window_putWindow_other s _ fun h => hj (congrArg _ h))
    | _ => rfl
  | stale a =>
    cases j with
    | stale b =>
      have hne : b ≠ a := fun h => hj (congrArg _ h)
      simp only [State.putTimer, State.timer, Pv.entry_modify, implies_true]
      cases he : s.pv.entry b with
      | none => rfl
      | some e => simp [(Pv.entry_mem he).2, hne]
    | removal b =>
      simp only [State.putTimer, State.timer, Pv.entry_modify, implies_true]
      cases s.pv.entry b with
      | none => rfl
      | some e =>
        simp only [Option.map_some, Option.getD_some]
        split <;> rfl
    | _ => rfl
  | removal a =>
    cases j with
    | removal b =>
      have hne : b ≠ a := fun h => hj (congrArg _ h)
      simp only [State.putTimer, State.timer, Pv.entry_modify, implies_true]
      cases he : s.pv.entry b with
      | none => rfl
      | some e => simp [(Pv.entry_mem he).2, hne]
    | stale b =>
      simp only [State.putTimer, State.timer, Pv.entry_modify, implies_true]
      cases s.pv.entry b with
      | none => rfl
      | some e =>
        simp only [Option.map_some, Option.getD_some]
        split <;> rfl
    | _ => rfl
  | ripeness p =>
    cases j with
    | ripeness q =>
      have hq : q ≠ p := fun h => hj (congrArg _ h)
      simp only [State.putTimer, State.timer, State.port_modifyPort_other hq]
    | _ => rfl
  | _ => cases j <;> first | rfl | exact absurd rfl hj

theorem State.putTimer_rest (s : State) (t : Tick) (id : TimerId) (x : Timer) :
    ((s.stamp t).putTimer id x).tb = t ∧ ((s.stamp t).putTimer id x).mu.cycle = s.mu.cycle ∧
      ((s.stamp t).putTimer id x).ret = s.ret ∧ ((s.stamp t).putTimer id x).cr.mode = s.cr.mode ∧
      ((s.stamp t).putTimer id x).mp = s.mp := by
  cases id <;> exact ⟨rfl, rfl, rfl, rfl, rfl⟩

theorem exec_segment {id : TimerId} {t : Tick} {d : Nat} (hrun : s.runs = true) (htimer : s.timer id = .running t d) :
    exec (.timerSegmentComplete id) s = .next
      (if segmentTicks < d then (s.stamp (after t segmentTicks)).putTimer id (.running (after t segmentTicks) (d - segmentTicks))
        else s) := by
  refine (whileRunning_runs _ hrun : execTimerSegmentComplete id s = _).trans ?_
  rw [htimer, Timer.segment]
  by_cases hlong : segmentTicks < d
  · simp only [if_pos hlong]
  · simp only [if_neg hlong]

/-- Settles O5: a segment moves its timer's start, and the five plain expiries are their own equations. -/
theorem timersRunInSegments : Obligations.TimersRunInSegments := by
  refine ⟨fun id t d s hphase htimer => ?_, fun p r t s => ?_⟩
  · have hrun : s.runs = true := by simpa [State.runs] using hphase
    rw [exec_segment hrun htimer]
    refine ⟨fun hlong => ⟨_, by rw [if_pos (show segmentTicks < d from hlong)], ?_⟩, fun hshort => by rw [if_neg (by simpa [segmentTicks] using hshort)]⟩
    obtain ⟨htb, hcycle, hret, hmode, hmp⟩ := s.putTimer_rest (after t segmentTicks) id
      (.running (after t segmentTicks) (d - segmentTicks))
    refine ⟨htb, State.timer_putTimer_same ?_, fun j hj => ?_, hcycle, hret, hmode, hmp⟩
    · rw [State.timer_stamp, htimer]
      rfl
    · rw [State.timer_putTimer_other _ hj, State.timer_stamp]
  · refine ⟨fun ⟨hrun, hdue⟩ => onExpiry_due _ hrun hdue, fun ⟨hrun, hdue⟩ => onExpiry_due _ hrun hdue, fun ⟨hrun, hdue⟩ hport => ?_,
      fun ⟨hrun, hdue⟩ => onExpiry_due _ hrun hdue, fun ⟨hrun, hdue⟩ => onExpiry_due _ hrun hdue⟩
    refine (onExpiry_due _ hrun hdue).trans ?_
    simp only [State.cancel, State.putTimer, State.modifyPort, Fl.modify, State.stamp, Quad.get_set_same]
    rw [show s.fl.ports.get p = some r from hport]
    cases p <;> rfl

end

section

/-! ### Rounding and square roots -/

/-- The quotient rounded half up lies within half a divisor of what it rounds. -/
theorem half_up_bounds (n : Nat) {d : Nat} (hd : 0 < d) :
    2 * (d * ((2 * n + d) / (2 * d))) ≤ 2 * n + d ∧ 2 * n < 2 * (d * ((2 * n + d) / (2 * d))) + d := by
  have hle := Nat.mul_div_le (2 * n + d) (2 * d)
  have hlt := Nat.lt_mul_div_succ (2 * n + d) (show 0 < 2 * d by omega)
  rw [mul_assoc] at hle
  rw [mul_assoc, Nat.mul_add, Nat.mul_one] at hlt
  omega

/-- Rounding is half away from zero. -/
theorem roundDiv_nearest (a : Int) {d : Nat} (hd : 0 < d) :
    2 * (d * roundDiv a d - a).natAbs ≤ d ∧ (2 * (d * roundDiv a d - a).natAbs = d → a.natAbs < (d * roundDiv a d).natAbs) := by
  obtain ⟨hle, hlt⟩ := half_up_bounds a.natAbs hd
  rw [Int.natAbs_mul, natAbs_roundDiv, Int.natAbs_natCast]
  generalize hq : (2 * a.natAbs + d) / (2 * d) = q at hle hlt
  have hround : (d : Int) * roundDiv a d = if 0 ≤ a then ((d * q : Nat) : Int) else -((d * q : Nat) : Int) := by
    unfold roundDiv
    rw [hq]
    split <;> push_cast <;> ring
  rw [hround]
  generalize d * q = p at hle hlt
  split <;> omega

/-- The bits below the root so far find the greatest root. -/
theorem sqrtFrom_spec {x : Nat} (k r : Nat) (hle : r * r ≤ x) (hlt : x < (r + 2 ^ k) * (r + 2 ^ k)) :
    sqrtFrom x k r * sqrtFrom x k r ≤ x ∧ x < (sqrtFrom x k r + 1) * (sqrtFrom x k r + 1) := by
  induction k generalizing r with
  | zero => exact ⟨hle, by simpa [sqrtFrom] using hlt⟩
  | succ k ih =>
    rw [Nat.pow_succ, Nat.mul_two, ← Nat.add_assoc] at hlt
    unfold sqrtFrom sqrtBit
    split
    next hbit => exact ih _ hbit hlt
    next hbit => exact ih r hle (Nat.lt_of_not_le hbit)

theorem isqrt_spec {x : Nat} (hx : x < 2 ^ 64) : isqrt x * isqrt x ≤ x ∧ x < (isqrt x + 1) * (isqrt x + 1) :=
  sqrtFrom_spec 32 0 (Nat.zero_le _) (by simpa using hx)

/-- The root rounded once, against the exact quotient. -/
theorem roundSqrt_bounds {num den : Nat} (hden : 0 < den) (hsmall : 4 * num / den < 2 ^ 64) :
    4 * num < (2 * roundSqrt num den + 1) ^ 2 * den ∧
      ∀ v, 0 < v → v ≤ roundSqrt num den → (2 * v - 1) ^ 2 * den ≤ 4 * num := by
  obtain ⟨hle, hlt⟩ := isqrt_spec hsmall
  unfold roundSqrt
  generalize isqrt (4 * num / den) = r at hle hlt
  constructor
  · calc 4 * num < (4 * num / den + 1) * den := by
          rw [Nat.mul_comm (4 * num / den + 1)]
          exact Nat.lt_mul_div_succ _ hden
      _ ≤ ((r + 1) * (r + 1)) * den := Nat.mul_le_mul_right _ hlt
      _ ≤ (2 * ((r + 1) / 2) + 1) ^ 2 * den := by
          rw [← Nat.pow_two]
          exact Nat.mul_le_mul_right _ (Nat.pow_le_pow_left (by omega) 2)
  · intro v hv hvr
    calc (2 * v - 1) ^ 2 * den ≤ r ^ 2 * den := Nat.mul_le_mul_right _ (Nat.pow_le_pow_left (by omega) 2)
      _ ≤ (4 * num / den) * den := by
          rw [Nat.pow_two]
          exact Nat.mul_le_mul_right _ hle
      _ ≤ 4 * num := Nat.div_mul_le_self _ _

/-- Settles O6: the quotient rounded half up, and the root found bit by bit, are the nearest. -/
theorem samplesAreRounded : Obligations.SamplesAreRounded := by
  refine ⟨⟨fun a d hd => roundDiv_nearest a hd, fun c x => rfl⟩, fun sum n kv hn hsum hmax hkv => ?_⟩
  lift sum to Nat using hsum
  have hmax : sum ≤ n * 2048 ^ 2 := by exact_mod_cast hmax
  have hsquare : kv * kv ≤ 65535 * 65535 := Nat.mul_le_mul hkv hkv
  have hsmall : 4 * (sum * (kv * kv)) / (n * 1000000) < 2 ^ 64 := by
    have hle : 4 * (sum * (kv * kv)) ≤ (n * 1000000) * 2 ^ 63 := by
      calc 4 * (sum * (kv * kv)) ≤ 4 * ((n * 2048 ^ 2) * (65535 * 65535)) := Nat.mul_le_mul_left _ (Nat.mul_le_mul hmax hsquare)
        _ ≤ (n * 1000000) * 2 ^ 63 := by omega
    have := Nat.div_le_of_le_mul hle
    omega
  obtain ⟨hup, hdown⟩ := roundSqrt_bounds (num := sum * (kv * kv)) (show 0 < n * 1000000 by omega) hsmall
  have hrms : rmsVolts sum n kv = min 65535 (roundSqrt (sum * (kv * kv)) (n * 1000000)) := rfl
  generalize roundSqrt (sum * (kv * kv)) (n * 1000000) = w at hup hdown hrms
  dsimp only
  rw [hrms]
  refine ⟨Nat.min_le_left _ _, fun hlt => ?_, fun hpos => ?_⟩
  · rw [Nat.min_eq_right (by omega)]
    have : ((4 * (sum * (kv * kv)) : Nat) : Int) < (((2 * w + 1) ^ 2 * (n * 1000000) : Nat) : Int) := by exact_mod_cast hup
    push_cast at this
    linarith
  · have hle := hdown (min 65535 w) hpos (Nat.min_le_right _ _)
    generalize min 65535 w = v at hpos hle
    obtain ⟨v, rfl⟩ : ∃ m, v = m + 1 := ⟨v - 1, by omega⟩
    have : (((2 * (v + 1) - 1) ^ 2 * (n * 1000000) : Nat) : Int) ≤ ((4 * (sum * (kv * kv)) : Nat) : Int) := by exact_mod_cast hle
    rw [show 2 * (v + 1) - 1 = 2 * v + 1 by omega] at this
    push_cast at this ⊢
    linarith

end

section

/-! ### The gaps between scans -/

/-- A gap comes before another in the order of their keys, and of their places where the keys are the same. -/
def gapBefore (j k : Nat) : Bool :=
  Config.scanGapKey j < Config.scanGapKey k || (Config.scanGapKey j == Config.scanGapKey k && j < k)

/-- How many of the first `n` gaps come before a gap. -/
def gapRank (n k : Nat) : Nat := ((Finset.range n).filter fun j => gapBefore j k = true).card

theorem gapBefore_iff (j k : Nat) : gapBefore j k = true ↔
    Config.scanGapKey j < Config.scanGapKey k ∨ Config.scanGapKey j = Config.scanGapKey k ∧ j < k := by
  simp [gapBefore]

theorem gapBefore_trans {i j k : Nat} (hij : gapBefore i j = true) (hjk : gapBefore j k = true) : gapBefore i k = true := by
  rw [gapBefore_iff] at *
  omega

theorem gapRank_lt {n j k : Nat} (hj : j < n) (h : gapBefore j k = true) : gapRank n j < gapRank n k := by
  refine Finset.card_lt_card ⟨fun i hi => ?_, fun hsub => ?_⟩
  · obtain ⟨hn, hi⟩ := Finset.mem_filter.1 hi
    exact Finset.mem_filter.2 ⟨hn, gapBefore_trans hi h⟩
  · have hself := (Finset.mem_filter.1 (hsub (Finset.mem_filter.2 ⟨Finset.mem_range.2 hj, h⟩))).2
    rw [gapBefore_iff] at hself
    omega

theorem gapRank_injOn (n : Nat) : Set.InjOn (gapRank n) (Finset.range n) := by
  intro j hj k hk heq
  by_contra hne
  have hj := Finset.mem_range.1 hj
  have hk := Finset.mem_range.1 hk
  have horder : gapBefore j k = true ∨ gapBefore k j = true := by
    rw [gapBefore_iff, gapBefore_iff]
    omega
  obtain h | h := horder
  · exact absurd heq (gapRank_lt hj h).ne
  · exact absurd heq (gapRank_lt hk h).ne'

theorem gapRank_image (n : Nat) : (Finset.range n).image (gapRank n) = Finset.range n := by
  refine Finset.eq_of_subset_of_card_le (fun r hr => ?_) (Finset.card_image_of_injOn (gapRank_injOn n)).ge
  obtain ⟨k, hk, rfl⟩ := Finset.mem_image.1 hr
  have hlt : (((Finset.range n).filter fun j => gapBefore j k = true)).card < (Finset.range n).card := by
    refine Finset.card_lt_card ⟨Finset.filter_subset _ _, fun hsub => ?_⟩
    have hself := (Finset.mem_filter.1 (hsub hk)).2
    rw [gapBefore_iff] at hself
    omega
  rwa [Finset.card_range, ← Finset.mem_range] at hlt

/-- As many gaps have a rank below `m` as there are ranks below `m`. -/
theorem card_gapRank_lt {m n : Nat} (h : m ≤ n) : ((Finset.range n).filter fun k => gapRank n k < m).card = m := by
  have himage : ((Finset.range n).filter fun k => gapRank n k < m).image (gapRank n) = Finset.range m := by
    rw [← Finset.filter_image (p := fun r => r < m), gapRank_image]
    ext r
    simp only [Finset.mem_filter, Finset.mem_range]
    omega
  rw [← Finset.card_image_of_injOn ((gapRank_injOn n).mono (Finset.coe_subset.2 (Finset.filter_subset _ _))), himage,
    Finset.card_range]

theorem countP_range_eq_card (p : Nat → Bool) (n : Nat) :
    (List.range n).countP p = ((Finset.range n).filter fun k => p k = true).card := by
  have hlist : Multiset.countP (fun k => p k = true) (List.range n) = (List.range n).countP p := by
    rw [Multiset.coe_countP]
    simp
  rw [← hlist, Multiset.countP_eq_card_filter]
  rfl

theorem longGap_eq (k : Nat) : longGap k = decide (gapRank 24 k < 4) := by
  unfold longGap gapRank
  rw [← countP_range_eq_card (fun j => gapBefore j k) 24]
  rfl

/-- Four gaps of the pattern are long, whatever the order. -/
theorem countP_longGap : (List.range 24).countP longGap = 4 := by
  rw [countP_range_eq_card]
  simp only [longGap_eq, decide_eq_true_eq]
  exact card_gapRank_lt (by decide)

/-- A choice of two numbers that differ by one: how often each comes, and their sum. -/
theorem twoGaps (p : Nat → Bool) (g : Nat) (l : List Nat) :
    (l.map fun k => if p k then g + 1 else g).sum = g * l.length + l.countP p ∧
      (l.map fun k => if p k then g + 1 else g).count g + l.countP p = l.length ∧
      (l.map fun k => if p k then g + 1 else g).count (g + 1) = l.countP p := by
  induction l with
  | nil => simp
  | cons k l ih =>
    obtain ⟨hsum, hshort, hlong⟩ := ih
    cases hp : p k <;> simp [hp, hsum, hlong, Nat.mul_add] <;> omega

/-- The 24 gaps from any scan on are the 24 gaps of the pattern. -/
theorem gaps_perm (k : Nat) : ((List.range 24).map fun i => scanGap 60 ((k + i) % 24)).Perm ((List.range 24).map (scanGap 60)) := by
  have hturn : ∀ r < 24, ((List.range 24).map fun i => (r + i) % 24).Perm (List.range 24) := by decide
  have hk : (fun i => (k + i) % 24) = fun i => (k % 24 + i) % 24 := funext fun i => (Nat.mod_add_mod k 24 i).symm
  have := (hturn (k % 24) (Nat.mod_lt k (by decide))).map (scanGap 60)
  rw [← hk, List.map_map] at this
  exact this

theorem gaps_pattern (k : Nat) :
    ((List.range 24).map fun i => scanGap 60 ((k + i) % 24)).sum = 62500 ∧
      ((List.range 24).map fun i => scanGap 60 ((k + i) % 24)).count 2604 = 20 ∧
      ((List.range 24).map fun i => scanGap 60 ((k + i) % 24)).count 2605 = 4 := by
  obtain ⟨hsum, hshort, hlong⟩ := twoGaps longGap 2604 (List.range 24)
  rw [countP_longGap, List.length_range] at *
  rw [(gaps_perm k).sum_eq, (gaps_perm k).count_eq, (gaps_perm k).count_eq]
  have hcount : ((List.range 24).map (scanGap 60)).count 2604 + 4 = 24 := hshort
  exact ⟨hsum, by omega, hlong⟩

/-! ### A scan -/

/-- Settles O7: the scan's own equation, and the ranks of the gaps, of which exactly four are below 4. -/
theorem scanAccumulates : Obligations.ScanAccumulates := by
  refine ⟨fun x s hphase => ?_, gaps_pattern⟩
  have hrun : s.runs = true := by simpa [State.runs] using hphase
  have hexec : exec (.scan x) s = .next (if s.mu.started then muScan x s else s) := whileRunning_runs _ hrun
  refine ⟨fun hstarted => by rw [hexec, hstarted]; rfl, fun hstarted => ?_⟩
  refine ⟨(muScan x s).tac.c0High, (muScan x s).tac.c1High, fun h => ?_, fun h => ?_, ?_⟩
  · exact (Bool.and_eq_true_iff.1 h).1
  · exact (Bool.and_eq_true_iff.1 h).1
  · rw [hexec, hstarted]
    have hfeeders : (s.mu.cycle.add s.mu.cal s.configured x).feederVI = .of fun p =>
        if p.num ≤ s.par.station.feederCount then
          s.mu.cycle.feederVI.get p + calibrated s.mu.cal.vBus x.vBus * calibrated (s.mu.cal.iF.get p) (x.iF.get p)
        else s.mu.cycle.feederVI.get p := by
      unfold Cycle.add State.configured
      dsimp only
      congr 1
      funext p
      by_cases hp : p.num ≤ s.par.station.feederCount <;> simp [hp]
    rw [← hfeeders]
    rfl

end

section
variable {s v : State} {t : Tick} {kind : BoundaryKind}

/-! ### The record of a closing cycle -/

theorem handRecord_kept (s : State) : (handRecord s).kept = s.kept := by
  unfold handRecord
  split <;> simp

theorem closingPeriod_eq (kind : BoundaryKind) (reference : Option Tick) (t : Tick) :
    closingPeriod kind reference t = if kind = .capture then reference.map fun r => (t - r).toNat else none := by
  cases kind <;> rfl

theorem pushPeriod_eq {w : List Nat} (h : w.length ≤ 4) (p : Nat) :
    pushPeriod w p = (if w.length < 4 then w else w.drop 1) ++ [p] := by
  unfold pushPeriod
  split
  next hlt => rw [List.length_append, List.length_singleton, show w.length + 1 - 4 = 0 by omega, List.drop_zero]
  next hge =>
    rw [List.length_append, List.length_singleton, show w.length + 1 - 4 = 1 by omega, List.drop_append_of_le_length (by omega)]

theorem windowAfter_eq {w : List Nat} (h : w.length ≤ 4) (period : Option Nat) :
    windowAfter w period = match period with
      | some p => if 142857 ≤ p ∧ p ≤ 250000 then (if w.length < 4 then w else w.drop 1) ++ [p] else []
      | none => [] := by
  cases period with
  | none => rfl
  | some p =>
    unfold windowAfter
    dsimp only
    rw [pushPeriod_eq h]
    by_cases hp : 142857 ≤ p ∧ p ≤ 250000
    · rw [if_pos ((periodInBand_iff p).2 hp), if_pos hp]
    · rw [if_neg fun hband => hp ((periodInBand_iff p).1 hband), if_neg hp]

theorem windowFrequency_eq (w : List Nat) :
    windowFrequency w = if w.length = 4 then some (roundDiv 40000000000 w.sum).toNat else none := rfl

theorem cycleRecord_periodValid (s : State) (t : Tick) (kind : BoundaryKind) :
    (cycleRecord s t kind).periodValid = true ↔
      ∃ p, (cycleRecord s t kind).period = some p ∧ 142857 ≤ p ∧ p ≤ 250000 := by
  change ((closingPeriod kind s.mu.capRef t).map periodInBand).getD false = true ↔
    ∃ p, closingPeriod kind s.mu.capRef t = some p ∧ 142857 ≤ p ∧ p ≤ 250000
  cases closingPeriod kind s.mu.capRef t with
  | none => simp
  | some p => simp [periodInBand_iff]

/-- A short cycle forms no results and enters no sums (R8, R16). -/
theorem cycleRecord_short (t : Tick) (kind : BoundaryKind) (h : s.mu.cycle.n < 32) :
    (cycleRecord s t kind).busRms = none ∧ (cycleRecord s t kind).srcRms = none ∧ (cycleRecord s t kind).srcPower = none ∧
      (∀ p, (cycleRecord s t kind).feederPower.get p = none) ∧ (cycleRecord s t kind).available = none := by
  have hshort : s.mu.cycle.short = true := by simp [Cycle.short, h]
  refine ⟨?_, ?_, ?_, fun p => ?_, ?_⟩ <;> simp [cycleRecord, unlessShort, hshort]

theorem PeriodSums.add_of_none {x : PeriodSums} {r : CycleRecord} (h : r.srcPower = none) : x.add r = x := by
  simp [PeriodSums.add, h]

/-- A cycle that is not short forms its results (R9, R11). -/
theorem cycleRecord_long (t : Tick) (kind : BoundaryKind) (h : 32 ≤ s.mu.cycle.n) :
    (cycleRecord s t kind).busRms = some (rmsVolts s.mu.cycle.vBus2 s.mu.cycle.n s.par.station.kv) ∧
      (cycleRecord s t kind).srcRms = some (rmsVolts s.mu.cycle.vSrc2 s.mu.cycle.n s.par.station.kv) ∧
      (cycleRecord s t kind).srcPower =
        some (powerKw s.par.station.phases s.mu.cycle.srcVI s.mu.cycle.n s.par.station.kv s.par.station.kiSrc) ∧
      (cycleRecord s t kind).available = some (availableKw s.mu.cycle.avail s.mu.cycle.n s.par.station.aScale) ∧
      ∀ p, (cycleRecord s t kind).feederPower.get p =
        if p.num ≤ s.par.station.feederCount then
          some (powerKw s.par.station.phases (s.mu.cycle.feederVI.get p) s.mu.cycle.n s.par.station.kv s.par.station.kiFdr)
        else none := by
  have hlong : s.mu.cycle.short = false := by simp [Cycle.short, h]
  refine ⟨?_, ?_, ?_, ?_, fun p => ?_⟩ <;> simp [cycleRecord, unlessShort, hlong, State.configured]

theorem cycleSync_isSome (s : State) (t : Tick) (kind : BoundaryKind) (w : List Nat) :
    (cycleSync s t kind w).isSome = true ↔
      kind = .capture ∧ (windowFrequency w).isSome = true ∧ s.mu.fSrc.isSome = true ∧ s.mu.lastSrc.isSome = true := by
  cases kind with
  | synthetic => simp [cycleSync]
  | capture =>
    simp only [Option.isSome_iff_exists, cycleSync_capture_iff]
    constructor
    · rintro ⟨_, f, fSrc, tSrc, pBus, hf, hfSrc, htSrc, -, -⟩
      exact ⟨trivial, ⟨f, hf⟩, ⟨fSrc, hfSrc⟩, ⟨tSrc, htSrc⟩⟩
    · rintro ⟨-, ⟨f, hf⟩, ⟨fSrc, hfSrc⟩, ⟨tSrc, htSrc⟩⟩
      have hlen := (windowFrequency_eq_some hf).1
      obtain ⟨pBus, hlast⟩ : ∃ p, w.getLast? = some p :=
        ⟨_, List.getLast?_eq_getLast_of_ne_nil fun hnil => by simp [hnil] at hlen⟩
      exact ⟨_, f, fSrc, tSrc, pBus, hf, hfSrc, htSrc, hlast, rfl⟩

/-! ### The command of a boundary, whole -/

/-- What a boundary leaves besides the measurement unit: the instant, and everything that the readers of a record may not write. -/
def State.sameButRecord (s : State) (t : Tick) (u : State) : Prop :=
  u.tb = t ∧ u.phase = s.phase ∧ u.address = s.address ∧ u.pv = s.pv ∧ u.be = s.be ∧ u.cr = s.cr ∧ u.mp = s.mp ∧
    u.tac.inputs = s.tac.inputs ∧ u.ilc.transmitter = s.ilc.transmitter ∧ u.ilc.receiver = s.ilc.receiver ∧ u.pending = s.pending

/-- The readers of a record write nothing but their own. -/
theorem handRecord_sameButRecord (h : s.sameButRecord t v) : s.sameButRecord t (handRecord v) := by
  have hkept := handRecord_kept v
  obtain ⟨htb, hphase, haddress, hpv, hbe, hcr, hmp, hinputs, htransmitter, hreceiver, hpending⟩ := h
  exact ⟨(kept_tb hkept).trans htb, (kept_phase hkept).trans hphase, (kept_address hkept).trans haddress, (kept_pv hkept).trans hpv,
    (kept_be hkept).trans hbe, (kept_cr hkept).trans hcr, (kept_mp hkept).trans hmp, (kept_inputs hkept).trans hinputs,
    (kept_transmitter hkept).trans htransmitter, (kept_receiver hkept).trans hreceiver, (kept_pending hkept).trans hpending⟩

/-- What closes the cycle, closes it and hands the record over. -/
theorem exec_boundary {swing : Swing} {c : Instr} (hrun : s.runs = true)
    (hc : kind = .capture ∧ c = .c0Capture ⟨t, swing⟩ ∧ s.busCapture swing = true ∧ s.mu.started = true ∨
      kind = .synthetic ∧ c = .syntheticTimeoutExpiry ∧ s.mu.synthetic.expiry = some t) :
    ∃ u, exec c s = .next u ∧ u.mu = (muCloseCycle t kind s).mu ∧ s.sameButRecord t u := by
  obtain ⟨rfl, rfl, hcapture, hstarted⟩ | ⟨rfl, rfl, hdue⟩ := hc
  · refine ⟨muBoundary t .capture { s.stamp t with tac := { s.tac with c0High := true } }, ?_, muBoundary_mu _ _ _,
      handRecord_sameButRecord ⟨rfl, rfl, rfl, rfl, rfl, rfl, rfl, rfl, rfl, rfl, rfl⟩⟩
    refine (whileRunning_runs _ hrun : execC0Capture ⟨t, swing⟩ s = _).trans ?_
    simp [hcapture, hstarted]
  · exact ⟨_, onExpiry_due (id := .synthetic) _ hrun hdue, muBoundary_mu _ _ _,
      handRecord_sameButRecord ⟨rfl, rfl, rfl, rfl, rfl, rfl, rfl, rfl, rfl, rfl, rfl⟩⟩

/-- Settles O8: a boundary's command closes the cycle into its record, whose fields are R5's to R16's; before the unit has started a
capture only stamps. -/
theorem boundaryClosesCycle : Obligations.BoundaryClosesCycle := by
  refine ⟨fun t swing s kind c hphase hlen hc => ?_, fun t swing s hphase hstarted hcapture => ?_⟩
  · have hrun : s.runs = true := by simpa [State.runs] using hphase
    obtain ⟨u, hu, hmu, hsame⟩ := exec_boundary hrun hc
    have hf : (cycleRecord s t kind).f = windowFrequency (windowAfter s.mu.window (closingPeriod kind s.mu.capRef t)) := rfl
    have hperiod := closingPeriod_eq kind s.mu.capRef t
    dsimp only
    rw [← hperiod]
    refine ⟨u, cycleRecord s t kind, hu, by rw [hmu]; rfl, ?_, ⟨rfl, rfl, rfl, cycleRecord_periodValid s t kind, rfl⟩,
      fun hshort => ?_, fun hlong => ?_, ?_, rfl, rfl, cycleSync_isSome s t kind _, hsame⟩
    · have hcloses : (muCloseCycle t kind s).mu.window = windowAfter s.mu.window (closingPeriod kind s.mu.capRef t) := rfl
      rw [windowAfter_eq hlen] at hcloses
      rw [hmu]
      refine (congrArg (fun w => { (muCloseCycle t kind s).mu with window := w }) hcloses).trans ?_
      cases kind <;> rfl
    · obtain ⟨hbus, hsrc, hpower, hfeeder, havailable⟩ := cycleRecord_short t kind hshort
      obtain ⟨hbusCondition, hsrcCondition⟩ := cycleRecord_conditions_of_short t kind hshort
      refine ⟨hbus, hsrc, hpower, hfeeder, havailable, hbusCondition, hsrcCondition, ?_⟩
      rw [hmu]
      exact PeriodSums.add_of_none hpower
    · obtain ⟨hbus, hsrc, hpower, havailable, hfeeder⟩ := cycleRecord_long t kind hlong
      have hsums : u.mu.sums = s.mu.sums.add (cycleRecord s t kind) := by rw [hmu]; rfl
      rw [hsums]
      unfold PeriodSums.add
      rw [hpower, havailable]
      exact ⟨_, _, hbus, hsrc, rfl, clamp16_cast _, rfl, rfl, hfeeder, rfl, rfl, rfl, fun p => Quad.get_of _ p⟩
    · exact hf.trans ((congrArg windowFrequency (windowAfter_eq hlen _)).trans (windowFrequency_eq _))
  · have hrun : s.runs = true := by simpa [State.runs] using hphase
    refine (whileRunning_runs _ hrun : execC0Capture ⟨t, swing⟩ s = _).trans ?_
    simp only [hcapture, if_true]
    rw [if_neg (by simpa using hstarted)]
    rfl

end

section
variable {s : State} {t : Tick} {swing : Swing}

/-! ### The comparators of the captures, and the source window -/

/-- The nominal voltage of the comparators as an integer (R28). -/
def crossingVolts (s : State) : Int := match s.cr.params with | some p => p.station.nominalV | none => 400

theorem crossingVolts_eq (s : State) : crossingVolts s = (s.crossingV : Int) := by
  unfold crossingVolts State.crossingV
  cases s.cr.params <;> rfl

theorem fallsThrough_iff (x : Swing) (n : Nat) :
    fallsThrough x n = true ↔ x.low < 0 ∧ 200 * (n : Int) ^ 2 < x.low ^ 2 := by
  simp [fallsThrough, pow_two]

theorem risesThrough_iff (x : Swing) (n : Nat) :
    risesThrough x n = true ↔ 0 < x.high ∧ 200 * (n : Int) ^ 2 < x.high ^ 2 := by
  simp [risesThrough, pow_two]

theorem afterFall_iff (s : State) (high : Bool) (x : Swing) :
    s.afterFall high x = true ↔ high = true ∧ ¬ fallsThrough x s.crossingV = true := by
  simp [State.afterFall]

theorem exec_c0_noCapture (hrun : s.runs = true) (h : s.busCapture swing = false) :
    exec (.c0Capture ⟨t, swing⟩) s = .next { s with tac := { s.tac with c0High := s.afterFall s.tac.c0High swing } } := by
  refine (whileRunning_runs _ hrun : execC0Capture ⟨t, swing⟩ s = _).trans ?_
  simp [h]

theorem exec_c1_noCapture (hrun : s.runs = true) (h : s.sourceCapture swing = false) :
    exec (.c1Capture ⟨t, swing⟩) s = .next { s with tac := { s.tac with c1High := s.afterFall s.tac.c1High swing } } := by
  refine (whileRunning_runs _ hrun : execC1Capture ⟨t, swing⟩ s = _).trans ?_
  simp [h]

theorem exec_c1_capture (hrun : s.runs = true) (h : s.sourceCapture swing = true) :
    exec (.c1Capture ⟨t, swing⟩) s = .next (if s.mu.started = true then
      muSourceCapture t { s.stamp t with tac := { s.tac with c1High := true } }
    else { s.stamp t with tac := { s.tac with c1High := true } }) := by
  refine (whileRunning_runs _ hrun : execC1Capture ⟨t, swing⟩ s = _).trans ?_
  simp only [h, if_true, State.stamp]
  rfl

/-- A source period in the band joins the window, and any other empties it (R14). -/
theorem pushSourcePeriod_eq {w : List Nat} (h : w.length ≤ 4) (p : Nat) :
    (if periodInBand p then pushPeriod w p else []) =
      if 142857 ≤ p ∧ p ≤ 250000 then (if w.length < 4 then w else w.drop 1) ++ [p] else [] := by
  rw [pushPeriod_eq h]
  by_cases hp : 142857 ≤ p ∧ p ≤ 250000
  · rw [if_pos ((periodInBand_iff p).2 hp), if_pos hp]
  · rw [if_neg fun hband => hp ((periodInBand_iff p).1 hband), if_neg hp]

/-- Settles O10: a rise is a capture by the comparator's level and the swing, and a capture or the source timeout writes the window. -/
theorem sourceCapturesFormWindow : Obligations.SourceCapturesFormWindow := by
  refine ⟨rfl, rfl, fun m => windowFrequency_eq m.srcWindow, fun t swing s => ?_, fun t swing s hphase => ?_⟩
  · have hfell := fallsThrough_iff swing s.crossingV
    have hrose := risesThrough_iff swing s.crossingV
    have hfall := fun high => afterFall_iff s high swing
    change (_ ↔ (_ ∨ swing.low < 0 ∧ 200 * crossingVolts s ^ 2 < swing.low ^ 2) ∧ 0 < swing.high ∧ 200 * crossingVolts s ^ 2 < swing.high ^ 2) ∧
      (_ ↔ (_ ∨ swing.low < 0 ∧ 200 * crossingVolts s ^ 2 < swing.low ^ 2) ∧ 0 < swing.high ∧ 200 * crossingVolts s ^ 2 < swing.high ^ 2) ∧
      (_ → _ → ∃ b, (_ ↔ _ ∧ ¬ (swing.low < 0 ∧ 200 * crossingVolts s ^ 2 < swing.low ^ 2)) ∧ _) ∧
      (_ → _ → ∃ b, (_ ↔ _ ∧ ¬ (swing.low < 0 ∧ 200 * crossingVolts s ^ 2 < swing.low ^ 2)) ∧ _)
    rw [crossingVolts_eq, ← hfell, ← hrose]
    exact ⟨s.capturedFrom_iff _ _, s.capturedFrom_iff _ _,
      fun hphase hno => ⟨_, hfall _, exec_c0_noCapture (by simpa [State.runs] using hphase) hno⟩,
      fun hphase hno => ⟨_, hfall _, exec_c1_noCapture (by simpa [State.runs] using hphase) hno⟩⟩
  · have hrun : s.runs = true := by simpa [State.runs] using hphase
    refine ⟨fun hstarted hcapture => ?_, fun hstarted hcapture hlen => ?_, fun hdue => onExpiry_due (id := .source) _ hrun hdue⟩
    · rw [exec_c1_capture hrun hcapture, if_neg (by simpa using hstarted)]
      rfl
    · rw [exec_c1_capture hrun hcapture, if_pos hstarted]
      unfold muSourceCapture
      cases hr : s.mu.srcRef with
      | none =>
        simp only [hr, State.stamp]
        rfl
      | some r =>
        simp only [hr, State.stamp, pushSourcePeriod_eq hlen]
        rfl

end

end Sys2Proof.Machine
end

section
/-! SUPPORT. Pulses, windows and qualified inputs. -/

namespace Sys2Proof.Machine

section
variable {s t : State}

/-! ### What the set and its session leave -/

/-- The station with what the diesel sequencer and the arbitration session may write blotted out, but for the requests to the source
breaker, the intent slot, the ports and the source of a solar station. -/
def State.offSet (s : State) : State :=
  { s with
    ds := .reset
    bsc := { s.bsc with session := .idle }
    ret := { s.ret with run := false, lockout := false }
    tac := { s.tac with
      crank := .idle, pwm := 0, permitPull := false, permitEdges := false
      alarm := { s.tac.alarm with dieselFailed := false, permitStuck := false } } }

/-- The station with the island state and its record blotted out too. -/
def State.offIsland (s : State) : State :=
  { s.offSet with bsc := .reset, ret := { s.offSet.ret with darkTaken := false, wasClosed := .all false } }

theorem State.offIsland_of_offSet (h : s.offSet = t.offSet) : s.offIsland = t.offIsland := by
  unfold State.offIsland
  rw [h]

theorem offIsland_fl (h : s.offIsland = t.offIsland) : s.fl = t.fl := by have := congrArg State.fl h; exact this
theorem offIsland_sc (h : s.offIsland = t.offIsland) : s.sc = t.sc := by have := congrArg State.sc h; exact this
theorem offIsland_ilc (h : s.offIsland = t.offIsland) : s.ilc = t.ilc := by have := congrArg State.ilc h; exact this
theorem offIsland_kept (h : s.offIsland = t.offIsland) : s.kept = t.kept := by have := congrArg State.kept h; exact this
theorem offIsland_retPorts (h : s.offIsland = t.offIsland) : s.ret.ports = t.ret.ports := by
  have := congrArg (fun x : State => x.ret.ports) h; exact this
theorem offIsland_portFaulted (h : s.offIsland = t.offIsland) : s.tac.alarm.portFaulted = t.tac.alarm.portFaulted := by
  have := congrArg (fun x : State => x.tac.alarm.portFaulted) h; exact this
theorem offIsland_window (h : s.offIsland = t.offIsland) (b : Breaker) : s.window b = t.window b := by
  have := congrArg (fun x : State => x.window b) h
  cases b <;> exact this
theorem offIsland_pulse (h : s.offIsland = t.offIsland) {c : PulseChannel} (hc : c ≠ .crank) : s.pulse c = t.pulse c := by
  have := congrArg (fun x : State => x.pulse c) h
  cases c with
  | crank => exact absurd rfl hc
  | _ => exact this
theorem offSet_bsc (h : s.offSet = t.offSet) : s.bsc = { t.bsc with session := s.bsc.session } := by
  have hbsc := congrArg State.bsc h
  change { s.bsc with session := Session.idle } = { t.bsc with session := Session.idle } at hbsc
  have hwith := congrArg (fun x : Bsc => { x with session := s.bsc.session }) hbsc
  exact hwith

variable (s)

@[simp] theorem State.offSet_putSession (x : Session) : (s.putSession x).offSet = s.offSet := rfl
@[simp] theorem State.offSet_putDieselTimers (x : DieselTimers) : (s.putDieselTimers x).offSet = s.offSet := rfl
@[simp] theorem State.offSet_writeRun (b : Bool) : (s.writeRun b).offSet = s.offSet := rfl
@[simp] theorem State.offSet_ds (d : Ds) : State.offSet { s with ds := d } = s.offSet := rfl
@[simp] theorem State.offSet_cutCrank : (s.cut .crank).offSet = s.offSet := rfl
@[simp] theorem State.offSet_requestCrank (w : Nat) : (s.requestCrank w).offSet = s.offSet := by
  obtain ⟨-, h⟩ | ⟨-, h⟩ := s.requestCrank_cases w <;> rw [h]
  rfl
@[simp] theorem State.offSet_drivePermit (b : Bool) : (s.drivePermit b).offSet = s.offSet := rfl
@[simp] theorem State.offSet_setPermitEdges (b : Bool) : (s.setPermitEdges b).offSet = s.offSet := rfl
@[simp] theorem State.offSet_permitStuck (b : Bool) : (s.setAlarm .permitStuck b).offSet = s.offSet := rfl
@[simp] theorem State.offSet_dieselFailed (b : Bool) : (s.setAlarm .dieselFailed b).offSet = s.offSet := rfl
@[simp] theorem State.offSet_writeLockout (b : Bool) : (s.writeLockout b).offSet = s.offSet := rfl
@[simp] theorem setBias_offSet (v : Int) : (setBias v s).offSet = s.offSet := rfl
@[simp] theorem sessionEnd_offSet : (sessionEnd s).offSet = s.offSet := by simp [sessionEnd]
@[simp] theorem startGuard_offSet (origin : GuardOrigin) : (startGuard origin s).offSet = s.offSet := rfl
@[simp] theorem startHold_offSet : (startHold s).offSet = s.offSet := rfl
@[simp] theorem dropIntent_offSet : (dropIntent s).offSet = s.offSet := rfl
@[simp] theorem bscWithdraw_offSet : (bscWithdraw s).offSet = s.offSet := by
  unfold bscWithdraw
  split
  · exact sessionEnd_offSet s
  · rfl
@[simp] theorem bscRequest_offSet : (bscRequest s).2.offSet = s.offSet := by
  simp only [bscRequest]
  (repeat' split) <;> rfl
@[simp] theorem bscConfirmed_offSet : (bscConfirmed s).offSet = s.offSet := by
  simp only [bscConfirmed]
  (repeat' split) <;> rfl
@[simp] theorem bscCloseFailed_offSet : (bscCloseFailed s).offSet = s.offSet := by
  unfold bscCloseFailed
  split
  · exact sessionEnd_offSet s
  · rfl
@[simp] theorem bscHoldLive_offSet : (bscHoldLive s).offSet = s.offSet := by
  unfold bscHoldLive
  split <;> rfl
@[simp] theorem dsEnter_offSet (st : DieselState) : (dsEnter st s).offSet = s.offSet := by
  simp only [dsEnter]
  split
  · exact (State.offSet_ds (sessionEnd s) _).trans (sessionEnd_offSet s)
  · rfl
@[simp] theorem dsWithdraw_offSet : (dsWithdraw s).offSet = s.offSet := by
  unfold dsWithdraw
  split
  · exact bscWithdraw_offSet s
  · rfl
@[simp] theorem dsEnterFailed_offSet : (dsEnterFailed s).offSet = s.offSet := by
  simp only [dsEnterFailed, State.offSet_writeLockout, State.offSet_dieselFailed, setBias_offSet, State.offSet_ds,
    State.offSet_writeRun, State.offSet_cutCrank, dsEnter_offSet]
@[simp] theorem dsEnterOff_offSet : (dsEnterOff s).offSet = s.offSet := (dsEnter_offSet s .off :)
@[simp] theorem dsEnterSpool_offSet : (dsEnterSpool s).offSet = s.offSet := (dsEnter_offSet s .spool :)
@[simp] theorem dsEnterSync_offSet : (dsEnterSync s).offSet = s.offSet := (dsEnter_offSet s .sync :)
@[simp] theorem dsBackOnline_offSet : (dsBackOnline s).offSet = s.offSet := (dsEnter_offSet s .online :)
@[simp] theorem dsAbandonUnload_offSet : (dsAbandonUnload s).offSet = s.offSet := (dsEnter_offSet s .online :)
@[simp] theorem dsEnterCrank_offSet : (dsEnterCrank s).offSet = s.offSet := by
  have h : ((setBias 0 (dsEnter .crank s)).writeRun true).offSet = s.offSet := by simp
  simp only [dsEnterCrank]
  split
  · rw [dsEnterSpool_offSet, h]
  · rw [State.offSet_requestCrank, ← h]
    rfl
@[simp] theorem dsStartAtDark_offSet : (dsStartAtDark s).offSet = s.offSet := by
  simp only [dsStartAtDark, dsEnterCrank_offSet]
  rfl
@[simp] theorem dsEnterStandby_offSet : (dsEnterStandby s).offSet = s.offSet := by
  simp only [dsEnterStandby]
  split <;> simp
@[simp] theorem dsEnterArbitrate_offSet : (dsEnterArbitrate s).offSet = s.offSet := by
  have h : (bscRequest (setBias 0 (dsEnter .arbitrate s))).2.offSet = s.offSet := by simp
  unfold dsEnterArbitrate
  split
  next _ u hu => rw [hu] at h; simpa using h
  next _ u hu => rw [hu] at h; exact h
@[simp] theorem dsJudgeSpool_offSet : (dsJudgeSpool s).offSet = s.offSet := by
  unfold dsJudgeSpool
  (repeat' split) <;> simp

/-- A change of island state but that to DARK moves the set alone. -/
theorem dsIslandChange_offSet (h : s.bsc.island ≠ some .dark) : (dsIslandChange s).offSet = s.offSet := by
  have hquiet : (if s.islandUp then s else { s with ds := { s.ds with needSince := none } }).bsc = s.bsc := by split <;> rfl
  simp only [dsIslandChange, hquiet, h, if_false]
  (repeat' split) <;> simp

@[simp] theorem bscEnterLive_offIsland : (bscEnterLive s).offIsland = s.offIsland := by
  have h : (bscEnterLive s).offSet = ((clearPreDark (s.cancel .recover)).setIsland .live).offSet := by
    rw [bscEnterLive, bscHoldLive_offSet, dsIslandChange_offSet _ (by simp [State.setIsland])]
  exact (State.offIsland_of_offSet h).trans rfl
@[simp] theorem bscLook_offIsland : (bscLook s).offIsland = s.offIsland := by
  unfold bscLook
  split
  · exact bscEnterLive_offIsland s
  · rfl

end

section
variable {s u v : State} {t : Tick}

/-! ### The state FAILED, and a change of a port's state -/

theorem dsEnter_ds (st : DieselState) (s : State) : (dsEnter st s).ds = s.ds.enter st := by
  simp only [dsEnter]
  split <;> rfl

theorem State.level_eq (h : u.tac.inputs = v.tac.inputs) (i : InputLine) : u.level i = v.level i := by
  simp [State.level, h]

theorem State.asserted_eq (h : u.tac.inputs = v.tac.inputs) (i : InputLine) : u.asserted i = v.asserted i := by
  simp [State.asserted, State.level_eq h]

/-- The diesel record as FAILED leaves it (R119). -/
theorem dsEnterFailed_ds (s : State) : (dsEnterFailed s).ds = { s.ds.enter .failed with
    bias := 0, intent := none, forcedStop := false, inhibitSeen := s.asserted .inhibit
    timers := { DieselTimers.stopped with loss := s.ds.timers.loss } } := by
  have hinputs : (dsEnter .failed s).tac.inputs = s.tac.inputs := kept_inputs (dsEnter_kept s .failed)
  have hds := dsEnter_ds .failed s
  change { (dsEnter .failed s).ds with
    bias := 0, intent := none, forcedStop := false, inhibitSeen := (dsEnter .failed s).asserted .inhibit
    timers := { DieselTimers.stopped with loss := (dsEnter .failed s).ds.timers.loss } } = _
  rw [hds, State.asserted_eq hinputs]
  rfl

/-- The lines and the lockout as FAILED leaves them (R119). -/
theorem dsEnterFailed_lines (s : State) : (dsEnterFailed s).tac.pwm = 0 ∧ (dsEnterFailed s).pulse .crank = .idle ∧
    (dsEnterFailed s).tac.alarm.dieselFailed = true ∧ (dsEnterFailed s).ret.lockout = true ∧ (dsEnterFailed s).ret.run = false :=
  ⟨rfl, rfl, rfl, rfl, rfl⟩

theorem flEnter_offIsland (p : Port) (st : PortState) (dest : Option Destination) (cause : Option ShedCause) (s : State) :
    (flEnter p st dest cause s).offIsland = (portEntered p st dest cause s).offIsland := by
  rw [flEnter_eq, bscLook_offIsland]

theorem flEnter_pulse (p : Port) (st : PortState) (dest : Option Destination) (cause : Option ShedCause) (s : State)
    {c : PulseChannel} (hc : c ≠ .crank) : (flEnter p st dest cause s).pulse c = s.pulse c :=
  (offIsland_pulse (flEnter_offIsland p st dest cause s) hc).trans (by cases c <;> rfl)

theorem flEnter_window (p : Port) (st : PortState) (dest : Option Destination) (cause : Option ShedCause) (s : State) (b : Breaker) :
    (flEnter p st dest cause s).window b = s.window b :=
  (offIsland_window (flEnter_offIsland p st dest cause s) b).trans (by cases b <;> rfl)

theorem flEnter_retained (p : Port) (st : PortState) (dest : Option Destination) (cause : Option ShedCause) (s : State) :
    (flEnter p st dest cause s).ret.ports.get p = some (st, cause) := by
  rw [offIsland_retPorts (flEnter_offIsland p st dest cause s)]
  exact Quad.get_set_same _ _ _

theorem flEnter_portFaulted (p : Port) (st : PortState) (dest : Option Destination) (cause : Option ShedCause) (s : State) :
    (flEnter p st dest cause s).tac.alarm.portFaulted.get p = (st == .faulted) := by
  rw [offIsland_portFaulted (flEnter_offIsland p st dest cause s)]
  exact Quad.get_set_same _ _ _

/-- A state in which ripeness does not count leaves its timer STOPPED (R151). -/
theorem State.ripenessOf_eq_stopped {p : Port} {st : PortState} {cause : Option ShedCause} (s : State)
    (h : ripenessTicks s.par.restore st cause = none) : s.ripenessOf p st cause = .stopped := by
  simp [State.ripenessOf, h]

/-! ### The ends of pulses and windows -/

theorem Quad.set_set {α : Type} (q : Quad α) (p : Port) (a b : α) : (q.set p a).set p b = q.set p b := by cases p <;> rfl

theorem State.putPulse_cancel (c : PulseChannel) (s : State) : (s.cancel (.pulse c)).putPulse c .idle = s.putPulse c .idle := by
  cases c <;> simp [State.cancel, State.putTimer, State.putPulse, Quad.set_set]

theorem State.putWindow_cancel (b : Breaker) (s : State) : (s.cancel (.confirm b)).putWindow b .closedOut = s.putWindow b .closedOut := by
  cases b <;> simp [State.cancel, State.putTimer, State.putWindow, Quad.set_set]

theorem State.window_cancel (b : Breaker) (s : State) : (s.cancel (.confirm b)).window b = (s.window b).withTimer .stopped :=
  State.window_putWindow_same s b _

theorem exec_pulseEnded {c : PulseChannel} (h : s.due (.pulse c) t) :
    exec (.pulseTimerExpiry c) s = .next (reportEnded c ((s.stamp t).putPulse c .idle)) := by
  obtain ⟨hrun, hdue⟩ := h
  refine (onExpiry_due (id := .pulse c) _ hrun hdue).trans ?_
  rw [tacPulseEnded, State.putPulse_cancel]

theorem exec_notConfirmed {b : Breaker} {r : Requester} {closed : Bool} {x : Timer} (h : s.due (.confirm b) t)
    (hw : s.window b = .watching r closed x) :
    exec (.confirmTimerExpiry b) s = .next (reportNotConfirmed r b ((s.stamp t).putWindow b .closedOut)) := by
  obtain ⟨hrun, hdue⟩ := h
  have hcancel : ((s.stamp t).cancel (.confirm b)).window b = .watching r closed .stopped := by
    rw [State.window_cancel, show (s.stamp t).window b = s.window b by cases b <;> rfl, hw]
    rfl
  refine (onExpiry_due (id := .confirm b) _ hrun hdue).trans ?_
  rw [tacNotConfirmed, hcancel]
  simp only [State.putWindow_cancel]

end

section
variable {s u v : State} {p q : Port} {r : PortRecord} {dest : Destination}

/-! ### One port and its breaker -/

/-- A port's record, its two channels and its window. -/
def State.portSide (s : State) (q : Port) : Option PortRecord × Pulse × Pulse × Window :=
  (s.port q, s.pulse (.feederClose q), s.pulse (.feederTrip q), s.window (.feeder q))

theorem State.portSide_eq (hport : u.port q = s.port q) (hclose : u.pulse (.feederClose q) = s.pulse (.feederClose q))
    (htrip : u.pulse (.feederTrip q) = s.pulse (.feederTrip q)) (hwindow : u.window (.feeder q) = s.window (.feeder q)) :
    u.portSide q = s.portSide q := by
  unfold State.portSide
  rw [hport, hclose, htrip, hwindow]

theorem portSide_of_offIsland (h : u.offIsland = s.offIsland) (q : Port) : u.portSide q = s.portSide q :=
  State.portSide_eq (congrArg (fun x : Fl => x.ports.get q) (offIsland_fl h)) (offIsland_pulse h nofun) (offIsland_pulse h nofun)
    (offIsland_window h _)

theorem portSide_of_sameButBreaker {b : Breaker} (h : s.SameButBreaker b u) (hb : b ≠ .feeder q) : u.portSide q = s.portSide q := by
  refine State.portSide_eq (congrArg (fun x : Fl => x.ports.get q) h.fl) (h.1 _ ?_ ?_) (h.1 _ ?_ ?_) (h.2.1 _ hb.symm) <;>
    cases b <;> simp_all [closeChannel, tripChannel, eq_comm]

theorem State.portSide_modifyPort_other (hq : q ≠ p) (g : PortRecord → PortRecord) (s : State) :
    (s.modifyPort p g).portSide q = s.portSide q :=
  State.portSide_eq (State.port_modifyPort_other hq g) rfl rfl rfl

theorem flEnter_portSide (hq : q ≠ p) (st : PortState) (dest : Option Destination) (cause : Option ShedCause) (s : State) :
    (flEnter p st dest cause s).portSide q = s.portSide q :=
  State.portSide_eq (flEnter_port_other hq st dest cause s) (flEnter_pulse _ _ _ _ _ nofun) (flEnter_pulse _ _ _ _ _ nofun)
    (flEnter_window _ _ _ _ _ _)

theorem flEnter_portSide_same (p : Port) (st : PortState) (dest : Option Destination) (cause : Option ShedCause) (s : State) :
    (flEnter p st dest cause s).portSide p =
      ((s.port p).map (·.entered st dest cause s.tb (s.ripenessOf p st cause)), (s.portSide p).2) :=
  congrArg₂ Prod.mk (flEnter_port_same p st dest cause s) (congrArg₂ Prod.mk (flEnter_pulse _ _ _ _ _ nofun)
    (congrArg₂ Prod.mk (flEnter_pulse _ _ _ _ _ nofun) (flEnter_window _ _ _ _ _ _)))

theorem State.portSide_modifyPort_same (p : Port) (g : PortRecord → PortRecord) (s : State) :
    (s.modifyPort p g).portSide p = ((s.port p).map g, (s.portSide p).2) :=
  congrArg₂ Prod.mk (State.port_modifyPort_same p g) rfl

/-- Where no more is written than the queue of frames, the swap and the step spacing, a port stands. -/
theorem flAnnounceStep_portSide (p q : Port) (s : State) : (flAnnounceStep p s).portSide q = s.portSide q := by
  unfold flAnnounceStep
  obtain ⟨-, h⟩ | ⟨-, h⟩ := s.placeFrame_cases .step (stepPayload p.num (s.par.port.get p).shedRank (s.coldLoadKw p)) <;> rw [h] <;> rfl

theorem flClose_portSide (hq : q ≠ p) (s : State) : (flClose p s).2.portSide q = s.portSide q := by
  unfold flClose
  split
  · split
    next _ confirmed v hv =>
      have hside : v.portSide q = s.portSide q := portSide_of_sameButBreaker (sameButBreaker_of_requestClose hv) (by simpa using hq.symm)
      dsimp only
      split
      · rw [flCloseConfirmed, flEnter_portSide hq, flEnter_portSide hq, State.portSide_modifyPort_other hq, hside]
      · rw [flEnter_portSide hq, State.portSide_modifyPort_other hq, hside]
    next v _ hv => exact portSide_of_sameButBreaker (sameButBreaker_of_requestClose hv) (by simpa using hq.symm)
  · rfl

theorem flSwapClose_portSide {w : Swap} (hq : q ≠ w.closePort) (s : State) : (flSwapClose w s).portSide q = s.portSide q := by
  have hclose := flClose_portSide hq { s with fl := { s.fl with swap := some { w with step := .closing } } }
  unfold flSwapClose
  dsimp only
  split
  next v hv =>
    rw [hv] at hclose
    rw [flAnnounceStep_portSide]
    exact hclose
  next v hv =>
    rw [hv] at hclose
    exact hclose

theorem Swap.onChange_eq_some {w w' : Swap} {st : PortState} (h : w.onChange p st = some w') : w' = w := by
  unfold Swap.onChange at h
  split at h
  · cases h
  · split at h
    · split at h <;> split at h <;> first | exact (Option.some.inj h).symm | cases h
    · split at h
      · cases h
      · exact (Option.some.inj h).symm

theorem flEnter_swap (st : PortState) (dest : Option Destination) (cause : Option ShedCause) (s : State) :
    (flEnter p st dest cause s).fl.swap = s.fl.swap.bind (·.onChange p st) :=
  congrArg Fl.swap (offIsland_fl (flEnter_offIsland p st dest cause s))

theorem flEnter_swap_eq_some {w : Swap} {st : PortState} {dest : Option Destination} {cause : Option ShedCause}
    (h : (flEnter p st dest cause s).fl.swap = some w) : s.fl.swap = some w := by
  rw [flEnter_swap, Option.bind_eq_some_iff] at h
  obtain ⟨w', hw', hchange⟩ := h
  rw [Swap.onChange_eq_some hchange, hw']

/-- The state and the shed cause that a confirmed opening gives a port (R137). -/
def Destination.state : Destination → PortState
  | .shed _ => .shed
  | .blackOpen => .blackOpen
def Destination.cause : Destination → Option ShedCause
  | .shed cause => some cause
  | .blackOpen => none

/-- A confirmed opening makes the port its destination, but for what a swap goes on to do with another. -/
theorem flOpenConfirmed_portSide (hdest : (s.port p).bind (·.destination) = some dest)
    (hswap : ∀ w, s.fl.swap = some w → dest = .shed .rotation → q ≠ w.closePort) :
    (flOpenConfirmed p s).portSide q = (flEnter p dest.state none dest.cause s).portSide q := by
  unfold flOpenConfirmed
  rw [hdest]
  cases dest with
  | blackOpen => rfl
  | shed cause =>
    dsimp only
    split
    next w hw =>
      split
      next hrotation =>
        simp only [Bool.and_eq_true, decide_eq_true_eq] at hrotation
        exact flSwapClose_portSide (hswap w (flEnter_swap_eq_some hw) (by rw [hrotation.2])) _
      · rfl
    · rfl

end

section
variable {s u v : State} {p q : Port} {r : PortRecord} {dest : Destination}

/-! ### A trip of a port -/

/-- A port whose trip may be requested: it is CLOSED or CLOSING and not LOCAL-held (R138). -/
def PortRecord.trippable (r : PortRecord) : Prop := (r.state = .closed ∨ r.state = .closing) ∧ r.localHeld = false

/-- The width of a pulse but the crank pulse in ticks (R22). -/
def pulseTicks (w : Nat) : Nat := if w < 50 then 500000 else if 1000 < w then 10000000 else w * 10000

theorem flTrip_condition (hport : s.port p = some r) :
    (s.isClosedOrClosing p && !((s.port p).map (·.localHeld)).getD true) = true ↔ r.trippable := by
  simp [State.isClosedOrClosing, State.portState, hport, PortRecord.trippable]

theorem flTrip_of_not_trippable (hport : s.port p = some r) (h : ¬ r.trippable) (dest : Destination) : flTrip p dest s = (false, s) := by
  unfold flTrip
  exact if_neg fun hcond => h ((flTrip_condition hport).1 hcond)

theorem localRefuses_feeder : s.localRefuses (.feeder p) = true ↔ s.level (.feederLocal p) = .asserted := by
  simp [State.localRefuses, State.asserted]

/-- A trip asked for while the port's trip pulse runs is owed (R138). -/
theorem flTrip_of_active (hport : s.port p = some r) (hr : r.trippable) (hlocal : s.level (.feederLocal p) ≠ .asserted)
    (hactive : (s.pulse (.feederTrip p)).isActive = true) (dest : Destination) :
    flTrip p dest s = (false, s.modifyPort p fun r => { r with tripOwed := some dest }) := by
  have hrefuses : s.localRefuses (.feeder p) = false := by
    rw [← Bool.not_eq_true, localRefuses_feeder]
    exact hlocal
  unfold flTrip
  rw [if_pos ((flTrip_condition hport).2 hr), State.requestTrip_of_trip_active hrefuses hactive]

theorem sameButBreaker_port {b : Breaker} (h : s.SameButBreaker b v) (q : Port) : v.port q = s.port q :=
  congrArg (fun x : Fl => x.ports.get q) h.fl

theorem sameButBreaker_requestTrip (s : State) (b : Breaker) (r : Requester) (w : Nat) (confirm : Bool) :
    s.SameButBreaker b (s.requestTrip b r w confirm).2 :=
  sameButBreaker_of_requestTrip (a := (s.requestTrip b r w confirm).1) rfl

/-- The request of a trip that is taken: the pulse and the window that it leaves (R22, R24, R26). -/
theorem requestTrip_taken {b : Breaker} (hlocal : s.localRefuses b = false) (hidle : (s.pulse (tripChannel b)).isActive = false)
    (r : Requester) (w : Nat) : ∃ v, s.requestTrip b r w true =
        (⟨.started, (s.pulse (closeChannel b)).isActive, decide (s.level (positionInput b) = .released)⟩, v) ∧
      s.SameButBreaker b v ∧ v.pulse (closeChannel b) = .idle ∧ v.pulse (tripChannel b) = .active r (.running s.tb (pulseTicks w)) ∧
      v.window b = if s.level (positionInput b) = .released then .closedOut
        else .watching r false (.running s.tb (s.par.diesel.confirmTime * 10000)) := by
  have heq := State.requestTrip_of_idle hlocal hidle r w true
  obtain ⟨hthere, hwatch⟩ := State.windowOpened_requestTrip hlocal hidle r w
  have hcut := s.sameButBreaker_closeCut b
  have hsame : s.SameButBreaker b (((s.closeCut b).beginPulse (tripChannel b) r w).openWindowIf true b r false).2 :=
    hcut.request (.inr rfl) r w true false
  have hclose : (((s.closeCut b).beginPulse (tripChannel b) r w).openWindowIf true b r false).2.pulse (closeChannel b) = .idle := by
    rw [State.pulse_openWindowIf, State.pulse_beginPulse_other _ _ _ (closeChannel_ne_tripChannel b b), State.pulse_closeCut]
  have htrip : (((s.closeCut b).beginPulse (tripChannel b) r w).openWindowIf true b r false).2.pulse (tripChannel b) =
      .active r (.running s.tb (pulseTicks w)) := by
    rw [State.pulse_openWindowIf, State.pulse_beginPulse_same _ _ _ (tripChannel_ne_crank b), hcut.tb]
    rfl
  rw [heq] at hthere hwatch ⊢
  generalize ((s.closeCut b).beginPulse (tripChannel b) r w).openWindowIf true b r false = x at *
  obtain ⟨confirmed, v⟩ := x
  dsimp only at *
  refine ⟨v, ?_, hsame, hclose, htrip, ?_⟩
  · by_cases h : s.level (positionInput b) = .released
    · rw [(hthere h).1, decide_eq_true h]
    · rw [(hwatch h).1, decide_eq_false h]
  · split_ifs with h
    · exact (hthere h).2
    · exact (hwatch h).2

theorem requestTrip_feeder (hlocal : s.level (.feederLocal p) ≠ .asserted) (hidle : (s.pulse (.feederTrip p)).isActive = false)
    (w : Nat) : ∃ v, s.requestTrip (.feeder p) .fl w true =
        (⟨.started, (s.pulse (.feederClose p)).isActive, decide (s.level (.feederCb p) = .released)⟩, v) ∧
      s.SameButBreaker (.feeder p) v ∧
      v.portSide p = (s.port p, .idle, .active .fl (.running s.tb (pulseTicks w)), if s.level (.feederCb p) = .released then .closedOut
        else .watching .fl false (.running s.tb (s.par.diesel.confirmTime * 10000))) := by
  have hrefuses : s.localRefuses (.feeder p) = false := by
    rw [← Bool.not_eq_true, localRefuses_feeder]
    exact hlocal
  obtain ⟨v, hv, hsame, hclose, htrip, hwindow⟩ := requestTrip_taken hrefuses hidle .fl w
  exact ⟨v, hv, hsame, congrArg₂ Prod.mk (sameButBreaker_port hsame p) (congrArg₂ Prod.mk hclose (congrArg₂ Prod.mk htrip hwindow))⟩

/-- The state in which a port's trip has begun and the port is OPENING. -/
def openingOf (p : Port) (dest : Destination) (s : State) : State :=
  flEnter p .opening (some dest) none ((s.requestTrip (.feeder p) .fl (s.par.port.get p).pulseWidth true).2.modifyPort p
    fun r => { r with closeActive := r.closeActive && !(s.pulse (.feederClose p)).isActive })

/-- The record of a port whose trip has begun. -/
def State.openingRecord (s : State) (p : Port) (r : PortRecord) (dest : Destination) : PortRecord :=
  { r with
    state := .opening, destination := some dest, shedCause := none, lastChange := s.tb, ripe := false, ripeness := .stopped
    closeActive := r.closeActive && !(s.pulse (.feederClose p)).isActive }

/-- A trip that is taken: the port is OPENING, and goes on to its destination where its breaker is already released (R138, R139). -/
theorem flTrip_of_idle (hport : s.port p = some r) (hr : r.trippable) (hlocal : s.level (.feederLocal p) ≠ .asserted)
    (hidle : (s.pulse (.feederTrip p)).isActive = false) (dest : Destination) :
    flTrip p dest s =
      (true, if s.level (.feederCb p) = .released then flOpenConfirmed p (openingOf p dest s) else openingOf p dest s) := by
  obtain ⟨v, hv, -⟩ := requestTrip_feeder hlocal hidle (s.par.port.get p).pulseWidth
  unfold flTrip openingOf
  rw [if_pos ((flTrip_condition hport).2 hr), hv]
  by_cases h : s.level (.feederCb p) = .released <;> simp [h]

theorem openingOf_portSide (hport : s.port p = some r) (hlocal : s.level (.feederLocal p) ≠ .asserted)
    (hidle : (s.pulse (.feederTrip p)).isActive = false) (dest : Destination) :
    (openingOf p dest s).portSide p = (some (s.openingRecord p r dest), .idle,
      .active .fl (.running s.tb (pulseTicks (s.par.port.get p).pulseWidth)), if s.level (.feederCb p) = .released then .closedOut
        else .watching .fl false (.running s.tb (s.par.diesel.confirmTime * 10000))) := by
  obtain ⟨v, hv, hsame, hside⟩ := requestTrip_feeder hlocal hidle (s.par.port.get p).pulseWidth
  have hport' : v.port p = some r := (sameButBreaker_port hsame p).trans hport
  unfold openingOf
  rw [hv, flEnter_portSide_same, State.ripenessOf_eq_stopped _ rfl, State.portSide_modifyPort_same, State.port_modifyPort_same, hport',
    hside, show (v.modifyPort p _).tb = s.tb from hsame.tb]
  rfl

theorem openingOf_portSide_other (hq : q ≠ p) (dest : Destination) (s : State) : (openingOf p dest s).portSide q = s.portSide q := by
  unfold openingOf
  rw [flEnter_portSide hq, State.portSide_modifyPort_other hq]
  exact portSide_of_sameButBreaker (sameButBreaker_requestTrip s (.feeder p) _ _ _) (by simpa using hq.symm)

theorem openingOf_swap_eq_some {w : Swap} (h : (openingOf p dest s).fl.swap = some w) : s.fl.swap = some w := by
  have hsame := (sameButBreaker_requestTrip s (.feeder p) .fl (s.par.port.get p).pulseWidth true).fl
  have hswap := flEnter_swap_eq_some h
  rw [← hsame]
  exact hswap

/-- A trip leaves every other port and its breaker, but the one that a rotation swap goes on to close. -/
theorem flTrip_portSide_other (hq : q ≠ p) (hswap : ∀ w, s.fl.swap = some w → dest = .shed .rotation → q ≠ w.closePort) :
    (flTrip p dest s).2.portSide q = s.portSide q := by
  cases hport : s.port p with
  | none =>
    unfold flTrip
    rw [if_neg (by simp [State.isClosedOrClosing, State.portState, hport])]
  | some r =>
    by_cases hr : r.trippable
    · by_cases hlocal : s.level (.feederLocal p) = .asserted
      · unfold flTrip
        rw [if_pos ((flTrip_condition hport).2 hr), (State.requests_of_localRefuses (localRefuses_feeder.2 hlocal) _ _ _).2]
      · cases hidle : (s.pulse (.feederTrip p)).isActive with
        | true =>
          rw [flTrip_of_active hport hr hlocal hidle]
          exact State.portSide_modifyPort_other hq _ s
        | false =>
          have hopening := openingOf_portSide hport hlocal hidle dest
          rw [flTrip_of_idle hport hr hlocal hidle]
          dsimp only
          split
          · have hdest : ((openingOf p dest s).port p).bind (·.destination) = some dest := by
              rw [show (openingOf p dest s).port p = some (s.openingRecord p r dest) from congrArg Prod.fst hopening]
              rfl
            rw [flOpenConfirmed_portSide hdest (fun w hw => hswap w (openingOf_swap_eq_some hw)), flEnter_portSide hq,
              openingOf_portSide_other hq]
          · exact openingOf_portSide_other hq dest s
    · rw [flTrip_of_not_trippable hport hr]

/-- The port and its breaker after a trip that is taken with the breaker not yet released (R138). -/
theorem flTrip_portSide_opening (hport : s.port p = some r) (hr : r.trippable) (hlocal : s.level (.feederLocal p) ≠ .asserted)
    (hidle : (s.pulse (.feederTrip p)).isActive = false) (hlevel : s.level (.feederCb p) ≠ .released) (dest : Destination) :
    (flTrip p dest s).1 = true ∧ (flTrip p dest s).2.portSide p = (some (s.openingRecord p r dest), .idle,
      .active .fl (.running s.tb (pulseTicks (s.par.port.get p).pulseWidth)),
      .watching .fl false (.running s.tb (s.par.diesel.confirmTime * 10000))) := by
  have hopening := openingOf_portSide hport hlocal hidle dest
  rw [if_neg hlevel] at hopening
  rw [flTrip_of_idle hport hr hlocal hidle, if_neg hlevel]
  exact ⟨rfl, hopening⟩

/-- The port and its breaker after a trip that is taken with the breaker already released (R138, R139). -/
theorem flTrip_portSide_opened (hport : s.port p = some r) (hr : r.trippable) (hlocal : s.level (.feederLocal p) ≠ .asserted)
    (hidle : (s.pulse (.feederTrip p)).isActive = false) (hlevel : s.level (.feederCb p) = .released)
    (hswap : ∀ w, s.fl.swap = some w → dest = .shed .rotation → p ≠ w.closePort) :
    (flTrip p dest s).1 = true ∧ ∃ ripeness, (flTrip p dest s).2.portSide p =
      (some ((s.openingRecord p r dest).entered dest.state none dest.cause s.tb ripeness), .idle,
        .active .fl (.running s.tb (pulseTicks (s.par.port.get p).pulseWidth)), .closedOut) := by
  have hopening := openingOf_portSide hport hlocal hidle dest
  rw [if_pos hlevel] at hopening
  have hp : (openingOf p dest s).port p = some (s.openingRecord p r dest) := congrArg Prod.fst hopening
  have hdest : ((openingOf p dest s).port p).bind (·.destination) = some dest := by
    rw [hp]
    rfl
  have htb : (openingOf p dest s).tb = s.tb := kept_tb (by simp [openingOf])
  refine ⟨by rw [flTrip_of_idle hport hr hlocal hidle], (openingOf p dest s).ripenessOf p dest.state dest.cause, ?_⟩
  rw [flTrip_of_idle hport hr hlocal hidle, if_pos hlevel,
    flOpenConfirmed_portSide hdest (fun w hw => hswap w (openingOf_swap_eq_some hw)), flEnter_portSide_same, hp, hopening, htb]
  rfl

end

section
variable {s u v : State} {t : Tick} {p : Port} {r : PortRecord} {dest : Destination}

/-! ### Pulses and windows that end -/

theorem dsEnter_of_not_online (st : DieselState) (h : s.ds.state ≠ some .online) : dsEnter st s = { s with ds := s.ds.enter st } := by
  have honline : s.dieselIs .online = false := by simpa [State.dieselIs] using h
  simp [dsEnter, honline]

theorem dsCrankEnded_of_crank (h : s.ds.state = some .crank) : dsCrankEnded s = { s with ds := { s.ds with
    state := some .rest, needSince := none, deadBusClose := false, closingInhibit := false, deadBusOnline := false
    timers := { s.ds.timers with rest := .running s.tb (s.par.diesel.restTime * 10000000) } } } := by
  rw [dsCrankEnded, if_pos (by simp [State.dieselIs, h]), dsEnter_of_not_online _ (by simp [h])]
  simp [State.start, State.putTimer, State.putDieselTimers, Ds.enter, sec, State.par]

/-- Another end of a pulse than that of a crank pulse in CRANK and of a feeder's channel does nothing to the set. -/
theorem dsCrankEnded_of_not_crank (h : s.ds.state ≠ some .crank) : dsCrankEnded s = s := by
  rw [dsCrankEnded, if_neg (by simpa [State.dieselIs] using h)]

theorem flTripEnded_of_owed (hport : s.port p = some r) (howed : r.tripOwed = some dest) :
    flTripEnded p s = (flTrip p dest s).2.modifyPort p fun r => { r with tripOwed := none } := by
  unfold flTripEnded
  rw [hport]
  simp [howed]

theorem flTripEnded_of_not_owed (h : ∀ r, s.port p = some r → r.tripOwed = none) : flTripEnded p s = s := by
  unfold flTripEnded
  cases hport : s.port p with
  | none => rfl
  | some r => simp [h r hport]

theorem State.modifyPort_eq (hport : s.port p = some r) (g : PortRecord → PortRecord) :
    s.modifyPort p g = { s with fl := { s.fl with ports := s.fl.ports.set p (some (g r)) } } := by
  have hget : s.fl.ports.get p = some r := hport
  simp [State.modifyPort, Fl.modify, hget]

/-- A port becomes FAULTED (R139). -/
theorem flFaulted_leaves (hport : s.port p = some r) :
    (flEnter p .faulted none none s).port p = some { r with
      state := .faulted, destination := none, shedCause := none, lastChange := s.tb, ripe := false, ripeness := .stopped } ∧
      (∀ b, (flEnter p .faulted none none s).window b = s.window b) ∧ (flEnter p .faulted none none s).ret.ports.get p = some (.faulted, none) ∧
      (flEnter p .faulted none none s).tac.alarm.portFaulted.get p = true ∧
      (∀ q, q ≠ p → (flEnter p .faulted none none s).port q = s.port q) ∧
      (∀ c, c ≠ .crank → (flEnter p .faulted none none s).pulse c = s.pulse c) ∧ (flEnter p .faulted none none s).kept = s.kept := by
  refine ⟨?_, flEnter_window _ _ _ _ _, flEnter_retained _ _ _ _ _, flEnter_portFaulted _ _ _ _ _,
    fun q hq => flEnter_port_other hq _ _ _ _, fun c hc => flEnter_pulse _ _ _ _ _ hc, flEnter_kept ..⟩
  rw [flEnter_port_same, hport, State.ripenessOf_eq_stopped _ rfl]
  rfl

/-- The source breaker's trip pulse runs after a trip was asked for, and a close that it cut is over (R22, R24). -/
theorem dsTrip_pulses (confirm : Bool) (s : State) : ((dsTrip confirm s).2.pulse .srcTrip).isActive = true ∧
    ((s.pulse .srcTrip).isActive = false → (dsTrip confirm s).2.pulse .srcClose = .idle) := by
  unfold dsTrip
  cases htrip : (s.pulse .srcTrip).isActive with
  | true =>
    rw [State.requestTrip_of_trip_active (b := .source) rfl htrip]
    exact ⟨htrip, nofun⟩
  | false =>
    rw [State.requestTrip_of_idle (b := .source) rfl htrip]
    refine ⟨?_, fun _ => ?_⟩
    · rw [State.pulse_openWindowIf]
      exact congrArg Pulse.isActive (State.pulse_beginPulse_same _ _ _ (tripChannel_ne_crank .source))
    · rw [State.pulse_openWindowIf, State.pulse_beginPulse_other _ _ _ (by simp [tripChannel])]
      exact State.pulse_closeCut s .source

theorem State.window_closeCut_of_closedOut {b : Breaker} (h : s.window b = .closedOut) : (s.closeCut b).window b = .closedOut := by
  unfold State.closeCut
  split
  · rw [State.window_cutCloseForTrip_of_no_close (by simp [h]), h]
  · exact h

/-- A trip without a confirmation opens no window (R111). -/
theorem dsTrip_window (h : s.window .source = .closedOut) : (dsTrip false s).2.window .source = .closedOut := by
  unfold dsTrip
  cases htrip : (s.pulse .srcTrip).isActive with
  | true => rwa [State.requestTrip_of_trip_active (b := .source) rfl htrip]
  | false =>
    rw [State.requestTrip_of_idle (b := .source) rfl htrip]
    dsimp only
    rw [State.window_beginPulse_openWindowIf_false]
    exact State.window_closeCut_of_closedOut h

theorem sameButBreaker_dsTrip (confirm : Bool) (s : State) : s.SameButBreaker .source (dsTrip confirm s).2 :=
  sameButBreaker_requestTrip s .source _ _ _

/-- An owed trip is requested again at the end of the pulse, and is then no longer owed (R138). -/
theorem flTripEnded_leaves (hport : s.port p = some r) (hr : r.trippable) (hlocal : s.level (.feederLocal p) ≠ .asserted)
    (hidle : (s.pulse (.feederTrip p)).isActive = false) (howed : r.tripOwed = some dest)
    (hswap : ∀ w, s.fl.swap = some w → w.closePort ≠ p) :
    ∃ x, (flTripEnded p s).port p = some x ∧ x.tripOwed = none ∧ ((flTripEnded p s).pulse (.feederTrip p)).isActive = true ∧
      (flTripEnded p s).pulse (.feederClose p) = .idle ∧
      (s.level (.feederCb p) ≠ .released → x.state = .opening ∧ x.destination = some dest ∧
        ∀ q, q ≠ p → (flTripEnded p s).port q = s.port q) ∧
      (s.level (.feederCb p) = .released → x.destination = none ∧ x.state = dest.state ∧ x.shedCause = dest.cause) := by
  have hlast : (flTripEnded p s).portSide p =
      (((flTrip p dest s).2.portSide p).1.map fun r => { r with tripOwed := none }, ((flTrip p dest s).2.portSide p).2) := by
    rw [flTripEnded_of_owed hport howed, State.portSide_modifyPort_same]
    rfl
  by_cases hlevel : s.level (.feederCb p) = .released
  · obtain ⟨-, ripeness, hside⟩ := flTrip_portSide_opened hport hr hlocal hidle hlevel (dest := dest) fun w hw _ => (hswap w hw).symm
    rw [hside] at hlast
    obtain ⟨hp, hclose, htrip, -⟩ : _ ∧ _ ∧ _ ∧ _ := by simpa [State.portSide] using hlast
    exact ⟨_, hp, rfl, by rw [htrip]; rfl, hclose, fun h => absurd hlevel h, fun _ => ⟨rfl, rfl, rfl⟩⟩
  · obtain ⟨-, hside⟩ := flTrip_portSide_opening hport hr hlocal hidle hlevel dest
    rw [hside] at hlast
    obtain ⟨hp, hclose, htrip, -⟩ : _ ∧ _ ∧ _ ∧ _ := by simpa [State.portSide] using hlast
    refine ⟨_, hp, rfl, by rw [htrip]; rfl, hclose, fun _ => ⟨rfl, rfl, fun q hq => ?_⟩, fun h => absurd h hlevel⟩
    rw [flTripEnded_of_owed hport howed, State.port_modifyPort_other hq, flTrip_of_idle hport hr hlocal hidle, if_neg hlevel]
    exact congrArg Prod.fst (openingOf_portSide_other hq dest s)

theorem bscCloseFailed_cases (s : State) : bscCloseFailed s = s ∨ bscCloseFailed s = sessionEnd s := by
  unfold bscCloseFailed
  split
  · exact .inr rfl
  · exact .inl rfl

/-- What FAILED shows and holds (R119). -/
def State.isFailed (s : State) : Prop :=
  s.ds.state = some .failed ∧ s.ret.lockout = true ∧ s.ret.run = false ∧ s.ds.bias = 0 ∧ s.tac.alarm.dieselFailed = true

theorem dsEnterFailed_isFailed (s : State) : (dsEnterFailed s).isFailed := by
  obtain ⟨-, -, hshown, hlocked, hrun⟩ := dsEnterFailed_lines s
  refine ⟨?_, hlocked, hrun, ?_, hshown⟩ <;> rw [dsEnterFailed_ds]
  rfl

/-- A close that fails leaves the set FAILED and its breaker tripped (R111). -/
theorem dsClosingFailed_leaves (s : State) : (dsClosingFailed s).isFailed ∧
    (dsClosingFailed s).offSet = (dsTrip false s).2.offSet := by
  have hfailed := dsEnterFailed_isFailed (dsTrip false s).2
  unfold dsClosingFailed
  dsimp only
  split
  · obtain h | h := bscCloseFailed_cases (dsEnterFailed (dsTrip false s).2) <;> rw [h]
    · exact ⟨hfailed, dsEnterFailed_offSet _⟩
    · exact ⟨hfailed, (sessionEnd_offSet _).trans (dsEnterFailed_offSet _)⟩
  · exact ⟨hfailed, dsEnterFailed_offSet _⟩

theorem dsNotConfirmed_of_opening (h : s.ds.state = some .opening) : dsNotConfirmed s = dsEnterFailed s := by
  unfold dsNotConfirmed
  rw [h]

theorem dsNotConfirmed_of_closing (h : s.ds.state = some .closing) : dsNotConfirmed s = dsClosingFailed s := by
  unfold dsNotConfirmed
  rw [h]

/-- Settles O13: each pulse or window that ends is reported to its requester, which makes of it what its own rule says. -/
theorem pulsesEnd : Obligations.PulsesEnd := by
  refine ⟨fun t p s => ⟨exec_pulseEnded, exec_pulseEnded, fun hdue hcrank => ?_, fun hdue hcrank => ?_, exec_pulseEnded,
      fun hdue howed => ?_⟩,
    fun t p r dest s hport => ⟨fun htrippable hlocal hactive => ?_, fun hdue howed htrippable => ?_,
      fun hdue howed htrippable hlocal hswap => ?_⟩,
    fun t p r x closed s => ⟨fun hdue hw hport hstate => ?_, fun hdue hw => exec_notConfirmed hdue hw, fun hdue hw hstate => ?_⟩⟩
  · rw [exec_pulseEnded hdue]
    exact congrArg _ (dsCrankEnded_of_not_crank (s := (s.stamp t).putPulse .crank .idle) hcrank)
  · rw [exec_pulseEnded hdue]
    exact congrArg _ (dsCrankEnded_of_crank (s := (s.stamp t).putPulse .crank .idle) hcrank)
  · rw [exec_pulseEnded hdue]
    exact congrArg _ (flTripEnded_of_not_owed (s := (s.stamp t).putPulse (.feederTrip p) .idle) howed)
  · rw [flTrip_of_active hport htrippable hlocal hactive, State.modifyPort_eq hport]
  · rw [exec_pulseEnded hdue]
    have hport' : ((s.stamp t).putPulse (.feederTrip p) .idle).port p = some r := hport
    change Host.Outcome.next (flTripEnded p ((s.stamp t).putPulse (.feederTrip p) .idle)) = _
    rw [flTripEnded_of_owed hport' howed, flTrip_of_not_trippable hport' htrippable, State.modifyPort_eq hport']
    rfl
  · rw [exec_pulseEnded hdue]
    have hport' : ((s.stamp t).putPulse (.feederTrip p) .idle).port p = some r := hport
    have hidle : (((s.stamp t).putPulse (.feederTrip p) .idle).pulse (.feederTrip p)).isActive = false := by simp [Pulse.isActive]
    obtain ⟨x, hp, howed, htrip, hclose, hopening, hopened⟩ :=
      flTripEnded_leaves hport' htrippable hlocal hidle howed hswap
    refine ⟨_, x, rfl, hp, howed, htrip, hclose, hopening, fun hlevel => ?_⟩
    obtain ⟨hdest, hstate, hcause⟩ := hopened hlevel
    refine ⟨hdest, ?_⟩
    cases dest <;> exact ⟨hstate, hcause⟩
  · have hport' : ((s.stamp t).putWindow (.feeder p) .closedOut).port p = some r := hport
    obtain ⟨hp, hwindow, hret, hshown, hothers, hpulse, hkept⟩ := flFaulted_leaves hport'
    refine ⟨_, exec_notConfirmed hdue hw, ?_⟩
    have hreport : reportNotConfirmed .fl (.feeder p) ((s.stamp t).putWindow (.feeder p) .closedOut) =
        flEnter p .faulted none none ((s.stamp t).putWindow (.feeder p) .closedOut) := by
      have hst : ((s.stamp t).putWindow (.feeder p) .closedOut).portState p = some r.state := by
        simp [State.portState, hport']
      change flNotConfirmed p _ = _
      unfold flNotConfirmed
      obtain h | h := hstate <;> rw [hst, h]
    rw [hreport]
    exact ⟨hp, (hwindow _).trans (State.window_putWindow_same ..), hret, hshown, hothers, hpulse, hkept⟩
  · refine ⟨_, exec_notConfirmed hdue hw, ?_⟩
    have hreport : reportNotConfirmed .ds .source ((s.stamp t).putWindow .source .closedOut) =
        dsNotConfirmed ((s.stamp t).putWindow .source .closedOut) := rfl
    obtain hopening | hclosing := hstate
    · rw [hreport, dsNotConfirmed_of_opening (s := (s.stamp t).putWindow .source .closedOut) hopening]
      obtain ⟨hstate, hlocked, hrun, hbias, hshown⟩ := dsEnterFailed_isFailed ((s.stamp t).putWindow .source .closedOut)
      have hside := State.offIsland_of_offSet (dsEnterFailed_offSet ((s.stamp t).putWindow .source .closedOut))
      exact ⟨hstate, offIsland_window hside .source, hlocked, hrun, hbias, hshown, fun h => by simp [hopening] at h,
        fun _ => offIsland_pulse hside nofun, (offIsland_fl hside).trans rfl, (offIsland_sc hside).trans rfl,
        (offIsland_kept hside).trans rfl⟩
    · rw [hreport, dsNotConfirmed_of_closing (s := (s.stamp t).putWindow .source .closedOut) hclosing]
      obtain ⟨⟨hstate, hlocked, hrun, hbias, hshown⟩, hset⟩ := dsClosingFailed_leaves ((s.stamp t).putWindow .source .closedOut)
      have hside := State.offIsland_of_offSet hset
      have htrip := sameButBreaker_dsTrip false ((s.stamp t).putWindow .source .closedOut)
      obtain ⟨hactive, hcut⟩ := dsTrip_pulses false ((s.stamp t).putWindow .source .closedOut)
      refine ⟨hstate, (offIsland_window hside .source).trans (dsTrip_window rfl), hlocked, hrun, hbias, hshown,
        fun _ => ⟨?_, fun h => ?_⟩, fun h => by simp [hclosing] at h, (offIsland_fl hside).trans htrip.fl, ?_, ?_⟩
      · rw [offIsland_pulse hside (c := .srcTrip) nofun]
        exact hactive
      · rw [offIsland_pulse hside (c := .srcClose) nofun]
        exact hcut h
      · rw [offIsland_sc hside]
        obtain ⟨-, -, tac, hv, -⟩ := htrip
        rw [hv]
        rfl
      · rw [offIsland_kept hside, dsTrip_kept]
        rfl

end

section
variable {s u v : State} {t : Tick}

/-! ### What a change of mode and a qualified input leave -/

theorem bscModeChange_kept (old : Mode) (s : State) : (bscModeChange old s).kept = s.kept := by
  unfold bscModeChange
  (repeat' split) <;> simp

theorem dsModeChange_kept (old : Mode) (s : State) : (dsModeChange old s).kept = s.kept := by
  unfold dsModeChange
  (repeat' split) <;> simp

theorem scModeChange_kept (old : Mode) (s : State) : (scModeChange old s).kept = s.kept := by
  unfold scModeChange
  (repeat' split) <;> simp

/-- The jobs act on a change of mode and leave what is not theirs. -/
theorem modeJobs_kept (old : Mode) (s : State) :
    (flModeChange old (scModeChange old (dsModeChange old (bscModeChange old s)))).kept = s.kept := by
  rw [flModeChange_kept, scModeChange_kept, dsModeChange_kept, bscModeChange_kept]

/-- The station with everything blotted out that a change of mode or a reload may write. -/
def State.offMode (s : State) : State := { s.kept with cr := .reset [] [], ilc := .reset, freeCount := 0 }

theorem State.offMode_of_kept (h : u.kept = v.kept) : u.offMode = v.offMode := by
  unfold State.offMode
  rw [h]

theorem ilcFollow_offMode (s : State) : (ilcFollow s).offMode = s.offMode := by
  obtain ⟨x, h, -⟩ := ilcFollow_eq s
  rw [h]
  rfl

theorem crSetMode_offMode (m : Mode) (s : State) : (crSetMode m s).offMode = s.offMode := by
  obtain ⟨-, h⟩ | ⟨-, h⟩ := crSetMode_cases m s <;> rw [h]
  rw [ilcFollow_offMode, State.offMode_of_kept (modeJobs_kept _ _), s.inMode_eq m]
  rfl

theorem crReload_offMode (s : State) : (crReload s).offMode = s.offMode := by
  obtain ⟨c, -, -, h | h⟩ := crReload_cases s <;> rw [h]
  · rfl
  · rw [crSetMode_offMode]
    rfl

theorem crReloadIfDue_offMode (s : State) : (crReloadIfDue s).offMode = s.offMode := by
  unfold crReloadIfDue
  split
  · exact crReload_offMode s
  · rfl

theorem crAbandonCommit_offMode (s : State) : (crAbandonCommit s).offMode = s.offMode := by
  unfold crAbandonCommit
  split
  · exact crReloadIfDue_offMode _
  · rfl

theorem crServiceAsserted_offMode (s : State) : (crServiceAsserted s).offMode = s.offMode := by
  unfold crServiceAsserted
  split
  · exact crSetMode_offMode _ _
  · rfl

theorem crServiceReleased_offMode (s : State) : (crServiceReleased s).offMode = s.offMode := by
  unfold crServiceReleased
  dsimp only
  split
  · rw [crSetMode_offMode, crAbandonCommit_offMode]
  · exact crAbandonCommit_offMode s

theorem offMode_inputs (h : u.offMode = v.offMode) : u.tac.inputs = v.tac.inputs := by
  have := congrArg (fun x : State => x.tac.inputs) h; exact this
theorem offMode_tb (h : u.offMode = v.offMode) : u.tb = v.tb := by have := congrArg State.tb h; exact this
theorem offMode_mu (h : u.offMode = v.offMode) : u.mu = v.mu := by have := congrArg State.mu h; exact this
theorem offMode_be (h : u.offMode = v.offMode) : u.be = v.be := by have := congrArg State.be h; exact this
theorem offMode_pv (h : u.offMode = v.offMode) : u.pv = v.pv := by have := congrArg State.pv h; exact this
theorem offMode_mp (h : u.offMode = v.offMode) : u.mp = v.mp := by have := congrArg State.mp h; exact this
theorem offMode_address (h : u.offMode = v.offMode) : u.address = v.address := by have := congrArg State.address h; exact this
theorem offMode_pending (h : u.offMode = v.offMode) : u.pending = v.pending := by have := congrArg State.pending h; exact this

theorem sourceChanged_kept (x : Bool) (s : State) : (sourceChanged x s).kept = s.kept := by
  unfold sourceChanged
  split <;> simp

theorem reportConfirmed_kept (r : Requester) (b : Breaker) (s : State) : (reportConfirmed r b s).kept = s.kept := by
  unfold reportConfirmed
  split <;> simp

theorem breakerQualified_kept (b : Breaker) (x : Bool) (s : State) : (breakerQualified b x s).kept = s.kept := by
  unfold breakerQualified
  split
  · split
    · rw [reportConfirmed_kept, State.kept_putWindow]
    · cases b <;> simp [sourceChanged_kept]
  · cases b <;> simp [sourceChanged_kept]

/-- Every input but SERVICE reports to jobs alone. -/
theorem reportQualified_kept {i : InputLine} (hi : i ≠ .service) (x : Bool) (s : State) : (reportQualified i x s).kept = s.kept := by
  cases i with
  | service => exact absurd rfl hi
  | srcCb => exact breakerQualified_kept _ x s
  | feederCb p => exact breakerQualified_kept _ x s
  | runFb => simp only [reportQualified]; split <;> simp
  | inhibit => simp only [reportQualified]; split <;> simp
  | feederLocal p => simp only [reportQualified]; split <;> simp

theorem reportQualified_offMode (i : InputLine) (x : Bool) (s : State) : (reportQualified i x s).offMode = s.offMode := by
  by_cases hi : i = .service
  · subst hi
    simp only [reportQualified]
    split
    · exact crServiceAsserted_offMode s
    · exact crServiceReleased_offMode s
  · exact State.offMode_of_kept (reportQualified_kept hi x s)

/-! ### The command of a qualification -/

theorem exec_inputQualified {i : InputLine} {x : Bool} (h : s.qualifies i x) :
    exec (.inputQualified i) s = .next (reportQualified i x (s.qualify i x)) := by
  obtain ⟨hrun, hdue, hsample⟩ := h
  refine (whileRunning_runs _ hrun : execInputQualified i s = _).trans ?_
  unfold tacQualify
  rw [hdue, hsample]

theorem exec_inputQualified_of_not_due {i : InputLine} (hrun : s.runs = true) (h : (s.tac.inputs.get i).due = false) :
    exec (.inputQualified i) s = .next s := by
  refine (whileRunning_runs _ hrun : execInputQualified i s = _).trans ?_
  unfold tacQualify
  rw [h]

theorem sampleLevel_eq (x : Bool) : sampleLevel x = if x then .asserted else .released := rfl

theorem Qualifiers.get_set_same (q : Qualifiers) (i : InputLine) (x : Qualifier) : (q.set i x).get i = x := by
  cases i <;> simp [Qualifiers.set, Qualifiers.get]

theorem Qualifiers.get_set_other (q : Qualifiers) {i j : InputLine} (x : Qualifier) (h : j ≠ i) : (q.set i x).get j = q.get j := by
  cases i <;> cases j <;> simp_all [Qualifiers.set, Qualifiers.get, Quad.get_set_other]

theorem Qualifier.take_eq (q : Qualifier) (debounce : Nat) (x : Bool) :
    let run := if q.sample = some x then (if q.run < 16 then q.run + 1 else 16) else 1
    (q.take debounce x).level = q.level ∧ (q.take debounce x).sample = some x ∧ (q.take debounce x).run = run ∧
      ((q.take debounce x).due = true ↔ debounce ≤ run ∧ q.level ≠ if x then .asserted else .released) := by
  have hrun : (if q.sample = some x then min 16 (q.run + 1) else 1) =
      if q.sample = some x then (if q.run < 16 then q.run + 1 else 16) else 1 := by
    split_ifs <;> omega
  refine ⟨rfl, rfl, hrun, ?_⟩
  simp only [Qualifier.take, hrun, sampleLevel_eq, Bool.and_eq_true, decide_eq_true_eq, bne_iff_ne]

/-- Settles O14: the period and the samples are what the model's two functions write, and a qualification is reported once. -/
theorem periodsAndSamplesFollow : Obligations.PeriodsAndSamplesFollow := by
  refine ⟨fun x s hphase => ?_, fun i level s hphase => ?_⟩
  · have hrun : s.runs = true := by simpa [State.runs] using hphase
    refine ⟨whileRunning_runs _ hrun, _, whileRunning_runs _ hrun, fun i => ?_⟩
    cases i <;> simp only [Qualifiers.take, Qualifiers.get, Quad.get_of] <;> exact Qualifier.take_eq _ _ _
  · have hrun : s.runs = true := by simpa [State.runs] using hphase
    refine ⟨exec_inputQualified_of_not_due hrun, fun hdue hsample => ⟨_, exec_inputQualified ⟨hrun, hdue, hsample⟩, ?_⟩⟩
    have hside := reportQualified_offMode i level (s.qualify i level)
    have hinputs : (reportQualified i level (s.qualify i level)).tac.inputs =
        s.tac.inputs.set i { s.tac.inputs.get i with level := sampleLevel level, due := false } := offMode_inputs hside
    rw [hinputs]
    refine ⟨Qualifiers.get_set_same _ _ _, fun j hj => Qualifiers.get_set_other _ _ hj, (offMode_tb hside :), (offMode_mu hside :),
      (offMode_be hside :), (offMode_pv hside :), (offMode_mp hside :), (offMode_address hside :), (offMode_pending hside :), fun hi => ?_⟩
    have hkept := reportQualified_kept hi level (s.qualify i level)
    exact ⟨(kept_cr hkept :), (kept_transmitter hkept :), (kept_status hkept :)⟩

end

section
variable {s u v : State} {p q : Port} {r : PortRecord}

/-! ### LOCAL at a port -/

theorem cutLocal_portSide (p : Port) (s : State) : (s.cutLocal p).portSide p = (s.port p, .idle, .idle, .closedOut) := by
  simp [State.cutLocal, State.cut, State.portSide, State.putPulse, State.putWindow, State.pulse, State.window, State.port]

theorem cutLocal_portSide_other (hq : q ≠ p) (s : State) : (s.cutLocal p).portSide q = s.portSide q := by
  simp [State.cutLocal, State.cut, State.portSide, State.putPulse, State.putWindow, State.pulse, State.window, State.port,
    Quad.get_set_other _ _ hq]

/-- LOCAL asserted holds the port with nothing of it pending (R141). -/
theorem flLocalAsserted_leaves (hport : s.port p = some r) :
    (flLocalAsserted p s).portSide p = (some { r with
      state := .held, destination := none, shedCause := none, lastChange := s.tb, localHeld := true, closeActive := false,
      tripOwed := none, ripe := false, ripeness := .stopped }, (s.portSide p).2) ∧
      (∀ q, q ≠ p → (flLocalAsserted p s).portSide q = s.portSide q) ∧
      (flLocalAsserted p s).ret.ports.get p = some (.held, none) ∧
      (flLocalAsserted p s).tac.alarm.portFaulted.get p = false := by
  have hsome : (s.port p).isSome = true := by simp [hport]
  unfold flLocalAsserted
  rw [if_pos hsome]
  refine ⟨?_, fun q hq => ?_, flEnter_retained _ _ _ _ _, flEnter_portFaulted _ _ _ _ _⟩
  · rw [flEnter_portSide_same, State.port_modifyPort_same, hport, State.ripenessOf_eq_stopped _ rfl]
    rfl
  · rw [flEnter_portSide hq, State.portSide_modifyPort_other hq]

/-- LOCAL released takes the port out of HELD by its breaker, and in every other state clears the flag alone (R141). -/
theorem flLocalReleased_leaves (hport : s.port p = some r) : ∃ r', (flLocalReleased p s).port p = some r' ∧ r'.localHeld = false ∧
    (∀ c, c ≠ .crank → (flLocalReleased p s).pulse c = s.pulse c) ∧ (∀ q, q ≠ p → (flLocalReleased p s).port q = s.port q) ∧
    (r.state = .held → s.level (.feederCb p) = .asserted → r'.state = .closed ∧ r'.shedCause = none) ∧
    (r.state = .held → s.level (.feederCb p) ≠ .asserted → r'.state = .shed ∧ r'.shedCause = some .deficit) ∧
    (r.state ≠ .held → r' = { r with localHeld := false }) := by
  have hmodified : (s.modifyPort p fun r => { r with localHeld := false }).port p = some { r with localHeld := false } := by
    rw [State.port_modifyPort_same, hport]
    rfl
  have hstate : (s.modifyPort p fun r => { r with localHeld := false }).portState p = some r.state := by
    simp [State.portState, hmodified]
  have hlevel : (s.modifyPort p fun r => { r with localHeld := false }).asserted (.feederCb p) = s.asserted (.feederCb p) := rfl
  simp only [flLocalReleased, hstate, hlevel]
  by_cases hheld : r.state = .held
  · rw [if_pos (by rw [hheld])]
    cases hcb : s.asserted (.feederCb p) with
    | true =>
      have hcb : s.level (.feederCb p) = .asserted := by simpa [State.asserted] using hcb
      rw [if_pos rfl]
      refine ⟨_, (flEnter_port_same ..).trans (by rw [hmodified]; rfl), rfl, fun c hc => flEnter_pulse _ _ _ _ _ hc, fun q hq => ?_,
        fun _ _ => ⟨rfl, rfl⟩, fun _ h => absurd hcb h, fun h => absurd hheld h⟩
      rw [flEnter_port_other hq, State.port_modifyPort_other hq]
    | false =>
      have hcb : s.level (.feederCb p) ≠ .asserted := by simpa [State.asserted] using hcb
      rw [if_neg (by simp)]
      refine ⟨_, (flEnter_port_same ..).trans (by rw [hmodified]; rfl), rfl, fun c hc => flEnter_pulse _ _ _ _ _ hc, fun q hq => ?_,
        fun _ h => absurd h hcb, fun _ _ => ⟨rfl, rfl⟩, fun h => absurd hheld h⟩
      rw [flEnter_port_other hq, State.port_modifyPort_other hq]
  · rw [if_neg (by simpa using hheld)]
    exact ⟨_, hmodified, rfl, fun _ _ => rfl, fun q hq => State.port_modifyPort_other hq _, fun h => absurd h hheld,
      fun h => absurd h hheld, fun _ => rfl⟩

/-- Settles O15: LOCAL cuts the port's breaker and enters HELD, and its release enters the state that the breaker shows. -/
theorem localHoldsPort : Obligations.LocalHoldsPort := by
  intro p r s hphase hdue hport
  have hrun : s.runs = true := by simpa [State.runs] using hphase
  refine ⟨fun hsample => ?_, fun hsample => ?_⟩
  · have hcut : ((s.qualify (.feederLocal p) true).cutLocal p).port p = some r :=
      (congrArg Prod.fst (cutLocal_portSide p (s.qualify (.feederLocal p) true))).trans hport
    obtain ⟨hside, hothers, hret, hshown⟩ := flLocalAsserted_leaves hcut
    rw [cutLocal_portSide] at hside
    obtain ⟨hp, hclose, htrip, hwindow⟩ : _ ∧ _ ∧ _ ∧ _ := by simpa [State.portSide] using hside
    refine ⟨_, exec_inputQualified ⟨hrun, hdue, hsample⟩, hp, hclose, htrip, hwindow, hret, hshown, fun q hq => ?_⟩
    have hq := (hothers q hq).trans (cutLocal_portSide_other hq (s.qualify (.feederLocal p) true))
    obtain ⟨hport, hclose, htrip, -⟩ : _ ∧ _ ∧ _ ∧ _ := by simpa [State.portSide] using hq
    exact ⟨hport, hclose, htrip⟩
  · obtain ⟨r', hleaves⟩ := flLocalReleased_leaves (s := s.qualify (.feederLocal p) false) hport
    have hcb : (s.qualify (.feederLocal p) false).level (.feederCb p) = s.level (.feederCb p) := rfl
    rw [hcb] at hleaves
    exact ⟨_, r', exec_inputQualified ⟨hrun, hdue, hsample⟩, hleaves⟩

end

end Sys2Proof.Machine
end

section
/-! SUPPORT. What the ladder leaves; the loss of a set and of a solar source. -/

namespace Sys2Proof.Machine

/-! ### What the feeder ladder leaves -/

/-- A property that everything the feeder ladder does keeps, but for the STEP notice: its own record, the breaker of a port, a port's
entry to a state and the look of the BSC at the ports. -/
structure LadderKeeps (P : State → Prop) : Prop where
  ladder : ∀ {s : State} (x : Fl), P s → P { s with fl := x }
  breaker : ∀ {s v : State} {p : Port}, s.SameButBreaker (.feeder p) v → P s → P v
  entered : ∀ {s : State} (p : Port) (st : PortState) (dest : Option Destination) (cause : Option ShedCause), P s →
    P (portEntered p st dest cause s)
  looked : ∀ {s : State}, P s → P (bscLook s)

/-- A property that the STEP notice keeps. -/
def AnnounceKeeps (P : State → Prop) : Prop := ∀ {s : State} (l : List Byte), P s → P (s.placeFrame .step l)

section
variable {P : State → Prop} {s : State} (h : LadderKeeps P)
include h

theorem flEnter_keeps (p : Port) (st : PortState) (dest : Option Destination) (cause : Option ShedCause) (hs : P s) :
    P (flEnter p st dest cause s) :=
  h.looked (h.entered p st dest cause hs)

theorem flClose_keeps (p : Port) (hs : P s) : P (flClose p s).2 := by
  unfold flClose
  split
  · split
    next _ confirmed v hv =>
      have hv : P v := h.breaker (sameButBreaker_of_requestClose hv) hs
      have hclosing := flEnter_keeps h p .closing none none (h.ladder (v.fl.modify p fun r => { r with closeActive := true }) hv)
      dsimp only
      split
      · exact flEnter_keeps h p .closed none none hclosing
      · exact hclosing
    next v _ hv => exact h.breaker (sameButBreaker_of_requestClose hv) hs
  · exact hs

theorem flAnnounceStep_keeps (ha : AnnounceKeeps P) (p : Port) (hs : P s) : P (flAnnounceStep p s) :=
  h.ladder _ (ha _ hs)

theorem flSwapClose_keeps (ha : AnnounceKeeps P) (w : Swap) (hs : P s) : P (flSwapClose w s) := by
  have hclose := flClose_keeps h w.closePort (h.ladder { s.fl with swap := some { w with step := .closing } } hs)
  unfold flSwapClose
  dsimp only
  split
  next v hv =>
    rw [hv] at hclose
    exact flAnnounceStep_keeps h ha _ hclose
  next v hv =>
    rw [hv] at hclose
    exact h.ladder _ hclose

theorem flOpenConfirmed_keeps (p : Port)
    (ha : (s.port p).bind (·.destination) = some (.shed .rotation) → AnnounceKeeps P) (hs : P s) : P (flOpenConfirmed p s) := by
  unfold flOpenConfirmed
  split
  next cause hdest =>
    have hshed := flEnter_keeps h p .shed none (some cause) hs
    dsimp only
    split
    · split
      next hrotation =>
        simp only [Bool.and_eq_true, decide_eq_true_eq] at hrotation
        exact flSwapClose_keeps h (ha (hrotation.2 ▸ hdest)) _ hshed
      · exact hshed
    · exact hshed
  · exact flEnter_keeps h p .blackOpen none none hs
  · exact hs

theorem flTrip_keeps (p : Port) (dest : Destination) (ha : dest = .shed .rotation → AnnounceKeeps P) (hs : P s) : P (flTrip p dest s).2 := by
  unfold flTrip
  split
  · split
    next _ cut confirmed v hv =>
      have hv : P v := h.breaker (sameButBreaker_of_requestTrip hv) hs
      have hopening := flEnter_keeps h p .opening (some dest) none
        (h.ladder (v.fl.modify p fun r => { r with closeActive := r.closeActive && !cut }) hv)
      dsimp only
      split
      · refine flOpenConfirmed_keeps h p (fun hdest => ha ?_) hopening
        rw [flEnter_port_same] at hdest
        cases hr : (v.modifyPort p fun r => { r with closeActive := r.closeActive && !cut }).port p with
        | none => simp [hr] at hdest
        | some r => simpa [hr, PortRecord.entered] using hdest
      · exact hopening
    next hv => exact h.ladder _ (h.breaker (sameButBreaker_of_requestTrip hv) hs)
    next hv => exact h.breaker (sameButBreaker_of_requestTrip hv) hs
  · exact hs

omit h in
/-- Acts taken in turn that each keep a property keep it together. -/
theorem foldl_keeps {α : Type} {f : State → α → State} (hf : ∀ s a, P s → P (f s a)) (l : List α) (hs : P s) : P (l.foldl f s) := by
  induction l generalizing s with
  | nil => exact hs
  | cons a l ih => exact ih (hf s a hs)

theorem flTripAll_keeps (dest : Destination) (ha : dest = .shed .rotation → AnnounceKeeps P) (ports : List Port) (hs : P s) : P (flTripAll dest ports s) :=
  foldl_keeps (fun _ p hs => flTrip_keeps h p dest ha hs) ports hs

theorem flLoss_keeps (role : Role) (lostOutput lostRating : Nat) (hs : P s) : P (flLoss role lostOutput lostRating s) := by
  unfold flLoss flShed
  split
  · have habandoned : P (flAbandonSwap s) := h.ladder _ hs
    dsimp only
    split
    · split
      · exact flTripAll_keeps h _ (fun hd => by cases hd) _ habandoned
      · exact habandoned
    · exact habandoned
  · exact hs

end

section
variable {s u v : State}

/-- The station with everything blotted out that the feeder ladder writes while the set is not in SPOOL. -/
def State.offPorts (s : State) : State :=
  { s with
    fl := .reset
    bsc := .reset
    ret := { s.ret with ports := .all none, darkTaken := false, wasClosed := .all false }
    tac := { s.tac with
      feederClose := .all .idle, feederTrip := .all .idle, feederWindow := .all .closedOut
      alarm := { s.tac.alarm with portFaulted := .all false } } }

theorem bscHoldLive_offPorts (s : State) : (bscHoldLive s).offPorts = s.offPorts := by
  unfold bscHoldLive
  split <;> rfl

/-- A change of island state to LIVE or RECOVER finds a set to judge in SPOOL alone. -/
theorem dsIslandChange_of_up (hup : s.islandUp = true) (hspool : s.ds.state ≠ some .spool) : dsIslandChange s = s := by
  have hdark : s.bsc.island ≠ some .dark := by
    intro h
    simp [State.islandUp, h] at hup
  have hspool : s.dieselIs .spool = false := by simpa [State.dieselIs] using hspool
  simp [dsIslandChange, hup, hdark, hspool]

theorem bscLook_offPorts (hspool : s.ds.state ≠ some .spool) : (bscLook s).offPorts = s.offPorts := by
  unfold bscLook
  split
  · rw [bscEnterLive, bscHoldLive_offPorts, dsIslandChange_of_up (s := (clearPreDark (s.cancel .recover)).setIsland .live) rfl hspool]
    rfl
  · rfl

theorem offPorts_ds (h : u.offPorts = v.offPorts) : u.ds = v.ds := by have := congrArg State.ds h; exact this
theorem offPorts_sc (h : u.offPorts = v.offPorts) : u.sc = v.sc := by have := congrArg State.sc h; exact this
theorem offPorts_kept (h : u.offPorts = v.offPorts) : u.kept = v.kept := by have := congrArg State.kept h; exact this

theorem State.SameButBreaker.offPorts {p : Port} (h : s.SameButBreaker (.feeder p) v) : v.offPorts = s.offPorts := by
  obtain ⟨hpulse, hwindow, tac, rfl, htac⟩ := h
  have hclose : tac.srcClose = s.tac.srcClose := hpulse .srcClose nofun nofun
  have htrip : tac.srcTrip = s.tac.srcTrip := hpulse .srcTrip nofun nofun
  have hcrank : tac.crank = s.tac.crank := hpulse .crank nofun nofun
  have hwindow : tac.srcWindow = s.tac.srcWindow := hwindow .source nofun
  unfold State.offPorts
  rw [htac]
  simp only [Tac.withBreakers, hclose, htrip, hcrank, hwindow]

/-- While the set is not in SPOOL the ladder leaves everything but its own, and the island state. -/
theorem offPorts_keeps {s₀ : State} (hspool : s₀.ds.state ≠ some .spool) : LadderKeeps fun u => u.offPorts = s₀.offPorts where
  ladder _ hs := hs
  breaker hsame hs := hsame.offPorts.trans hs
  entered _ _ _ _ hs := hs
  looked hs := (bscLook_offPorts (by rw [offPorts_ds hs]; exact hspool)).trans hs

end

section
variable {P : State → Prop} {s : State} (h : LadderKeeps P)
include h

theorem flDark_keeps (hs : P s) : P (flDark s) := by
  refine foldl_keeps (fun s p hs => ?_) _ hs
  unfold flDarkPort
  split
  · exact flTrip_keeps h p .blackOpen (fun hd => by cases hd) hs
  · exact flTrip_keeps h p .blackOpen (fun hd => by cases hd) hs
  · exact h.ladder _ hs
  · exact hs

theorem flIslandChange_keeps (hs : P s) : P (flIslandChange s) := by
  have habandoned : P (if s.bsc.island = some .live then s else flAbandonSwap s) := by
    split
    · exact hs
    · exact h.ladder _ hs
  unfold flIslandChange
  dsimp only
  generalize (if s.bsc.island = some .live then s else flAbandonSwap s) = v at *
  have hquiet : P (if v.islandUp then v else (flUnqualify v).cancel .overload) := by
    split
    · exact habandoned
    · exact h.ladder (s := v) ((flUnqualify v).cancel .overload).fl habandoned
  generalize (if v.islandUp then v else (flUnqualify v).cancel .overload) = w at *
  split
  · exact flDark_keeps h hquiet
  · exact hquiet

end

section
variable {s u v : State} {t : Tick}

/-! ### The island state while the ladder acts -/

theorem bscLook_of_not_recover (h : s.bsc.island ≠ some .recover) : bscLook s = s := by
  unfold bscLook
  rw [if_neg (by simp [h])]

/-- While the island is not RECOVER nothing that the ladder does moves it. -/
theorem bsc_keeps {s₀ : State} (h₀ : s₀.bsc.island ≠ some .recover) : LadderKeeps fun u => u.bsc = s₀.bsc where
  ladder _ hs := hs
  breaker hsame hs := by
    obtain ⟨-, -, tac, rfl, -⟩ := hsame
    exact hs
  entered _ _ _ _ hs := hs
  looked {s} hs := by
    have hs : s.bsc = s₀.bsc := hs
    rw [bscLook_of_not_recover (by rw [hs]; exact h₀)]
    exact hs

/-! ### The loss of the set -/

theorem flLoss_offPorts (hspool : s.ds.state ≠ some .spool) (role : Role) (output rating : Nat) :
    (flLoss role output rating s).offPorts = s.offPorts :=
  flLoss_keeps (offPorts_keeps hspool) role output rating rfl

/-- The LOSS notice placed where the transmitter is enabled (R46, R117, R126). -/
theorem placeFrame_loss_slots (l : List Byte) (s : State) : (s.placeFrame .loss l).ilc.slots =
    if s.ilc.transmitter.enabled then { s.ilc.slots with loss := { s.ilc.slots.loss with frame := some l } } else s.ilc.slots := by
  obtain ⟨h, h'⟩ | ⟨h, h'⟩ := s.placeFrame_cases .loss l <;> rw [h', h] <;> rfl

theorem placeFrame_sameButLink (k : FrameKind) (l : List Byte) (s : State) : ∃ x, s.placeFrame k l = { s with ilc := x } := by
  obtain ⟨-, h⟩ | ⟨-, h⟩ := s.placeFrame_cases k l <;> rw [h]
  · exact ⟨_, rfl⟩
  · exact ⟨s.ilc, rfl⟩

/-- A set that is lost is FAILED, its LOSS notice waits, and its breaker is tripped where the engine stopped (R117). -/
theorem dsLost_leaves (engineStop : Bool) (hspool : s.ds.state ≠ some .spool) :
    (dsLost engineStop s).ds = { s.ds.enter .failed with
      bias := 0, intent := none, forcedStop := false, inhibitSeen := s.asserted .inhibit
      timers := { DieselTimers.stopped with loss := s.ds.timers.loss } } ∧
    (engineStop = true → ((dsLost engineStop s).pulse .srcTrip).isActive = true) ∧
    (engineStop = false → (dsLost engineStop s).pulse .srcTrip = s.pulse .srcTrip ∧
      (dsLost engineStop s).pulse .srcClose = s.pulse .srcClose) ∧
    (dsLost engineStop s).ilc.slots =
      (s.placeFrame .loss (lossPayload .genset (clamp16 s.mu.mean.src) s.par.station.rating)).ilc.slots ∧
    (dsLost engineStop s).sc = s.sc ∧ (dsLost engineStop s).kept = s.kept ∧ ((dsLost engineStop s).tac.pwm = 0 ∧
      (dsLost engineStop s).pulse .crank = .idle ∧ (dsLost engineStop s).tac.alarm.dieselFailed = true ∧
      (dsLost engineStop s).ret.lockout = true ∧ (dsLost engineStop s).ret.run = false) := by
  obtain ⟨x, hx⟩ := placeFrame_sameButLink .loss (lossPayload .genset (clamp16 s.mu.mean.src) s.par.station.rating) s
  have hports := flLoss_offPorts (s := s.placeFrame .loss (lossPayload .genset (clamp16 s.mu.mean.src) s.par.station.rating))
    (by rw [hx]; exact hspool) .genset (clamp16 s.mu.mean.src) s.par.station.rating
  have hkept : (dsLost engineStop s).kept = s.kept := by simp
  have hlines := fun v => dsEnterFailed_lines v
  have hds := fun v => dsEnterFailed_ds v
  have hset := fun v => State.offIsland_of_offSet (dsEnterFailed_offSet v)
  unfold dsLost at hkept ⊢
  dsimp only at hkept ⊢
  generalize flLoss .genset (clamp16 s.mu.mean.src) s.par.station.rating (s.placeFrame .loss
    (lossPayload .genset (clamp16 s.mu.mean.src) s.par.station.rating)) = v at *
  have hvds : v.ds = s.ds := by rw [offPorts_ds hports, hx]
  have hvsc : v.sc = s.sc := by rw [offPorts_sc hports, hx]
  have hvilc : v.ilc = (s.placeFrame .loss (lossPayload .genset (clamp16 s.mu.mean.src) s.par.station.rating)).ilc := by
    have := congrArg State.ilc hports; exact this
  have hvinhibit : v.asserted .inhibit = s.asserted .inhibit := by
    rw [State.asserted_eq (kept_inputs (offPorts_kept hports)), hx]
    rfl
  have hvpulse : ∀ c, c = .srcTrip ∨ c = .srcClose → v.pulse c = s.pulse c := by
    rintro c (rfl | rfl)
    · have := congrArg (fun y : State => y.tac.srcTrip) hports
      rw [hx] at this; exact this
    · have := congrArg (fun y : State => y.tac.srcClose) hports
      rw [hx] at this; exact this
  cases engineStop with
  | false =>
    refine ⟨?_, nofun, fun _ => ⟨?_, ?_⟩, ?_, ?_, hkept, hlines v⟩
    · exact (hds v).trans (by rw [hvds, hvinhibit])
    · exact (offIsland_pulse (hset v) (c := .srcTrip) nofun).trans (hvpulse _ (.inl rfl))
    · exact (offIsland_pulse (hset v) (c := .srcClose) nofun).trans (hvpulse _ (.inr rfl))
    · exact (congrArg Ilc.slots (offIsland_ilc (hset v))).trans (congrArg Ilc.slots hvilc)
    · exact (offIsland_sc (hset v)).trans hvsc
  | true =>
    have htrip := sameButBreaker_dsTrip false v
    obtain ⟨hactive, -⟩ := dsTrip_pulses false v
    have hinhibit : (dsTrip false v).2.asserted .inhibit = v.asserted .inhibit := State.asserted_eq (kept_inputs (dsTrip_kept v false)) _
    obtain ⟨-, -, tac, hv, -⟩ := htrip
    refine ⟨?_, fun _ => ?_, nofun, ?_, ?_, hkept, hlines _⟩
    · refine (hds _).trans ?_
      rw [if_pos rfl, hinhibit, hvinhibit, hv]
      dsimp only
      rw [hvds]
    · rw [offIsland_pulse (hset _) (c := .srcTrip) nofun]
      exact hactive
    · rw [offIsland_ilc (hset _), if_pos rfl, hv]
      exact congrArg Ilc.slots hvilc
    · rw [offIsland_sc (hset _), if_pos rfl, hv]
      exact hvsc

/-! ### The source breaker of a solar station -/

/-- A qualified position that no window of the source breaker waits for is an ordinary change (R26). -/
theorem breakerQualified_source_changed {x : Bool} (h : ∀ r y, s.window .source ≠ .watching r x y) :
    breakerQualified .source x s = sourceChanged x s := by
  unfold breakerQualified
  split
  next r closed y hw =>
    by_cases hx : closed = x
    · exact absurd (hx ▸ hw) (h r y)
    · rw [if_neg hx]
  · rfl

theorem dsSrc_of_none (h : s.ds.state = none) : dsSrcAsserted s = s ∧ dsSrcReleased s = s := by
  unfold dsSrcAsserted dsSrcReleased
  rw [h]
  exact ⟨rfl, rfl⟩

theorem scAsserted_of_offline (h : s.sc.state = some .offline) : scAsserted s = { s with sc := { s.sc with state := some .online } } := by
  simp [scAsserted, State.solarIs, h, scEnter]

theorem scAsserted_of_online (h : s.sc.state = some .online) : scAsserted s = s := by simp [scAsserted, State.solarIs, h]

theorem scReleased_of_not_online (h : s.sc.state ≠ some .online) : scReleased s = s := by simp [scReleased, State.solarIs, h]

theorem scReleased_of_online (h : s.sc.state = some .online) (htrip : s.sc.trip = false) : scReleased s =
    if s.islandUp = true ∧ s.par.solar.lossThreshold < clamp16 s.mu.mean.src then scLost (clamp16 s.mu.mean.src) s
    else { s with sc := { s.sc with state := some .offline } } := by
  simp [scReleased, State.solarIs, h, htrip, scEnter]

/-- A loss of the solar source gives OFFLINE, with its LOSS notice waiting (R126). -/
theorem scLost_leaves (hspool : s.ds.state ≠ some .spool) (output : Nat) : (scLost output s).sc = { s.sc with state := some .offline } ∧
    (scLost output s).ilc.slots = (s.placeFrame .loss (lossPayload .solar output s.par.station.rating)).ilc.slots ∧
    (scLost output s).kept = s.kept := by
  obtain ⟨x, hx⟩ := placeFrame_sameButLink .loss (lossPayload .solar output s.par.station.rating) s
  have hports := flLoss_offPorts (s := s.placeFrame .loss (lossPayload .solar output s.par.station.rating))
    (by rw [hx]; exact hspool) .solar output s.par.station.rating
  refine ⟨?_, ?_, by simp⟩
  · have hsc := (offPorts_sc hports).trans (show _ = s.sc by rw [hx])
    exact congrArg (fun y : Sc => { y with state := some .offline }) hsc
  · exact (congrArg (fun y : State => y.ilc.slots) hports :)

/-! ### The trip of a solar source at DARK -/

theorem scTripAtDark_of_idle (honline : s.sc.state = some .online) (hop : s.operating = true) (hidle : s.pulse .srcTrip = .idle) :
    ∃ v, s.SameButBreaker .source v ∧ v.pulse .srcClose = .idle ∧
      v.pulse .srcTrip = .active .sc (.running s.tb (pulseTicks s.par.diesel.pulse)) ∧
      v.window .source = (if s.level .srcCb = .released then .closedOut
        else .watching .sc false (.running s.tb (s.par.diesel.confirmTime * 10000))) ∧
      scTripAtDark s = if s.level .srcCb = .released then { v with sc := { s.sc with state := some .offline, trip := false } }
        else { v with sc := { s.sc with trip := true } } := by
  obtain ⟨v, hv, hsame, hclose, htrip, hwindow⟩ :=
    requestTrip_taken (s := s) (b := .source) rfl (by rw [show tripChannel .source = .srcTrip from rfl, hidle]; rfl) .sc s.par.diesel.pulse
  have hsc : v.sc = s.sc := by
    obtain ⟨-, -, tac, hv, -⟩ := hsame
    rw [hv]
  refine ⟨v, hsame, hclose, htrip, hwindow, ?_⟩
  unfold scTripAtDark
  rw [if_pos (by simp [State.solarIs, honline, hop]), hv]
  by_cases hlevel : s.level .srcCb = .released
  · simp [positionInput, hlevel, scConfirmed, scEnter, hsc]
  · simp [positionInput, hlevel, hsc]

theorem scTripAtDark_of_active (hactive : (s.pulse .srcTrip).isActive = true) : scTripAtDark s = s := by
  unfold scTripAtDark
  split
  · rw [State.requestTrip_of_trip_active (b := .source) rfl hactive]
  · rfl

theorem scTripAtDark_of_not_operating (hop : s.operating = false) : scTripAtDark s = s := by simp [scTripAtDark, hop]

end

section
variable {s u v : State} {t : Tick}

/-! ### The change to DARK at a station without a set -/

/-- Need-since goes where the island is not up (R101). -/
def dsQuietNeed (s : State) : State := if s.islandUp then s else { s with ds := { s.ds with needSince := none } }

theorem dsQuietNeed_ds (s : State) : ∃ d : Ds, d.state = s.ds.state ∧ d.timers = s.ds.timers ∧ dsQuietNeed s = { s with ds := d } := by
  unfold dsQuietNeed
  split
  · exact ⟨s.ds, rfl, rfl, rfl⟩
  · exact ⟨{ s.ds with needSince := none }, rfl, rfl, rfl⟩

theorem dsIslandChange_of_none (hnone : s.ds.state = none) : ∃ d, d.state = none ∧ dsIslandChange s = { s with ds := d } := by
  obtain ⟨d, hstate, -, hquiet⟩ := dsQuietNeed_ds s
  have hdark : ∃ d' : Ds, d'.state = none ∧
      (if s.bsc.island = some .dark then dsDark { s with ds := d } else { s with ds := d }) = { s with ds := d' } := by
    split
    · unfold dsDark
      simp only [hstate, hnone]
      exact ⟨_, rfl, rfl⟩
    · exact ⟨d, hstate.trans hnone, rfl⟩
  obtain ⟨d', hstate', hdark⟩ := hdark
  refine ⟨d', hstate', ?_⟩
  change (if (if (dsQuietNeed s).bsc.island = some .dark then dsDark (dsQuietNeed s) else dsQuietNeed s).dieselIs .spool &&
    !(if (dsQuietNeed s).bsc.island = some .dark then dsDark (dsQuietNeed s) else dsQuietNeed s).ds.timers.spool.isRunning then
      dsJudgeSpool (if (dsQuietNeed s).bsc.island = some .dark then dsDark (dsQuietNeed s) else dsQuietNeed s)
    else if (dsQuietNeed s).bsc.island = some .dark then dsDark (dsQuietNeed s) else dsQuietNeed s) = _
  rw [hquiet]
  simp only [hdark]
  rw [if_neg (by simp [State.dieselIs, hstate'])]

/-- The trip at DARK writes the source breaker's lines and the solar record alone. -/
theorem scTripAtDark_eq (s : State) : ∃ tac sc, scTripAtDark s = { s with tac, sc } := by
  have hbreaker := fun w => (sameButBreaker_requestTrip s .source .sc w true).2.2
  unfold scTripAtDark scConfirmed scEnter
  split
  · obtain ⟨tac, hv, -⟩ := hbreaker s.par.diesel.pulse
    split
    next _ _ confirmed v hrequest =>
      rw [hrequest] at hv
      dsimp only at hv ⊢
      rw [hv]
      split_ifs <;> exact ⟨_, _, rfl⟩
    next v _ hrequest =>
      rw [hrequest] at hv
      dsimp only at hv
      rw [hv]
      exact ⟨_, _, rfl⟩
  · exact ⟨_, _, rfl⟩

/-- What the solar unit meets after the ladder has acted on DARK and its cap is 0: the source and its breaker as they were. -/
theorem islandDark_reaches (hnone : s.ds.state = none) (hsome : s.sc.state.isSome = true) :
    ∃ z d, bscEnterDark s = { scTripAtDark z with ds := d } ∧ z.bsc.island = some .dark ∧ z.sc.state = s.sc.state ∧
      z.sc.trip = s.sc.trip ∧ z.kept = s.kept ∧ z.pulse .srcTrip = s.pulse .srcTrip ∧ z.pulse .srcClose = s.pulse .srcClose ∧
      z.window .source = s.window .source := by
  have hspool : ((writePreDark s).setIsland .dark).ds.state ≠ some .spool := by
    rw [show ((writePreDark s).setIsland .dark).ds = s.ds from rfl, hnone]
    nofun
  have hports : (flIslandChange ((writePreDark s).setIsland .dark)).offPorts = ((writePreDark s).setIsland .dark).offPorts :=
    flIslandChange_keeps (offPorts_keeps hspool) rfl
  have hbsc : (flIslandChange ((writePreDark s).setIsland .dark)).bsc = ((writePreDark s).setIsland .dark).bsc :=
    flIslandChange_keeps (bsc_keeps (by simp [State.setIsland])) rfl
  have hreport : bscEnterDark s = dsIslandChange (scIslandChange (flIslandChange ((writePreDark s).setIsland .dark))) := rfl
  generalize flIslandChange ((writePreDark s).setIsland .dark) = v at *
  have hdark : v.bsc.island = some .dark := by
    rw [hbsc]
    rfl
  have hsc : v.sc = s.sc := offPorts_sc hports
  have hsolar : scIslandChange v = scTripAtDark (scZero .dark v) := by
    unfold scIslandChange
    rw [hdark]
  have hzero : scZero .dark v = scCommand 0 .dark v := by simp [scZero, hsc, hsome]
  have hds : (scTripAtDark (scZero .dark v)).ds.state = none := by
    obtain ⟨tac, sc, heq⟩ := scTripAtDark_eq (scZero .dark v)
    rw [heq, hzero, ← hnone]
    exact (congrArg Ds.state (offPorts_ds hports) :)
  obtain ⟨d, -, hd⟩ := dsIslandChange_of_none hds
  refine ⟨scZero .dark v, d, by rw [hreport, hsolar, hd], ?_⟩
  rw [hzero]
  refine ⟨hdark, (congrArg Sc.state hsc :), (congrArg Sc.trip hsc :), (offPorts_kept hports :), ?_, ?_, ?_⟩
  · exact (congrArg (fun x : State => x.tac.srcTrip) hports :)
  · exact (congrArg (fun x : State => x.tac.srcClose) hports :)
  · exact (congrArg (fun x : State => x.tac.srcWindow) hports :)

/-- A set that is online: R117 rules over its loss. -/
def State.setOnline (s : State) : Prop :=
  s.ds.state = some .online ∨ s.ds.state = some .stopIntent ∨ s.ds.state = some .unload

theorem State.setOnline.not_spool (h : s.setOnline) : s.ds.state ≠ some .spool := by
  obtain h | h | h := h <;> rw [h] <;> nofun

theorem reportQualified_engineStop (h : s.setOnline) (hclosed : s.level .srcCb = .asserted) :
    reportQualified .runFb false s = dsLost true s := by
  change dsRunReleased s = _
  unfold dsRunReleased
  obtain h | h | h := h <;> rw [h] <;> exact if_pos (by simp [State.asserted, hclosed])

theorem reportQualified_breakerReleased (h : s.setOnline) (hsc : s.sc.state = none)
    (hwindow : ∀ r x, s.window .source ≠ .watching r false x) : reportQualified .srcCb false s = dsLost false s := by
  have hreleased : dsSrcReleased s = dsLost false s := by
    unfold dsSrcReleased
    obtain h | h | h := h <;> rw [h]
  obtain ⟨-, -, -, -, hsolar, -⟩ := dsLost_leaves false h.not_spool
  change breakerQualified .source false s = _
  rw [breakerQualified_source_changed hwindow]
  change scReleased (dsSrcReleased s) = _
  rw [hreleased, scReleased_of_not_online (by rw [hsolar, hsc]; nofun)]

theorem islandUp_iff (s : State) : s.islandUp = true ↔ s.bsc.island = some .live ∨ s.bsc.island = some .recover := by
  simp [State.islandUp]

/-- The dead timer's expiry at a station without a set (R127, R159). -/
theorem exec_dead (h : s.due .dead t) (hisland : s.bsc.island = some .deadWait) :
    exec .deadTimerExpiry s = .next (bscEnterDark ((s.stamp t).cancel .dead)) := by
  obtain ⟨hrun, hdue⟩ := h
  refine (onExpiry_due (id := .dead) _ hrun hdue).trans ?_
  rw [bscDeadExpired, if_pos (show ((s.stamp t).cancel .dead).bsc.island = some .deadWait from hisland)]

/-- Settles O16: a release without a trip of ours, or an engine that stops, is the loss of the set; the solar source follows its breaker,
and is tripped at DARK. -/
theorem lostSetFails : Obligations.LostSetFails := by
  refine ⟨fun engine s hphase hstate hsc => ?_, fun x s hnone => ?_, fun t s hdue hisland hnone honline => ?_⟩
  · intro i hdue hsample hwhy
    have hrun : s.runs = true := by simpa [State.runs] using hphase
    have hlost : reportQualified i false (s.qualify i false) = dsLost engine (s.qualify i false) := by
      cases engine with
      | true => exact reportQualified_engineStop hstate hwhy
      | false => exact reportQualified_breakerReleased hstate hsc hwhy
    have hinhibit : (s.qualify i false).level .inhibit = s.level .inhibit := by cases engine <;> rfl
    have hpulse : ∀ c, (s.qualify i false).pulse c = s.pulse c := fun c => by cases c <;> rfl
    obtain ⟨hds, hengine, hbreaker, hslots, hsolar, hkept, hpwm, hcrank, hshown, hlocked, hrun'⟩ :=
      dsLost_leaves (s := s.qualify i false) engine (State.setOnline.not_spool hstate)
    refine ⟨_, exec_inputQualified ⟨hrun, hdue, hsample⟩, ?_⟩
    rw [hlost]
    refine ⟨by rw [hds]; rfl, ?_, ⟨hlocked, hrun', hshown, hcrank⟩, ?_, ?_, hsolar, ?_⟩
    · rw [hds, ← hinhibit]
      exact ⟨rfl, rfl, rfl, rfl, hpwm, rfl, by simp [State.asserted]⟩
    · cases engine with
      | true => exact hengine rfl
      | false => exact hbreaker rfl
    · rw [placeFrame_loss_slots] at hslots
      by_cases henabled : s.ilc.transmitter.enabled = true
      · rw [if_pos henabled]
        exact hslots.trans (if_pos henabled)
      · rw [if_neg henabled]
        exact hslots.trans (if_neg henabled)
    · exact ⟨(kept_cr hkept :), (kept_mu hkept :), (kept_be hkept :), (kept_pv hkept :), (kept_mp hkept :), (kept_tb hkept :)⟩
  · intro qualified output lost
    have hnone' : ∀ y, (qualified y).ds.state = none := fun _ => hnone
    refine ⟨fun hq hwindow => ?_, fun hq hwindow => ?_, fun hq hwindow htrip => ?_⟩
    · have hreport : reportQualified .srcCb true (qualified true) = scAsserted (qualified true) :=
        (breakerQualified_source_changed (s := qualified true) hwindow).trans (congrArg scAsserted (dsSrc_of_none (hnone' true)).1)
      rw [exec_inputQualified hq, hreport]
      exact ⟨fun hoff => congrArg _ (scAsserted_of_offline (s := qualified true) hoff),
        fun hon => congrArg _ (scAsserted_of_online (s := qualified true) hon)⟩
    · have hreport : reportQualified .srcCb false (qualified false) = scReleased (qualified false) :=
        (breakerQualified_source_changed (s := qualified false) hwindow).trans (congrArg scReleased (dsSrc_of_none (hnone' false)).2)
      rw [exec_inputQualified hq, hreport]
      refine ⟨fun hoff => congrArg _ (scReleased_of_not_online (s := qualified false) ?_), fun hon htrip hlost => congrArg _ ?_,
        fun hon htrip hlost => ⟨_, rfl, ?_⟩⟩
      · rw [show (qualified false).sc.state = some .offline from hoff]
        nofun
      · rw [scReleased_of_online (s := qualified false) hon htrip]
        exact if_neg hlost
      · have hreleased : scReleased (qualified false) = scLost output (qualified false) :=
          (scReleased_of_online (s := qualified false) hon htrip).trans (if_pos hlost)
        rw [hreleased]
        obtain ⟨hsc, hslots, hkept⟩ := scLost_leaves (s := qualified false) (by rw [hnone' false]; nofun) output
        exact ⟨hsc, hslots.trans (placeFrame_loss_slots _ _), hkept⟩
    · rw [exec_inputQualified hq]
      have hwindow' : (qualified false).window .source = .watching .sc false x := hwindow
      change Host.Outcome.next (breakerQualified .source false (qualified false)) = _
      unfold breakerQualified
      rw [hwindow']
      simp only [if_true, reportConfirmed, scConfirmed]
      rw [if_pos (show ((qualified false).putWindow .source .closedOut).sc.trip = true from htrip)]
      rfl
  · intro pulse
    obtain ⟨z, d, hu, hdark, hstate, htrip, hkept, hsrcTrip, hsrcClose, hwindow⟩ :=
      islandDark_reaches (s := (s.stamp t).cancel .dead) hnone (by rw [show ((s.stamp t).cancel .dead).sc = s.sc from rfl, honline]; rfl)
    have hcr : z.cr = s.cr := (kept_cr hkept :)
    have hop : z.operating = s.operating := by simp only [State.operating, hcr]
    have hpar : z.par = s.par := by simp only [State.par, hcr]
    have htb : z.tb = t := (kept_tb hkept :)
    have hlevel : z.level .srcCb = s.level .srcCb := State.level_eq (kept_inputs hkept :) _
    have hzonline : z.sc.state = some .online := hstate.trans honline
    have hsrcTrip : z.pulse .srcTrip = s.pulse .srcTrip := hsrcTrip
    refine ⟨_, exec_dead hdue hisland, ?_⟩
    rw [hu]
    have hisland : (scTripAtDark z).bsc.island = some .dark := by
      obtain ⟨tac, sc, heq⟩ := scTripAtDark_eq z
      rw [heq]
      exact hdark
    refine ⟨hisland, fun hoperates hidle hcb => ?_, fun hoperates hidle hcb => ?_, fun hoperates hactive hflag => ?_, fun hoperates => ?_⟩
    · obtain ⟨v, hsame, hclose, hpulse, hwatch, heq⟩ :=
        scTripAtDark_of_idle hzonline (hop.trans hoperates) (hsrcTrip.trans hidle)
      rw [hlevel, if_neg hcb] at heq hwatch
      rw [heq]
      rw [htb, hpar] at hpulse hwatch
      exact ⟨hzonline, rfl, hclose, hpulse, hwatch⟩
    · obtain ⟨v, hsame, hclose, hpulse, hwatch, heq⟩ :=
        scTripAtDark_of_idle hzonline (hop.trans hoperates) (hsrcTrip.trans hidle)
      rw [hlevel, if_pos hcb] at heq hwatch
      rw [heq]
      exact ⟨rfl, rfl, hwatch⟩
    · rw [scTripAtDark_of_active (by rw [hsrcTrip]; exact hactive)]
      exact ⟨hzonline, htrip.trans hflag, hsrcTrip⟩
    · rw [scTripAtDark_of_not_operating (hop.trans hoperates)]
      exact ⟨hzonline, htrip, hsrcTrip, hsrcClose, hwindow⟩

end

end Sys2Proof.Machine
end

section
/-! SUPPORT. SERVICE and the hold of the jobs. -/

namespace Sys2Proof.Machine

section
variable {s u v : State} {t : Tick}

/-! ### SERVICE asserted -/

/-- A set that is to start, or is starting (R121). -/
def State.starting (s : State) : Prop :=
  s.ds.state = some .intent ∨ s.ds.state = some .crank ∨ s.ds.state = some .rest ∨ s.ds.state = some .spool ∨
    s.ds.state = some .sync ∨ s.ds.state = some .arbitrate

theorem dsEnterStandby_of_held (hphase : s.permitPhase ≠ .hold) (hop : s.operating = false) :
    dsEnterStandby s = setBias 0 { s with ds := s.ds.enter .standby } := by
  unfold dsEnterStandby
  rw [dsEnter_of_phase _ hphase]
  exact if_neg (by simp [show (setBias 0 { s with ds := s.ds.enter .standby }).operating = s.operating from rfl, hop])

theorem dsWithdraw_of_idle (h : s.permitPhase = .idle) : dsWithdraw s = s := by
  simp [dsWithdraw, bscWithdraw, State.contending, h]

/-- A start falls back to STANDBY at the entry to SERVICE or FAULT, with RUN CLEAR (R121). -/
theorem dsHold_of_starting (hphase : s.permitPhase = .idle) (hop : s.operating = false) (h : s.starting) :
    ∃ d c, d.state = some .standby ∧ d.bias = 0 ∧ d.needSince = none ∧ d.forcedStop = false ∧ (s.ds.state = some .crank → c = .idle) ∧
      dsHold s = { s with ds := d, ret := { s.ret with run := false }, tac := { s.tac with crank := c, pwm := 0 } } := by
  have hnot : s.permitPhase ≠ .hold := by rw [hphase]; nofun
  unfold dsHold
  obtain h | h | h | h | h | h := h <;> simp only [h]
  case inr.inr.inr.inr.inr =>
    rw [dsWithdraw_of_idle (by exact hphase), dsEnterStandby_of_held (by exact hnot) (by exact hop)]
    exact ⟨_, _, rfl, rfl, rfl, rfl, nofun, rfl⟩
  case inr.inl =>
    rw [dsEnterStandby_of_held (by exact hnot) (by exact hop)]
    exact ⟨_, _, rfl, rfl, rfl, rfl, fun _ => rfl, rfl⟩
  all_goals
    rw [dsEnterStandby_of_held (by exact hnot) (by exact hop)]
    exact ⟨_, _, rfl, rfl, rfl, rfl, nofun, rfl⟩

/-- A stop in hand falls back to ONLINE there, and every other state stands (R121). -/
theorem dsHold_of_not_starting (hphase : s.permitPhase = .idle) (h : ¬ s.starting) :
    ∃ d, d.state = (if s.ds.state = some .stopIntent ∨ s.ds.state = some .unload then some .online else s.ds.state) ∧
      d.bias = s.ds.bias ∧ d.needSince = none ∧ d.forcedStop = false ∧ dsHold s = { s with ds := d } := by
  have hnot : s.permitPhase ≠ .hold := by rw [hphase]; nofun
  unfold dsHold
  generalize hx : (if s.ds.state = some .stopIntent ∨ s.ds.state = some .unload then some .online else s.ds.state) = x
  dsimp only
  split
  case h_7 hstate =>
    have hstate : s.ds.state = some .online := hstate
    refine ⟨_, ?_, ?_, ?_, ?_, rfl⟩ <;> simp [← hx, hstate]
  case h_8 hstate =>
    have hstate : s.ds.state = some .stopIntent := hstate
    rw [dsBackOnline, dsEnter_of_phase _ (by exact hnot)]
    refine ⟨_, ?_, ?_, ?_, ?_, rfl⟩
    · rw [← hx, if_pos (.inl hstate)]
      rfl
    all_goals rfl
  case h_9 hstate =>
    have hstate : s.ds.state = some .unload := hstate
    rw [dsAbandonUnload, dsEnter_of_phase _ (by exact hnot)]
    refine ⟨_, ?_, ?_, ?_, ?_, rfl⟩
    · rw [← hx, if_pos (.inr hstate)]
      rfl
    all_goals rfl
  case h_10 hstop hunload =>
    have hnone : ¬ (s.ds.state = some .stopIntent ∨ s.ds.state = some .unload) := by
      rintro (h | h)
      · exact hstop h
      · exact hunload h
    exact ⟨{ s.ds with needSince := none, forcedStop := false }, by rw [← hx, if_neg hnone], rfl, rfl, rfl, rfl⟩
  all_goals
    rename_i hstate
    have hstate : s.ds.state = some _ := hstate
    exact absurd (by simp [State.starting, hstate]) h

theorem maySend_of_operating (h : s.operating = true) : s.maySend = !s.ilc.conflict := by simp [State.maySend, h]

theorem maySend_of_service (h : s.cr.mode = .service) : s.maySend = !s.ilc.conflict := by simp [State.maySend, h]

theorem ilcFollow_of_follows (h : s.ilc.transmitter.enabled = (s.ilc.started && s.maySend)) : ilcFollow s = s := by
  unfold ilcFollow
  cases hstarted : s.ilc.started with
  | false => rfl
  | true =>
    rw [hstarted, Bool.true_and] at h
    cases hsend : s.maySend <;> simp [h, hsend]

/-- Every owed trip is dropped (R155). -/
theorem flDropOwed_eq (s : State) : flDropOwed s = { s with fl := { s.fl with
    ports := .of fun p => (s.port p).map fun r => { r with tripOwed := none } } } := by
  rfl

/-- The ladder at a change to a mode that holds the jobs (R146, R147, R153, R155). -/
theorem flModeChange_held (old : Mode) (hmode : s.cr.mode = .service) : flModeChange old s = { s with fl := { s.fl with
    ports := .of fun p => (s.port p).map fun r => { r with tripOwed := none }
    swap := none, qualTimer := .stopped, qualified := false, overload := .stopped } } := by
  have hcoordinated : s.cr.mode ≠ .coordinated := by rw [hmode]; nofun
  have hop : s.operating = false := by simp [State.operating, hmode]
  unfold flModeChange
  rw [if_neg hcoordinated]
  dsimp only
  rw [if_neg (show (flAbandonSwap s).cr.mode ≠ .coordinated from hcoordinated)]
  rw [if_neg (by rw [show (flUnqualify (flAbandonSwap s)).operating = s.operating from rfl, hop]; nofun), flDropOwed_eq]
  rfl

theorem bscHold_cases (s : State) : (s.permitPhase = .idle ∧ bscHold s = s) ∨ (s.permitPhase ≠ .idle ∧ bscHold s = sessionEnd s) := by
  unfold bscHold
  split
  next h => exact .inl ⟨h, rfl⟩
  next h => exact .inr ⟨h, rfl⟩

theorem bscHold_permitPhase (s : State) : (bscHold s).permitPhase = .idle := by
  obtain ⟨h, h'⟩ | ⟨-, h'⟩ := bscHold_cases s <;> rw [h']
  · exact h
  · rfl

/-- A change from an operating mode to SERVICE: the session ends, the set is held, and the ladder drops what is owed (R121, R155, R172). -/
theorem crSetMode_service (hop : s.operating = true) (hsender : s.senderFollows) :
    ∃ v, v = bscHold (s.inMode .service) ∧ v.permitPhase = .idle ∧ crSetMode .service s = { dsHold v with fl := { s.fl with
      ports := .of fun p => (s.port p).map fun r => { r with tripOwed := none }
      swap := none, qualTimer := .stopped, qualified := false, overload := .stopped } } := by
  have hmode : s.cr.mode ≠ .service := by
    intro h
    simp [State.operating, h] at hop
  have hoperates : s.cr.mode.operates = true := hop
  have hnot : s.cr.mode.held = false := by
    cases hm : s.cr.mode <;> simp_all [Mode.held, State.operating]
  obtain ⟨hsame, -⟩ | ⟨-, hchange⟩ := crSetMode_cases .service s
  · exact absurd hsame hmode
  have hbsc : bscModeChange s.cr.mode (s.inMode .service) = bscHold (s.inMode .service) := rfl
  have hphase := bscHold_permitPhase (s.inMode .service)
  have hkept : (bscHold (s.inMode .service)).kept = (s.inMode .service).kept := bscHold_kept _
  have hfl : (bscHold (s.inMode .service)).fl = s.fl := by
    obtain ⟨-, h⟩ | ⟨-, h⟩ := bscHold_cases (s.inMode .service) <;> rw [h] <;> rfl
  rw [hbsc] at hchange
  refine ⟨_, rfl, hphase, ?_⟩
  rw [hchange]
  generalize bscHold (s.inMode .service) = v at *
  have hvmode : v.cr.mode = .service := congrArg Cr.mode (kept_cr hkept :)
  have hvop : v.operating = false := by simp [State.operating, hvmode]
  have hds : dsModeChange s.cr.mode v = dsHold v := by simp [dsModeChange, hvop, hoperates]
  have hheld : (dsHold v).kept = v.kept := dsHold_kept v
  have hwmode : (dsHold v).cr.mode = .service := (congrArg Cr.mode (kept_cr hheld)).trans hvmode
  have hsc : scModeChange s.cr.mode (dsHold v) = dsHold v := by simp [scModeChange, hwmode, hnot]
  have hwfl : (dsHold v).fl = s.fl := by
    by_cases hstarting : v.starting
    · obtain ⟨_, _, -, -, -, -, -, h⟩ := dsHold_of_starting hphase hvop hstarting
      rw [h, ← hfl]
    · obtain ⟨_, -, -, -, -, h⟩ := dsHold_of_not_starting hphase hstarting
      rw [h, ← hfl]
  rw [hds, hsc, flModeChange_held _ hwmode, ilcFollow_of_follows]
  · simp only [hwfl, State.port]
  · obtain ⟨henabled, -⟩ := hsender
    have hilc := hheld.trans hkept
    have htransmitter : (dsHold v).ilc.transmitter = s.ilc.transmitter := (kept_transmitter hilc :)
    have hstarted : (dsHold v).ilc.started = s.ilc.started := (kept_linkStarted hilc :)
    have hconflict : (dsHold v).ilc.conflict = s.ilc.conflict := (kept_conflict hilc :)
    have hsend : (dsHold v).maySend = s.maySend := by rw [maySend_of_operating hop, maySend_of_service hwmode, hconflict]
    dsimp only
    rw [htransmitter, hstarted, henabled]
    exact congrArg (s.ilc.started && ·) hsend.symm

/-- The state that a set held in SERVICE or FAULT comes to, with what it was (R121). -/
structure HeldTo (s : State) (d : Ds) (run : Bool) (crank : Pulse) : Prop where
  cleared : d.needSince = none ∧ d.forcedStop = false
  fallsBack : s.starting → d.state = some .standby ∧ run = false ∧ d.bias = 0
  stands : ¬ s.starting → run = s.ret.run ∧ d.bias = s.ds.bias ∧
    d.state = if s.ds.state = some .stopIntent ∨ s.ds.state = some .unload then some .online else s.ds.state
  uncranked : s.ds.state = some .crank → crank = .idle

theorem dsHold_eq (hphase : s.permitPhase = .idle) (hop : s.operating = false) : ∃ d run crank pwm, HeldTo s d run crank ∧
    dsHold s = { s with ds := d, ret := { s.ret with run }, tac := { s.tac with crank, pwm } } := by
  by_cases h : s.starting
  · obtain ⟨d, c, hstate, hbias, hneed, hforced, hcrank, heq⟩ := dsHold_of_starting hphase hop h
    exact ⟨d, false, c, 0, ⟨⟨hneed, hforced⟩, fun _ => ⟨hstate, rfl, hbias⟩, fun hn => absurd h hn, hcrank⟩, heq⟩
  · obtain ⟨d, hstate, hbias, hneed, hforced, heq⟩ := dsHold_of_not_starting hphase h
    refine ⟨d, s.ret.run, s.tac.crank, s.tac.pwm, ⟨⟨hneed, hforced⟩, fun hn => absurd hn h, fun _ => ⟨rfl, hbias, hstate⟩, fun hcrank => ?_⟩, heq⟩
    exact absurd (.inr (.inl hcrank)) h

theorem sessionEnd_eq (s : State) : sessionEnd s = s.withSession s.bsc.session.ended false false false := rfl

theorem bscHold_eq (s : State) : ∃ x pull edges stuck, x.phase = .idle ∧
    (s.permitPhase ≠ .idle → pull = false ∧ edges = false ∧ x = s.bsc.session.ended) ∧ bscHold s = s.withSession x pull edges stuck := by
  obtain ⟨h, h'⟩ | ⟨-, h'⟩ := bscHold_cases s <;> rw [h']
  · exact ⟨s.bsc.session, s.tac.permitPull, s.tac.permitEdges, s.tac.alarm.permitStuck, h, fun hn => absurd h hn, rfl⟩
  · exact ⟨_, _, _, _, rfl, fun _ => ⟨rfl, rfl, rfl⟩, sessionEnd_eq s⟩

/-- What SERVICE asserted in operation writes (R121, R155, R172, R177). -/
theorem crSetMode_service_eq (hop : s.operating = true) (hsender : s.senderFollows) : ∃ x pull edges stuck d run crank pwm,
    x.phase = .idle ∧ (s.permitPhase ≠ .idle → pull = false ∧ edges = false ∧ x = s.bsc.session.ended) ∧ HeldTo s d run crank ∧
    crSetMode .service s = { s with
      cr := { s.cr with mode := .service }
      bsc := { s.bsc with session := x }
      tac := { s.tac with permitPull := pull, permitEdges := edges, alarm := { s.tac.alarm with permitStuck := stuck }, crank, pwm }
      ds := d
      ret := { s.ret with run }
      fl := { s.fl with
        ports := .of fun p => (s.port p).map fun r => { r with tripOwed := none }
        swap := none, qualTimer := .stopped, qualified := false, overload := .stopped } } := by
  obtain ⟨v, hv, hphase, hu⟩ := crSetMode_service hop hsender
  obtain ⟨x, pull, edges, stuck, hidle, hended, hhold⟩ := bscHold_eq (s.inMode .service)
  rw [hhold] at hv
  have hvop : v.operating = false := by rw [hv]; rfl
  obtain ⟨d, run, crank, pwm, hheld, hset⟩ := dsHold_eq hphase hvop
  refine ⟨x, pull, edges, stuck, d, run, crank, pwm, hidle, hended, ?_, ?_⟩
  · rw [hv] at hheld
    exact ⟨hheld.cleared, hheld.fallsBack, hheld.stands, hheld.uncranked⟩
  · rw [hu, hset, hv]
    rfl

end

section
variable {s u v : State}

/-! ### SERVICE released -/

/-- The station with what the feeder ladder alone writes blotted out. -/
def State.offLadder (s : State) : State :=
  { s with
    fl := .reset
    ret := { s.ret with ports := .all none }
    tac := { s.tac with
      feederClose := .all .idle, feederTrip := .all .idle, feederWindow := .all .closedOut
      alarm := { s.tac.alarm with portFaulted := .all false } } }

theorem offLadder_ds (h : u.offLadder = v.offLadder) : u.ds = v.ds := by have := congrArg State.ds h; exact this
theorem offLadder_bsc (h : u.offLadder = v.offLadder) : u.bsc = v.bsc := by have := congrArg State.bsc h; exact this
theorem offLadder_kept (h : u.offLadder = v.offLadder) : u.kept = v.kept := by have := congrArg State.kept h; exact this

theorem State.SameButBreaker.offLadder {p : Port} (h : s.SameButBreaker (.feeder p) v) : v.offLadder = s.offLadder := by
  have hports := h.offPorts
  obtain ⟨-, -, tac, rfl, -⟩ := h
  have htac : _ = _ := congrArg (fun x : State => x.tac) hports
  exact congrArg (fun x : Tac => { s.offLadder with tac := x }) htac

/-- While the island is not RECOVER the ladder writes nothing but its own. -/
theorem offLadder_keeps {s₀ : State} (h₀ : s₀.bsc.island ≠ some .recover) : LadderKeeps fun u => u.offLadder = s₀.offLadder where
  ladder _ hs := hs
  breaker hsame hs := hsame.offLadder.trans hs
  entered _ _ _ _ hs := hs
  looked {s} hs := by
    have hbsc := offLadder_bsc hs
    rw [bscLook_of_not_recover (by rw [hbsc]; exact h₀)]
    exact hs

/-- A change of mode moves the island at no port: it acts on the ports in DARK alone (R154). -/
theorem flModeChange_offLadder (old : Mode) (s : State) : (flModeChange old s).offLadder = s.offLadder := by
  have habandoned : (if s.cr.mode = .coordinated then s else flAbandonSwap s).offLadder = s.offLadder := by split <;> rfl
  unfold flModeChange
  dsimp only
  generalize (if s.cr.mode = .coordinated then s else flAbandonSwap s) = v at *
  have hunqualified : (if v.cr.mode = .coordinated then v else flUnqualify v).offLadder = s.offLadder := by
    split <;> exact habandoned
  generalize (if v.cr.mode = .coordinated then v else flUnqualify v) = w at *
  split
  · split
    next hdark =>
      simp only [Bool.and_eq_true, decide_eq_true_eq] at hdark
      exact (flDark_keeps (offLadder_keeps (s₀ := w) (by rw [hdark.2]; nofun)) rfl).trans hunqualified
    · exact hunqualified
  · rw [flDropOwed_eq]
    exact hunqualified

theorem scModeChange_ds (old : Mode) (s : State) : (scModeChange old s).ds = s.ds := by
  unfold scModeChange
  split
  · unfold scZero
    split <;> rfl
  · split
    · obtain ⟨tac, sc, h⟩ := scTripAtDark_eq s
      rw [h]
    · rfl

theorem dsEnter_needSince (st : DieselState) (s : State) : (dsEnter st s).ds.needSince = none := by rw [dsEnter_ds]; rfl

theorem requestCrank_ds (w : Nat) (s : State) : (s.requestCrank w).ds = s.ds := by
  obtain ⟨-, h⟩ | ⟨-, h⟩ := s.requestCrank_cases w <;> rw [h]
  rfl

theorem setBias_needSince (b : Int) (s : State) : (setBias b s).ds.needSince = s.ds.needSince := rfl

theorem dsEnterOff_needSince (s : State) : (dsEnterOff s).ds.needSince = none := dsEnter_needSince .off s

theorem dsEnterSpool_needSince (s : State) : (dsEnterSpool s).ds.needSince = none := by
  rw [← dsEnter_needSince .spool s, ← setBias_needSince 0 (dsEnter .spool s)]
  rfl

theorem dsEnterCrank_needSince (s : State) : (dsEnterCrank s).ds.needSince = none := by
  unfold dsEnterCrank
  dsimp only
  split
  · exact dsEnterSpool_needSince _
  · rw [requestCrank_ds, ← dsEnter_needSince .crank s, ← setBias_needSince 0 (dsEnter .crank s)]
    rfl

theorem openIntent_ds (k : IntentKind) (s : State) : (openIntent k s).ds = { s.ds with
    intent := some (k, s.tb), timers := { s.ds.timers with window := .running s.tb (ms s.par.diesel.intentWindow) } } := by
  have htb : ∀ x : Ilc, State.tb { s with ilc := x } = s.tb := fun _ => rfl
  unfold openIntent
  obtain ⟨x, hx⟩ := placeFrame_sameButLink .intent (intentPayload k s.par.diesel.startRank s.par.station.rating)
    { s with ds := { s.ds with intent := some (k, s.tb) } }
  dsimp only
  rw [hx]
  rfl

theorem openIntent_needSince (k : IntentKind) (s : State) : (openIntent k s).ds.needSince = s.ds.needSince := by rw [openIntent_ds]

theorem dsForcedStop_needSince (s : State) : (dsForcedStop s).ds.needSince = none :=
  (openIntent_needSince .stop _).trans (dsEnter_needSince .stopIntent s)

/-- The return to operation starts the need anew (R121). -/
theorem dsResume_needSince (s : State) : (dsResume s).ds.needSince = none := by
  unfold dsResume
  dsimp only
  split
  · split
    · exact dsEnterOff_needSince _
    · split
      · exact dsEnterCrank_needSince _
      · rfl
  · split
    · unfold dsTripOffDark
      rw [dsEnterFailed_ds]
      rfl
    · split
      · exact dsForcedStop_needSince _
      · rfl
  · rfl

theorem crSetMode_cr (m : Mode) (s : State) : (crSetMode m s).cr = { s.cr with mode := m } := by
  obtain ⟨hmode, h⟩ | ⟨-, h⟩ := crSetMode_cases m s <;> rw [h]
  · rw [← hmode]
  · rw [ilcFollow_cr]
    have hkept := modeJobs_kept s.cr.mode (s.inMode m)
    rw [kept_cr hkept, s.inMode_eq m]

theorem crSetMode_needSince {m : Mode} (hold : s.cr.mode.held = true) (hm : m.operates = true) : (crSetMode m s).ds.needSince = none := by
  obtain ⟨hsame, -⟩ | ⟨-, h⟩ := crSetMode_cases m s
  · rw [hsame] at hold
    cases m <;> simp [Mode.held, Mode.operates] at hold hm
  · have hop : (bscModeChange s.cr.mode (s.inMode m)).operating = true := by
      rw [State.operating, kept_cr (bscModeChange_kept _ _), s.inMode_eq m]
      exact hm
    rw [h, ilcFollow_ds, offLadder_ds (flModeChange_offLadder _ _), scModeChange_ds]
    unfold dsModeChange
    rw [if_pos hop, if_pos hold]
    exact dsResume_needSince _

/-- The link stands at a change between modes in which the station may send (R56). -/
theorem crSetMode_sender {m : Mode} (hsender : s.senderFollows) (hsend : (s.inMode m).maySend = s.maySend) :
    (crSetMode m s).ilc.transmitter = s.ilc.transmitter ∧ (crSetMode m s).ilc.status = s.ilc.status := by
  obtain ⟨-, h⟩ | ⟨-, h⟩ := crSetMode_cases m s <;> rw [h]
  · exact ⟨rfl, rfl⟩
  · obtain ⟨henabled, -⟩ := hsender
    have hkept := modeJobs_kept s.cr.mode (s.inMode m)
    generalize flModeChange s.cr.mode (scModeChange s.cr.mode (dsModeChange s.cr.mode (bscModeChange s.cr.mode (s.inMode m)))) = v at *
    have hilc : (s.inMode m).ilc = s.ilc := by rw [s.inMode_eq m]
    have htransmitter : v.ilc.transmitter = s.ilc.transmitter := (kept_transmitter hkept).trans (congrArg Ilc.transmitter hilc)
    have hstatus : v.ilc.status = s.ilc.status := (kept_status hkept).trans (congrArg Ilc.status hilc)
    have hstarted : v.ilc.started = s.ilc.started := (kept_linkStarted hkept).trans (congrArg Ilc.started hilc)
    have hmay : v.maySend = s.maySend := by
      rw [← hsend, State.maySend, State.maySend, kept_conflict hkept, kept_cr hkept, State.operating, State.operating, kept_cr hkept]
    rw [ilcFollow_of_follows (by rw [htransmitter, hstarted, hmay, henabled])]
    exact ⟨htransmitter, hstatus⟩

theorem Pv.calledMode_eq (x : Pv) :
    x.calledMode = if x.conflict = true ∨ (∀ e ∈ x.table, e.fresh = false) then .autonomous else .coordinated := by
  unfold Pv.calledMode Pv.freshCount
  simp

theorem inMode_maySend_of_operates {m : Mode} (hm : m.operates = true) : (s.inMode m).maySend = !s.ilc.conflict := by
  have hop : (s.inMode m).operating = true := by
    rw [s.inMode_eq m]
    exact hm
  rw [maySend_of_operating hop, s.inMode_eq m]

theorem Pv.calledMode_operates (x : Pv) : x.calledMode.operates = true := by
  unfold Pv.calledMode
  split <;> rfl

/-- Settles O17: SERVICE is entered by a change of mode whose writes are said once, and left for the mode that the PV calls for. -/
theorem serviceHoldsJobs : Obligations.ServiceHoldsJobs := by
  intro s hphase hdue hsender
  have hrun : s.runs = true := by simpa [State.runs] using hphase
  refine ⟨fun hsample hmode => ?_, fun hsample hmode hcommit => ?_⟩
  · have hop : (s.qualify .service true).operating = true := by
      change (s.cr.mode == .coordinated || s.cr.mode == .autonomous) = true
      simpa using hmode
    have hreport : reportQualified .service true (s.qualify .service true) = crSetMode .service (s.qualify .service true) :=
      if_pos hop
    obtain ⟨x, pull, edges, stuck, d, run, crank, pwm, hidle, hended, ⟨hcleared, hfalls, hstands, hcrank⟩, hu⟩ :=
      crSetMode_service_eq hop hsender
    intro started
    refine ⟨_, exec_inputQualified ⟨hrun, hdue, hsample⟩, ?_⟩
    rw [hreport, hu]
    refine ⟨rfl, rfl, hcleared, hfalls, hstands, hcrank, fun c hc => ?_, fun b => ?_, rfl, hidle, hended, rfl, rfl, rfl, rfl, rfl, rfl, rfl⟩
    · cases c with
      | crank => exact absurd rfl hc
      | _ => rfl
    · cases b <;> rfl
  · have hreport : reportQualified .service false (s.qualify .service false) = crSetMode s.pv.calledMode (s.qualify .service false) := by
      have habandon : crAbandonCommit (s.qualify .service false) = s.qualify .service false := if_neg hcommit
      change crServiceReleased (s.qualify .service false) = _
      unfold crServiceReleased
      rw [habandon]
      exact if_pos hmode
    have hoperates := s.pv.calledMode_operates
    have hside := crSetMode_offMode s.pv.calledMode (s.qualify .service false)
    have hsend : ((s.qualify .service false).inMode s.pv.calledMode).maySend = (s.qualify .service false).maySend := by
      rw [inMode_maySend_of_operates hoperates, maySend_of_service (s := s.qualify .service false) hmode]
    obtain ⟨htransmitter, hstatus⟩ := crSetMode_sender (s := s.qualify .service false) hsender hsend
    refine ⟨_, exec_inputQualified ⟨hrun, hdue, hsample⟩, ?_⟩
    rw [hreport, ← Pv.calledMode_eq]
    exact ⟨crSetMode_cr _ _, htransmitter, hstatus, crSetMode_needSince (by rw [show (s.qualify .service false).cr.mode = .service from hmode]; rfl) hoperates,
      (offMode_mu hside :), (offMode_be hside :), (offMode_pv hside :), (offMode_mp hside :), (offMode_tb hside :)⟩

end

end Sys2Proof.Machine
end

section
/-! SUPPORT. The arbitration session and its contest. -/

namespace Sys2Proof.Machine

section
variable {s : State} {t : Tick}

/-! ### The arbitration session -/

/-- The station has joined the contest at an instant: PERMIT is pulled and the slot timer runs (R167). -/
def State.joined (s : State) (t : Tick) (x : Session) : State :=
  { s with
    tac := { s.tac with permitPull := true }
    bsc := { s.bsc with session := { x with
      phase := .start, slotStart := t, bit := 0, sampleNext := false, guard := .stopped, stuck := .stopped
      slot := .running t 200000 } } }

theorem bscJoin_eq (s : State) : bscJoin s = s.joined s.tb s.bsc.session := rfl

theorem bscFall_joins (hphase : s.permitPhase = .waiting) (hguard : s.bsc.session.guard.isRunning = true)
    (hjoin : s.bsc.session.guardOrigin = .request ∨ s.bsc.session.guard.expiry = some s.tb) : bscFall s = s.joined s.tb s.bsc.session := by
  rw [bscFall, if_pos (by simp [hphase, hguard]), if_pos hjoin, bscJoin_eq]

theorem bscFall_waits (hphase : s.permitPhase = .waiting) (hguard : s.bsc.session.guard.isRunning = true)
    (hedge : s.bsc.session.guardOrigin = .edge) (hexpiry : s.bsc.session.guard.expiry ≠ some s.tb) :
    bscFall s = (s.cancel .guard).start .stuck (sec s.par.black.permitTimeout) := by
  rw [bscFall, if_pos (by simp [hphase, hguard]), if_neg (by simp [hedge, hexpiry])]

/-- The others' pull of PERMIT at an instant. -/
def State.othersAt (s : State) (t : Tick) (pulled : Bool) : State :=
  { s with tb := t, tac := { s.tac with permitOthers := pulled } }

/-- A fall of PERMIT that another station makes on a quiet line, with edge reports on, reaches the session. -/
theorem exec_permitFall (hrun : s.phase = .running) (hlow : s.permitLow = false) (hedges : s.tac.permitEdges = true) :
    exec (.permitFallingEdge t false) s = .next (bscFall (s.othersAt t true)) := by
  have hruns : s.runs = true := by simp [State.runs, hrun]
  have hothers : s.othersDrive t true = s.othersAt t true := by
    rw [State.othersDrive, State.stampRunning, if_pos hruns, State.stamp, State.othersAt]
  change Host.Outcome.next _ = _
  rw [if_neg nofun, if_pos (by simp [hruns, hlow, hedges]), hothers]

/-- A rise of PERMIT, where the station does not pull it, reaches the session. -/
theorem exec_permitRise (hrun : s.phase = .running) (hpull : s.tac.permitPull = false) (hothers : s.tac.permitOthers = true) :
    exec (.permitRisingEdge t) s = .next (bscRise (s.othersAt t false)) := by
  have hruns : s.runs = true := by simp [State.runs, hrun]
  have hdrive : s.othersDrive t false = s.othersAt t false := by
    rw [State.othersDrive, State.stampRunning, if_pos hruns, State.stamp, State.othersAt]
  change Host.Outcome.next (if (s.runs && s.permitLow && !(s.othersDrive t false).permitLow) = true then _ else _) = _
  rw [hdrive, if_pos (by simp [State.permitLow, State.othersAt, hruns, hpull, hothers])]

/-- Settles O18: each edge and each timer of the session in WAITING and in HOLD, through the function of the BSC that takes it. -/
theorem sessionFollowsLine : Obligations.SessionFollowsLine := by
  intro t s x start
  refine ⟨fun hrun hlow hedges hphase hguard => ⟨fun hjoin => ?_, fun hedge hexpiry => ?_⟩, fun hrun hpull hothers hphase => ?_,
    fun ⟨hrun, hdue⟩ hphase => ?_, fun ⟨hrun, hdue⟩ hphase => ?_, fun c hc hphase => ?_⟩
  · rw [exec_permitFall hrun hlow hedges, bscFall_joins (s := s.othersAt t true) hphase hguard hjoin]
    rfl
  · rw [exec_permitFall hrun hlow hedges, bscFall_waits (s := s.othersAt t true) hphase hguard hedge hexpiry]
    rfl
  · rw [exec_permitRise hrun hpull hothers, bscRise, if_pos (show (s.othersAt t false).permitPhase = .waiting from hphase)]
    rfl
  · refine (onExpiry_due (id := .guard) _ hrun hdue).trans ?_
    rw [bscGuardExpired, if_pos (show ((s.stamp t).cancel .guard).permitPhase = .waiting from hphase)]
    rfl
  · refine (onExpiry_due (id := .stuck) _ hrun hdue).trans ?_
    rw [bscStuckExpired, if_pos (show ((s.stamp t).cancel .stuck).permitPhase = .waiting from hphase)]
    rfl
  · obtain ⟨rfl, hrun, hdue⟩ | ⟨rfl, hrun, hdue⟩ := hc
    · refine (onExpiry_due (id := .hold) _ hrun hdue).trans ?_
      rw [bscHoldExpired, if_pos (show ((s.stamp t).cancel .hold).permitPhase = .hold from hphase)]
      rfl
    · refine (onExpiry_due (id := .liveWait) _ hrun hdue).trans ?_
      rw [bscHoldExpired, if_pos (show ((s.stamp t).cancel .liveWait).permitPhase = .hold from hphase)]
      rfl

end

section
variable {s : State} {t : Tick} {others : Bool}

/-! ### The slot points of the contest -/

/-- The state in which a slot point is taken: the slot timer has expired, and the others' pull is what the command says. -/
def State.atSlot (s : State) (t : Tick) (others : Bool) : State :=
  { s with
    tb := t
    tac := { s.tac with permitOthers := others }
    bsc := { s.bsc with session := { s.bsc.session with slot := .stopped } } }

theorem exec_slot (h : s.due .slot t) : exec (.slotTimerExpiry others) s = .next (bscSlotExpired (s.atSlot t others)) :=
  onExpiry_due (id := .slot) _ h.1 h.2

theorem bscSlotExpired_of_start (h : s.permitPhase = .start) : bscSlotExpired s = bscDriveBit 0 s := by
  simp only [bscSlotExpired, h]

theorem bscSlotExpired_of_drive (h : s.permitPhase = .bits) (hsample : s.bsc.session.sampleNext = false) :
    bscSlotExpired s = bscDriveBit (s.bsc.session.bit + 1) s := by
  simp only [bscSlotExpired, h, hsample, Bool.false_eq_true, if_false]

theorem bscSlotExpired_of_sample (h : s.permitPhase = .bits) (hsample : s.bsc.session.sampleNext = true) :
    bscSlotExpired s = bscSample s := by
  simp only [bscSlotExpired, h, hsample, if_true]

theorem bscDriveBit_eq (i : Nat) (s : State) : bscDriveBit i s = { s with
    tac := { s.tac with permitPull := !s.bsc.ownWord.testBit (9 - i) }
    bsc := { s.bsc with session := { s.bsc.session with
      phase := .bits, bit := i, sampleNext := true, slot := .running s.tb 50000 } } } := rfl

/-- A slot point at which the own bit is lost: a released bit is read low (R169). -/
theorem bscSample_of_lost (hbit : s.wordBit s.bsc.session.bit = true) (hlow : s.permitLow = true) :
    bscSample s = dsLostOrLive (sessionEnd s) := by
  simp only [bscSample, hbit, hlow, Bool.and_self, if_true]

/-- A bit that is not lost, before the last: the next is driven at the next slot point (R169). -/
theorem bscSample_of_kept (hkept : (s.wordBit s.bsc.session.bit && s.permitLow) = false) (hbit : s.bsc.session.bit < 9) :
    bscSample s = { s with bsc := { s.bsc with session := { s.bsc.session with
      sampleNext := false, slot := .running s.tb 50000 } } } := by
  simp only [bscSample, hkept, show ¬ 9 ≤ s.bsc.session.bit by omega, Bool.false_eq_true, if_false]
  rfl

/-- The last bit that is not lost is the win (R170). -/
theorem bscSample_of_last (hkept : (s.wordBit s.bsc.session.bit && s.permitLow) = false) (hbit : s.bsc.session.bit = 9) :
    bscSample s = bscWin s := by
  simp only [bscSample, hkept, Bool.false_eq_true, if_false, show 9 ≤ s.bsc.session.bit by omega, if_true]

/-- SYNC entered beside a session that is not in HOLD writes the diesel record alone (R108). -/
theorem dsEnterSync_of_phase (hphase : s.permitPhase ≠ .hold) : dsEnterSync s = { s with
    ds := { s.ds.enter .sync with
      good := 0, timers := { s.ds.timers with sync := .running s.tb (s.par.diesel.syncTimeout * 10000000) } } } := by
  unfold dsEnterSync
  rw [dsEnter_of_phase _ hphase]
  rfl

/-- A lost or an ended contest takes the set to SYNC (R110). -/
theorem dsLostOrLive_sessionEnd (harb : s.ds.state = some .arbitrate) : dsLostOrLive (sessionEnd s) = { s with
    tac := { s.tac with permitPull := false, permitEdges := false, alarm := { s.tac.alarm with permitStuck := false } }
    bsc := { s.bsc with session := s.bsc.session.ended }
    ds := { s.ds.enter .sync with
      good := 0, timers := { s.ds.timers with sync := .running s.tb (s.par.diesel.syncTimeout * 10000000) } } } := by
  rw [dsLostOrLive, if_pos (State.dieselIs_iff.2 (show (sessionEnd s).ds.state = some .arbitrate from harb)),
    dsEnterSync_of_phase (s := sessionEnd s) nofun, sessionEnd_eq]
  rfl

/-- A source close is begun and its window watches for the breaker. -/
def State.closeBegun (s : State) (w : Nat) : State :=
  { s with tac := { s.tac with
      srcClose := .active .ds (.running s.tb (widthTicks .srcClose w))
      srcWindow := .watching .ds true (.running s.tb (ms s.par.diesel.confirmTime)) } }

/-- A close request for the source breaker, with both its channels IDLE and the breaker not qualified as closed, is taken. -/
theorem requestClose_source_idle (w : Nat) (hclose : s.pulse .srcClose = .idle) (htrip : s.pulse .srcTrip = .idle)
    (hlevel : s.level .srcCb ≠ .asserted) : s.requestClose .source .ds w true = (⟨.started, false, false⟩, s.closeBegun w) := by
  rw [State.requestClose_of_idle (b := .source) rfl (by rw [show s.pulse (closeChannel .source) = .idle from hclose]; rfl)
    (by rw [show s.pulse (tripChannel .source) = .idle from htrip]; rfl)]
  obtain ⟨hclosed, -⟩ | ⟨-, hopen⟩ := (s.beginPulse .srcClose .ds w).openWindow_cases .source .ds true
  · exact absurd hclosed hlevel
  · rw [State.openWindowIf, if_pos rfl]
    rw [show s.beginPulse (closeChannel .source) .ds w = s.beginPulse .srcClose .ds w from rfl, hopen]
    rfl

/-- CLOSING entered by a close that waits for its window, beside a session that is not in HOLD (R108, R110). -/
theorem dsEnterClosing_waits (deadBus : Bool) (hphase : s.permitPhase ≠ .hold) : dsEnterClosing deadBus false s = { s with
    ds := { { s.ds with timers := { s.ds.timers with sync := .stopped } }.enter .closing with
      deadBusClose := deadBus, closingInhibit := false } } := by
  unfold dsEnterClosing
  rw [dsEnter_of_phase (s := s.cancel .sync) _ hphase]
  rfl

/-- The dead-bus close of a won contest, taken by idle channels (R110). -/
theorem dsWon_of_idle (harb : s.ds.state = some .arbitrate) (hphase : s.permitPhase ≠ .hold) (hclose : s.pulse .srcClose = .idle)
    (htrip : s.pulse .srcTrip = .idle) (hlevel : s.level .srcCb ≠ .asserted) : dsWon s = { s.closeBegun s.par.diesel.pulse with
      ds := { { s.ds with timers := { s.ds.timers with sync := .stopped } }.enter .closing with
        deadBusClose := true, closingInhibit := false } } := by
  unfold dsWon
  rw [if_pos (State.dieselIs_iff.2 harb), requestClose_source_idle _ hclose htrip hlevel]
  exact dsEnterClosing_waits (s := s.closeBegun s.par.diesel.pulse) true hphase

/-- What a contest that is lost, or ended on a live bus, leaves: no session, and the set in SYNC. -/
theorem contest_ended {x : Session} {d : Nat} (harb : s.ds.state = some .arbitrate) (hx : s.bsc.session.ended = x.ended) (htb : s.tb = t)
    (hd : s.par.diesel.syncTimeout = d) :
    let u := dsLostOrLive (sessionEnd s)
    (u.permitPhase = .idle ∧ u.tac.permitPull = false ∧ u.tac.permitEdges = false ∧ u.bsc.session = x.ended) ∧
      (u.ds.state = some .sync ∧ u.ds.good = 0 ∧ u.ds.timers.sync = .running t (d * 10000000)) ∧ ∀ c, u.pulse c = s.pulse c := by
  intro u
  have hu : u = _ := dsLostOrLive_sessionEnd harb
  clear_value u
  subst htb hd hu
  refine ⟨⟨rfl, rfl, rfl, hx⟩, ⟨rfl, rfl, rfl⟩, fun c => ?_⟩
  cases c <;> rfl

/-- What a contest that is won leaves where the source close begins. -/
theorem contest_won (harb : s.ds.state = some .arbitrate) (hphase : s.permitPhase = .close) (hpull : s.tac.permitPull = true)
    (hclose : s.pulse .srcClose = .idle) (htrip : s.pulse .srcTrip = .idle) (hlevel : s.level .srcCb ≠ .asserted) :
    let u := dsWon s
    u.permitPhase = .close ∧ u.tac.permitPull = true ∧ u.ds.state = some .closing ∧ u.ds.deadBusClose = true ∧
      (u.pulse .srcClose).isActive = true ∧ (u.window .source).isWatching = true := by
  intro u
  have hu : u = _ := dsWon_of_idle harb (by rw [hphase]; nofun) hclose htrip hlevel
  rw [hu]
  exact ⟨hphase, hpull, rfl, rfl, rfl, rfl⟩

theorem atSlot_pulse (c : PulseChannel) : (s.atSlot t others).pulse c = s.pulse c := by cases c <;> rfl

theorem atSlot_kept : (s.atSlot t others).kept = { s with tb := t, tac := { s.tac with permitOthers := others } }.kept := rfl

/-- The own bit is not lost at a slot point where it is driven, or nothing pulls the line. -/
theorem atSlot_unlost {i : Nat} (h : (!s.bsc.ownWord.testBit (9 - i)) = true ∨ s.tac.permitPull = false ∧ others = false) :
    ((s.atSlot t others).wordBit i && (s.atSlot t others).permitLow) = false := by
  change (s.bsc.ownWord.testBit (9 - i) && (s.tac.permitPull || others)) = false
  obtain h | ⟨hpull, hothers⟩ := h
  · rw [show s.bsc.ownWord.testBit (9 - i) = false by simpa using h, Bool.false_and]
  · rw [hpull, hothers, Bool.or_self, Bool.and_false]

theorem bscWin_of_live (hlive : s.mu.latest.map (·.busCondition) = some .live) :
    bscWin s = dsLostOrLive (sessionEnd (s.drivePermit true)) := if_pos hlive

theorem bscWin_of_not_live (hlive : s.mu.latest.map (·.busCondition) ≠ some .live) :
    bscWin s = dsWon ((s.drivePermit true).putSession { s.bsc.session with phase := .close }) := if_neg hlive

/-- Settles O19: each slot point is the function of the BSC that its phase and its bit choose. -/
theorem slotPointsRunContest : Obligations.SlotPointsRunContest := by
  intro t others s hdue x zero ended synchronises drive
  have hexec := exec_slot (others := others) hdue
  refine ⟨fun hphase => ?_, fun hphase hsample => ?_, fun hphase hsample hbit hzero => ?_, fun hphase hsample hbit hothers harb => ?_,
    fun hphase hsample hbit hzero harb => ?_⟩
  · rw [hexec, bscSlotExpired_of_start (s := s.atSlot t others) hphase, bscDriveBit_eq]
    rfl
  · rw [hexec, bscSlotExpired_of_drive (s := s.atSlot t others) hphase hsample, bscDriveBit_eq]
    rfl
  · rw [hexec, bscSlotExpired_of_sample (s := s.atSlot t others) hphase hsample,
      bscSample_of_kept (s := s.atSlot t others) (atSlot_unlost hzero) hbit]
    rfl
  · have hword : s.bsc.ownWord.testBit (9 - x.bit) = true := by simpa [zero] using hbit
    have hlow : (s.atSlot t others).permitLow = true := by
      change (s.tac.permitPull || others) = true
      rw [hothers, Bool.or_true]
    have hsampled : bscSlotExpired (s.atSlot t others) = dsLostOrLive (sessionEnd (s.atSlot t others)) := by
      rw [bscSlotExpired_of_sample (s := s.atSlot t others) hphase hsample]
      exact bscSample_of_lost hword hlow
    have hkept := bscSlotExpired_kept (s := s.atSlot t others)
    obtain ⟨hended, hsync, hpulse⟩ := contest_ended (s := s.atSlot t others) (x := x) harb rfl rfl rfl
    rw [← hsampled] at hended hsync hpulse
    exact ⟨_, hexec, hended, hsync, fun c => (hpulse c).trans (atSlot_pulse c), hkept.trans atSlot_kept⟩
  · have hsampled : bscSlotExpired (s.atSlot t others) = bscWin (s.atSlot t others) := by
      rw [bscSlotExpired_of_sample (s := s.atSlot t others) hphase hsample]
      exact bscSample_of_last (s := s.atSlot t others)
        (by rw [show (s.atSlot t others).bsc.session.bit = 9 from hbit]; exact atSlot_unlost hzero) hbit
    have hkept := bscSlotExpired_kept (s := s.atSlot t others)
    refine ⟨_, hexec, fun hlive => ?_, fun hlive hclose htrip hlevel => ?_, hkept.trans atSlot_kept⟩
    · obtain ⟨hended, hsync, hpulse⟩ := contest_ended (s := (s.atSlot t others).drivePermit true) (x := x) harb rfl rfl rfl
      rw [← bscWin_of_live (s := s.atSlot t others) hlive, ← hsampled] at hended hsync hpulse
      exact ⟨hended, hsync, fun c => (hpulse c).trans (by cases c <;> rfl)⟩
    · have hwon := contest_won
        (s := ((s.atSlot t others).drivePermit true).putSession { (s.atSlot t others).bsc.session with phase := .close })
        harb rfl rfl hclose htrip hlevel
      rw [← bscWin_of_not_live (s := s.atSlot t others) hlive, ← hsampled] at hwon
      exact hwon

end

end Sys2Proof.Machine
end

section
/-! SUPPORT. Characters, good frames and what they reach. -/

namespace Sys2Proof.Machine

section
variable {s : State} {x : Ilc} {fall : Tick} {c : LinkChar}

/-! ### Characters on the line -/

/-- The transmitter sends no frame. -/
def Ilc.quiet (x : Ilc) : Prop := ∀ k payload start echoes, x.transmitter ≠ .sending k payload start echoes

theorem ilcTake_sending {k : FrameKind} {payload : List Byte} {start : Tick} {echoes : List LinkChar}
    (h : x.transmitter = .sending k payload start echoes) :
    ilcTake fall c x = { x with transmitter := .sending k payload start (echoes ++ [c]) } := by
  simp only [ilcTake, h]

/-- Without an attempt a character is kept only where the driver is released: the receiver judges it (R48, R51, log 23). -/
theorem ilcTake_quiet (hquiet : x.quiet) :
    ilcTake fall c x =
      if x.finishing ≠ none then x
      else match x.receiver with
        | .collecting burst overlong => { x with receiver := appendChar burst overlong c }
        | .waiting => if (x.endIdle || (x.idleSince.map (idleBefore fall)).getD false) = true then { x with receiver := .collecting [c] false } else x
        | .ignoring | .notStarted => x := by
  unfold ilcTake
  cases htx : x.transmitter with
  | sending k payload start echoes => exact absurd htx (hquiet k payload start echoes)
  | disabled => cases x.finishing <;> cases x.receiver <;> rfl
  | ready => cases x.finishing <;> cases x.receiver <;> rfl

theorem idleBefore_iff {since : Tick} : idleBefore fall since = true ↔ 400 < (since - fall).toNat ∧ 800 ≤ (fall - since).toNat := by
  rw [idleBefore, Bool.and_eq_true, decide_eq_true_iff, decide_eq_true_iff]
  exact Iff.rfl

/-- A fall whose middle is high again is a glitch (R37). -/
theorem ilcCharacter_glitch {bits : BitVec 10} (h : bits.getLsbD 0 = true) : ilcCharacter fall bits s = { s with tb := fall + 20 } := by
  simp only [ilcCharacter, linkChar, h, if_true]
  rfl

/-- A character before the start of the ILC moves the time base alone (R38). -/
theorem ilcCharacter_unstarted {bits : BitVec 10} (h : bits.getLsbD 0 = false) (hstarted : s.ilc.started = false) :
    ilcCharacter fall bits s = { s with tb := fall + 380 } := by
  simp only [ilcCharacter, linkChar, h, Bool.false_eq_true, if_false, State.stamp, hstarted]
  rfl

/-- A character is taken by the transmitter or by the receiver, and the idle measure starts at its end (R38). -/
theorem ilcCharacter_taken {bits : BitVec 10} {v : Ilc} (h : bits.getLsbD 0 = false) (hstarted : s.ilc.started = true)
    (hv : ilcTake fall ⟨bits.extractLsb' 1 8, !bits.getLsbD 9⟩ s.ilc = v) :
    ilcCharacter fall bits s = { s with tb := fall + 380, ilc := { v with idleSince := some (fall + 400), endIdle := false } } := by
  subst hv
  simp only [ilcCharacter, linkChar, h, Bool.false_eq_true, if_false, State.stamp, hstarted, if_true]
  rfl

theorem exec_character (bits : BitVec 10) (hrun : s.phase = .running) :
    exec (.characterReceived fall bits) s = .next (ilcCharacter fall bits s) :=
  whileRunning_runs _ (by simp [State.runs, hrun])

/-- The ticks of an attempt, cut into its characters, their bits and the ticks of a bit (R37). -/
theorem elapsed_of_bit {start : Tick} {i bit tick : Nat} (hi : i < 100) (hbit : bit < 10) (htick : tick < 40) :
    elapsed (start + BitVec.ofNat 32 (400 * i + 40 * bit + tick)) start = 400 * i + 40 * bit + tick := by
  rw [elapsed, add_sub_cancel_left, BitVec.toNat_ofNat, Nat.mod_eq_of_lt (by omega)]

theorem charLevel_eq (b : Byte) {bit : Nat} (hbit : bit < 10) :
    charLevel b bit = if bit = 0 then false else if bit = 9 then true else b.getLsbD (bit - 1) := by
  unfold charLevel
  split
  · rfl
  · by_cases h9 : bit = 9
    · rw [if_pos h9, if_neg (by omega)]
    · rw [if_neg h9, if_pos (by omega)]

theorem linkLevel_sending {k : FrameKind} {payload : List Byte} {start now : Tick} {echoes : List LinkChar}
    (h : s.ilc.transmitter = .sending k payload start echoes) :
    s.linkLevel now =
      (frameChars s.address k payload)[elapsed now start / 400]?.map fun b => charLevel b (elapsed now start % 400 / 40) := by
  simp only [State.linkLevel, h]

/-- Settles O20: a fall is a glitch or a character, which the transmitter or the receiver takes; the driver's level at a tick of an attempt
is that of the bit that the tick falls in. -/
theorem fallsFormCharacters : Obligations.FallsFormCharacters := by
  refine ⟨fun fall bits s hrun => ?_, fun k payload start echoes s htx => ⟨fun i b hi hb bit tick hbit htick => ?_, fun now hnow => ?_⟩⟩
  · intro char x took
    have htook {v : Ilc} (hlow : bits.getLsbD 0 = false) (hstarted : x.started = true) (hv : ilcTake fall char x = v) :
        exec (.characterReceived fall bits) s = .next (took v) :=
      (exec_character bits hrun).trans (congrArg _ (ilcCharacter_taken hlow hstarted hv))
    refine ⟨fun hhigh => ?_, fun hlow hstarted => ?_, fun hlow hstarted =>
      ⟨fun k payload start echoes htx => htook hlow hstarted (ilcTake_sending htx), fun hquiet hfinishing => ?_, fun hquiet hfinishing => ?_⟩⟩
    · exact (exec_character bits hrun).trans (congrArg _ (ilcCharacter_glitch hhigh))
    · exact (exec_character bits hrun).trans (congrArg _ (ilcCharacter_unstarted hlow hstarted))
    · exact htook hlow hstarted (by rw [ilcTake_quiet hquiet, if_pos hfinishing])
    · have htake := ilcTake_quiet (fall := fall) (c := char) hquiet
      rw [if_neg (fun h => h hfinishing)] at htake
      refine ⟨fun burst overlong hreceiver => ?_, fun hreceiver hidle => ?_, fun hreceiver hend hidle => ?_, fun hreceiver => ?_⟩ <;>
        rw [hreceiver] at htake
      · exact htook hlow hstarted htake
      · refine htook hlow hstarted (htake.trans (if_pos ?_))
        obtain hend | ⟨since, hsince, hbefore⟩ := hidle
        · rw [hend, Bool.true_or]
        · rw [hsince, Option.map_some, Option.getD_some, idleBefore_iff.2 hbefore, Bool.or_true]
      · refine htook hlow hstarted (htake.trans (if_neg ?_))
        rw [hend, Bool.false_or]
        cases hsince : x.idleSince with
        | none => nofun
        | some since =>
          intro hbefore
          obtain ⟨hlast, hquiet⟩ := idleBefore_iff.1 hbefore
          have := hidle since hsince
          omega
      · exact htook hlow hstarted htake
  · have hticks := elapsed_of_bit (start := start) hi hbit htick
    rw [linkLevel_sending htx, hticks, show (400 * i + 40 * bit + tick) / 400 = i by omega,
      show (400 * i + 40 * bit + tick) % 400 / 40 = bit by omega, hb, Option.map_some, charLevel_eq b hbit]
  · rw [linkLevel_sending htx, List.getElem?_eq_none (by rw [Nat.le_div_iff_mul_le (by decide), Nat.mul_comm]; exact hnow), Option.map_none]

end

section
variable {s : State} {since : Tick} {burst : List LinkChar} {overlong : Bool} {a b : Nat}

/-! ### A good STATUS (R53, R61, R62, R69) -/

theorem find_entry_cons (x : Entry) (l : List Entry) (b : Nat) :
    (x :: l).find? (·.address == b) = if x.address = b then some x else l.find? (·.address == b) := by
  split
  next h => exact List.find?_cons_of_pos (by simpa using h)
  next h => exact List.find?_cons_of_neg (by simpa using h)

/-- An entry put into the table is the one found for its address, and every other address finds what it found. -/
theorem find_putEntry (e : Entry) (l : List Entry) (b : Nat) :
    (putEntry e l).find? (·.address == b) = if e.address = b then some e else l.find? (·.address == b) := by
  induction l with
  | nil => exact find_entry_cons e [] b
  | cons x l ih =>
    unfold putEntry
    split
    · exact find_entry_cons e (x :: l) b
    next hlt =>
      split
      next heq =>
        rw [find_entry_cons, find_entry_cons]
        split <;> [rfl; rw [if_neg (by omega)]]
      next hne =>
        rw [find_entry_cons, ih, find_entry_cons]
        split <;> [rw [if_neg (by omega)]; rfl]

/-- The first STATUS of a sender, with room in the table, and each later one, puts its sender's entry (R61, R62). -/
theorem Pv.status_of_room {v : Pv} {m : StatusMsg} {t : Tick} (h : v.entry a ≠ none ∨ v.table.length < 31) :
    v.status a m t = { v with table := putEntry (entryOf a ((v.entry a).bind (·.intent)) m t) v.table } := by
  unfold Pv.status
  split
  next he => rw [he]; rfl
  next he =>
    rw [if_pos (h.resolve_left fun hne => hne he), he]
    rfl

theorem Pv.status_of_full {v : Pv} {m : StatusMsg} {t : Tick} (hentry : v.entry a = none) (hfull : v.table.length = 31) :
    v.status a m t = { v with tableFull := saturate v.tableFull } := by
  unfold Pv.status
  rw [hentry, hfull]
  rfl

theorem Pv.status_entry_other {v : Pv} {m : StatusMsg} {t : Tick} (hb : b ≠ a) : (v.status a m t).entry b = v.entry b := by
  have hput (e : Entry) (he : e.address = a) : (putEntry e v.table).find? (·.address == b) = v.table.find? (·.address == b) := by
    rw [find_putEntry, if_neg (by rw [he]; exact hb.symm)]
  unfold Pv.status
  split
  · exact hput _ rfl
  · split
    · exact hput _ rfl
    · rfl

theorem mem_putEntry_self (e : Entry) (l : List Entry) : e ∈ putEntry e l := by
  have h := find_putEntry e l e.address
  rw [if_pos rfl] at h
  exact List.mem_of_find?_eq_some h

theorem Pv.freshCount_eq_zero {v : Pv} : v.freshCount = 0 ↔ ∀ e ∈ v.table, e.fresh = false := by simp [Pv.freshCount]

/-- A FRESH entry stays, or a FRESH one takes its place. -/
theorem Pv.status_fresh {v : Pv} {m : StatusMsg} {t : Tick} (h : v.freshCount ≠ 0) : (v.status a m t).freshCount ≠ 0 := by
  simp only [Ne, Pv.freshCount_eq_zero, not_forall, Bool.not_eq_false] at h ⊢
  obtain ⟨x, hx, hfresh⟩ := h
  by_cases hroom : v.entry a ≠ none ∨ v.table.length < 31
  · rw [Pv.status_of_room hroom]
    exact ⟨_, mem_putEntry_self _ _, rfl⟩
  · refine ⟨x, ?_, hfresh⟩
    unfold Pv.status
    rw [not_or, not_not] at hroom
    rw [hroom.1, if_neg hroom.2]
    exact hx

/-- What a link following its mode leaves of it: the counters and the flag. -/
theorem ilcFollow_counters (s : State) : (ilcFollow s).ilc.counters = s.ilc.counters := by
  unfold ilcFollow
  split
  · split
    · obtain ⟨_, hu, -⟩ := draw_eq { s with ilc := { s.ilc with transmitter := .ready, slots := .empty } }
      unfold ilcEnable
      dsimp only
      rw [hu]
      rfl
    · split <;> rfl
  · rfl

theorem crSetMode_counters (m : Mode) (s : State) : (crSetMode m s).ilc.counters = s.ilc.counters := by
  obtain ⟨-, h⟩ | ⟨-, h⟩ := crSetMode_cases m s <;> rw [h]
  rw [ilcFollow_counters, kept_counters (modeJobs_kept _ _), s.inMode_eq m]

/-- A change of the fresh count that is not reported leaves the station as it is. -/
theorem crReport_of_same {before : Nat} (h : (before == 0) = (s.pv.freshCount == 0)) : crReport before s = s := by
  rw [crReport, h]
  simp

theorem crReport_of_changed {before : Nat} (h : (before == 0) ≠ (s.pv.freshCount == 0)) : crReport before s = crFollow s := by
  rw [crReport, if_pos (by simpa using h)]

theorem crReport_offMode (before : Nat) (s : State) : (crReport before s).offMode = s.offMode := by
  obtain h | ⟨-, h⟩ := crReport_cases before s <;> rw [h]
  exact crSetMode_offMode _ _

theorem crReport_counters (before : Nat) (s : State) : (crReport before s).ilc.counters = s.ilc.counters := by
  obtain h | ⟨-, h⟩ := crReport_cases before s <;> rw [h]
  exact crSetMode_counters _ _

/-- The state with a good STATUS counted and applied to the table. -/
def State.statusTaken (s : State) (a : Nat) (m : StatusMsg) : State := { ilcCountReceived s with pv := s.pv.status a m s.tb }

theorem deliver_status {m : StatusMsg} (ha : a ≠ s.address) : deliver ⟨a, .status m⟩ s = crReport s.pv.freshCount (s.statusTaken a m) :=
  if_neg ha

/-- A good STATUS of another station reaches the table, and its sender's freshness the mode. -/
theorem exec_status {m : StatusMsg} (hrun : s.phase = .running) (hidle : s.ilc.idleSince = some since)
    (hrec : s.ilc.receiver = .collecting burst overlong) (hgood : judgeBurst burst overlong = some ⟨a, .status m⟩) (ha : a ≠ s.address) :
    exec .burstClose s = .next (crReport s.pv.freshCount ((s.readyAt (since + 800)).statusTaken a m)) := by
  rw [exec_burstClose_of_good hrun hidle hrec hgood, deliver_status (by rw [State.readyAt_address]; exact ha), State.readyAt_pv]

/-- The state in which a good STATUS has made its sender's entry, but for the mode. -/
theorem entryOf_intent {before : Option IntentRecord} {m : StatusMsg} {t : Tick} {k : IntentKind} (hk : m.intent = some k) :
    ∃ r, (entryOf a before m t).intent = some r ∧ r.kind = k ∧ r.rank = m.startRank ∧ r.rating = m.rating ∧
      (∀ old, before = some old → old.kind = k → r.receipt = old.receipt) ∧
      ((∀ old, before = some old → old.kind ≠ k) → r.receipt = t) := by
  refine ⟨_, congrArg (Option.map _) hk, rfl, rfl, rfl, fun old hold hsame => ?_, fun hnew => ?_⟩
  · subst hold
    exact if_pos hsame
  · cases before with
    | none => rfl
    | some old => exact if_neg (hnew old rfl)

/-- Settles O22: the table takes the STATUS by its two cases, and the mode follows the fresh count. -/
theorem statusMakesEntryFresh : Obligations.StatusMakesEntryFresh := by
  intro since burst overlong a m s hrun hformed hidle hrec hgood ha before
  have hexec := exec_status hrun hidle hrec hgood ha
  generalize since + 800 = now at hexec ⊢
  have hpvTaken : ((s.readyAt now).statusTaken a m).pv = s.pv.status a m now := rfl
  have hcrTaken : ((s.readyAt now).statusTaken a m).cr = s.cr := rfl
  have hcountersTaken : ((s.readyAt now).statusTaken a m).ilc.counters =
    { s.ilc.counters with received := saturate s.ilc.counters.received } := rfl
  have htbTaken : ((s.readyAt now).statusTaken a m).tb = now := rfl
  have hmuTaken : ((s.readyAt now).statusTaken a m).mu = s.mu := rfl
  have hbeTaken : ((s.readyAt now).statusTaken a m).be = s.be := rfl
  have hmpTaken : ((s.readyAt now).statusTaken a m).mp = s.mp := rfl
  generalize (s.readyAt now).statusTaken a m = v at *
  have hside := crReport_offMode s.pv.freshCount v
  have hpv := (offMode_pv hside).trans hpvTaken
  refine ⟨_, hexec, (offMode_tb hside).trans htbTaken, (offMode_mu hside).trans hmuTaken, (offMode_be hside).trans hbeTaken,
    (offMode_mp hside).trans hmpTaken, fun hreceived => ?_,
    fun b hb => ?_, ?_, fun hentry hfull => ?_, fun hroom => ?_, fun hroom hmode hconflict hstale => ?_, fun ⟨e, he, hfresh⟩ => ?_⟩
  · rw [crReport_counters, hcountersTaken, saturate_of_lt hreceived]
  · rw [hpv, Pv.status_entry_other hb]
  · rw [hpv, Pv.status_conflict]
  · rw [hpv, Pv.status_of_full hentry hfull]
    exact ⟨rfl, saturate_of_lt⟩
  · rw [hpv, Pv.status_of_room hroom]
    refine ⟨entryOf a (before.bind (·.intent)) m now, (find_putEntry _ _ a).trans (if_pos rfl), rfl, rfl, rfl, rfl, rfl, rfl, rfl, rfl,
      rfl, rfl, rfl, rfl, rfl, rfl, rfl, rfl, rfl, rfl, fun hm => ?_, fun k hk => entryOf_intent hk⟩
    exact congrArg (Option.map _) hm
  · have hzero : s.pv.freshCount = 0 := Pv.freshCount_eq_zero.2 hstale
    have hnow : v.pv.freshCount ≠ 0 := by
      rw [hpvTaken, Pv.status_of_room hroom]
      exact fun h => absurd (Pv.freshCount_eq_zero.1 h _ (mem_putEntry_self _ _)) nofun
    have hcalled : v.pv.calledMode = .coordinated := by
      rw [Pv.calledMode, hpvTaken, Pv.status_conflict, hconflict, ← hpvTaken, decide_eq_false hnow]
      rfl
    rw [crReport_of_changed (by rw [hzero, beq_self_eq_true, beq_eq_false_iff_ne.2 hnow]; nofun), crFollow,
      if_pos (by rw [State.operating, hcrTaken, hmode]; rfl), crSetMode_cr, hcalled, hcrTaken]
  · have hsome : s.pv.freshCount ≠ 0 := fun h => absurd (Pv.freshCount_eq_zero.1 h e he) (by rw [hfresh]; nofun)
    have hnow : v.pv.freshCount ≠ 0 := by rw [hpvTaken]; exact Pv.status_fresh hsome
    rw [crReport_of_same (by rw [beq_eq_false_iff_ne.2 hsome, beq_eq_false_iff_ne.2 hnow]), hcrTaken]

end

section
variable {Z : Scope} {s t u : State} {a : Nat}

/-! ### The own address heard (R54, R56, R70, R72) -/

/-- What the jobs leave of the TAC: the ALARM causes of mode FAULT and of the address conflict, and the debounce counts. -/
def State.heldLines (s : State) : Bool × Bool × Nat × Nat :=
  (s.tac.alarm.modeFault, s.tac.alarm.addressConflict, s.tac.breakerDebounce, s.tac.otherDebounce)

/-- No act shows or clears an address conflict or mode FAULT, or takes new debounce counts. -/
theorem Act.heldLines (h : Act Z s t) : t.heldLines = s.heldLines := by
  have hpulse (c : PulseChannel) (x : Pulse) : (s.putPulse c x).heldLines = s.heldLines := by
    cases c <;> rfl
  have hwindow (b : Breaker) (w : Window) : (s.putWindow b w).heldLines = s.heldLines := by
    cases b <;> rfl
  cases h with
  | idlePulse c => exact hpulse c _
  | closePulse b x => exact hpulse _ x
  | tripPulse b x => exact hpulse _ x
  | crankPulse x => exact hpulse _ x
  | window b w => exact hwindow b w
  | timer id x =>
    cases id with
    | pulse c => exact hpulse c _
    | confirm b => exact hwindow b _
    | _ => rfl
  | _ => rfl

theorem Acts.heldLines (h : Acts Z s t) : t.heldLines = s.heldLines :=
  h.keep_eq fun _ _ => Act.heldLines

theorem Acts.addressConflict (h : Acts Z s t) : t.tac.alarm.addressConflict = s.tac.alarm.addressConflict :=
  congrArg (fun x => x.2.1) h.heldLines

theorem crSetMode_addressConflict (m : Mode) (s : State) : (crSetMode m s).tac.alarm.addressConflict = s.tac.alarm.addressConflict := by
  obtain ⟨-, h⟩ | ⟨-, h⟩ := crSetMode_cases m s <;> rw [h]
  have hjobs := (modeJobs_acts (Z := .full True) s.cr.mode trivial trivial (.refl (s.inMode m))).addressConflict
  generalize flModeChange s.cr.mode (scModeChange s.cr.mode (dsModeChange s.cr.mode (bscModeChange s.cr.mode (s.inMode m)))) = v at *
  obtain ⟨x, hx, -⟩ := ilcFollow_eq v
  rw [hx]
  refine hjobs.trans ?_
  rw [s.inMode_eq m]

theorem crSetMode_linkFlags (m : Mode) (s : State) :
    (crSetMode m s).ilc.started = s.ilc.started ∧ (crSetMode m s).ilc.conflict = s.ilc.conflict := by
  obtain ⟨-, h⟩ | ⟨-, h⟩ := crSetMode_cases m s <;> rw [h]
  · exact ⟨rfl, rfl⟩
  obtain ⟨x, hx, hstarted, hconflict⟩ :=
    ilcFollow_eq (flModeChange s.cr.mode (scModeChange s.cr.mode (dsModeChange s.cr.mode (bscModeChange s.cr.mode (s.inMode m)))))
  have hkept := modeJobs_kept s.cr.mode (s.inMode m)
  rw [hx]
  refine ⟨hstarted.trans ((kept_linkStarted hkept).trans ?_), hconflict.trans ((kept_conflict hkept).trans ?_)⟩ <;> rw [s.inMode_eq m]

/-- What the CR does about a conflict shown: it holds an operating mode at AUTONOMOUS. -/
theorem crFollow_of_conflict (h : s.pv.conflict = true) :
    (crFollow s).offMode = s.offMode ∧ (crFollow s).ilc.counters = s.ilc.counters ∧
      (crFollow s).tac.alarm.addressConflict = s.tac.alarm.addressConflict ∧ (crFollow s).ilc.started = s.ilc.started ∧
      (crFollow s).ilc.conflict = s.ilc.conflict ∧
      (crFollow s).cr = if s.operating = true then { s.cr with mode := .autonomous } else s.cr := by
  have hcalled : s.pv.calledMode = .autonomous := by rw [Pv.calledMode, h]; rfl
  unfold crFollow
  split
  · rw [hcalled]
    obtain ⟨hstarted, hconflict⟩ := crSetMode_linkFlags .autonomous s
    exact ⟨crSetMode_offMode _ _, crSetMode_counters _ _, crSetMode_addressConflict _ _, hstarted, hconflict, crSetMode_cr _ _⟩
  · exact ⟨rfl, rfl, rfl, rfl, rfl, rfl⟩

/-- With the conflict flag set a link that has started is DISABLED (R56). -/
theorem ilcFollow_disabled (hstarted : s.ilc.started = true) (hconflict : s.ilc.conflict = true) :
    (ilcFollow s).ilc.transmitter = .disabled := by
  have hmay : s.maySend = false := by rw [State.maySend, hconflict, Bool.not_true, Bool.and_false]
  unfold ilcFollow
  rw [if_pos hstarted, hmay, Bool.false_and, if_neg nofun]
  split
  · rfl
  next henabled =>
    rw [Bool.not_false, Bool.true_and] at henabled
    cases htx : s.ilc.transmitter with
    | disabled => rfl
    | ready => exact absurd (by rw [htx]; rfl) henabled
    | sending k payload start echoes => exact absurd (by rw [htx]; rfl) henabled

theorem deliver_own {msg : Msg} (h : a = s.address) : deliver ⟨a, msg⟩ s = crConflict s := if_pos h

theorem crConflict_of_known (h : s.ilc.conflict = true) : crConflict s = ilcCountOwn s := if_pos h

theorem crConflict_of_first (h : s.ilc.conflict = false) : crConflict s = ilcFollow (crFollow (ilcCountOwn s).inConflict) :=
  if_neg (by rw [show (ilcCountOwn s).ilc.conflict = false from h]; nofun)

/-- What the first conflict leaves. -/
theorem crConflict_leaves (h : s.ilc.conflict = false) :
    (crConflict s).ilc.counters = { s.ilc.counters with ownAddress := saturate s.ilc.counters.ownAddress } ∧
      (crConflict s).ilc.conflict = true ∧ (crConflict s).pv = { s.pv with conflict := true } ∧ (crConflict s).tb = s.tb ∧
      (crConflict s).mu = s.mu ∧ (crConflict s).be = s.be ∧ (crConflict s).tac.alarm.addressConflict = true ∧
      (s.ilc.started = true → (crConflict s).ilc.transmitter = .disabled) ∧
      (crConflict s).cr = if s.operating = true then { s.cr with mode := .autonomous } else s.cr := by
  rw [crConflict_of_first h]
  obtain ⟨hside, hcounters, halarm, hstarted, hconflict, hcr⟩ := crFollow_of_conflict (s := (ilcCountOwn s).inConflict) rfl
  generalize crFollow (ilcCountOwn s).inConflict = v at *
  obtain ⟨x, hx, -, hxconflict⟩ := ilcFollow_eq v
  have hoff := ilcFollow_offMode v
  exact ⟨(ilcFollow_counters v).trans hcounters, by rw [hx]; exact hxconflict.trans hconflict, (offMode_pv (hoff.trans hside) :),
    (offMode_tb (hoff.trans hside) :), (offMode_mu (hoff.trans hside) :), (offMode_be (hoff.trans hside) :), by rw [hx]; exact halarm,
    fun hs => ilcFollow_disabled (hstarted.trans hs) hconflict, (ilcFollow_cr v).trans hcr⟩

theorem crConflict_senderFollows (h : s.ilc.conflict = false) (hs : s.senderFollows) : (crConflict s).senderFollows := by
  rw [crConflict_of_first h]
  exact conflict_senderFollows (State.senderHeld_of_eq (s := s) rfl rfl id (fun _ => rfl) hs.held)

/-- A link that follows a conflict flag waits for nothing. -/
theorem State.senderFollows.of_conflict (hs : s.senderFollows) (h : s.ilc.conflict = true) :
    s.ilc.slots = .empty ∧ s.ilc.status.isRunning = false := by
  obtain ⟨henabled, hstatus, hslots⟩ := hs
  have hoff : s.ilc.transmitter.enabled = false := by
    rw [henabled, State.maySend, h, Bool.not_true, Bool.and_false, Bool.and_false]
  exact ⟨hslots hoff, hstatus.trans hoff⟩

/-- Settles O24: a conflict that is known is counted, and the first one is shown and followed. -/
theorem ownAddressIsConflict : Obligations.OwnAddressIsConflict := by
  intro since burst overlong msg s hrun hidle hrec hgood hcount
  have hexec := exec_burstClose_of_good hrun hidle hrec hgood
  rw [deliver_own (State.readyAt_address s _).symm] at hexec
  generalize hv : s.readyAt (since + 800) = v at hexec
  have hilc : v.ilc = { s.ilc with receiver := .waiting, endIdle := true } := by rw [← hv]; rfl
  have hv' : v = { s with tb := since + 800, ilc := { s.ilc with receiver := .waiting, endIdle := true } } := by rw [← hv]; rfl
  generalize since + 800 = now at *
  refine ⟨_, hexec, ?_⟩
  cases hconflict : s.ilc.conflict with
  | true =>
    rw [crConflict_of_known (by rw [hilc]; exact hconflict), hv', ilcCountOwn, saturate_of_lt hcount]
    exact ⟨rfl, hconflict, rfl, rfl, rfl, rfl, fun _ => rfl, nofun⟩
  | false =>
    obtain ⟨hcounters, hflag, hpv, htb, hmu, hbe, halarm, hdisabled, hcr⟩ := crConflict_leaves (s := v) (by rw [hilc]; exact hconflict)
    refine ⟨?_, hflag, ?_, ?_, ?_, ?_, nofun, fun _ => ⟨?_, halarm, fun hstarted => hdisabled ?_, fun hsender => ?_, fun hmode => ?_, fun hmode => ?_⟩⟩
    · rw [hcounters, hilc, ← saturate_of_lt hcount]
    · rw [hpv, hv']
    · rw [htb, hv']
    · rw [hmu, hv']
    · rw [hbe, hv']
    · rw [hpv]
    · rw [hilc]
      exact hstarted
    · exact (crConflict_senderFollows (by rw [hilc]; exact hconflict) (by rw [hv']; exact hsender)).of_conflict hflag
    · rw [hcr, if_pos (by rw [hv', State.operating]; simpa using hmode)]
    · rw [hcr, hv']
      split
      next hop =>
        have hauto : s.cr.mode = .autonomous := by
          simpa [State.operating, hmode] using hop
        rw [← hauto]
      · rfl

end

section
variable {Z : Scope} {s t : State} {since : Tick} {burst : List LinkChar} {overlong : Bool} {a : Nat} {msg : Msg} {e : Entry}

/-! ### Notices of another station (R53, R65 to R67) -/

/-- A set that holds a state keeps one. -/
theorem Acts.dieselSome (h : Acts Z s t) : s.ds.state.isSome = true → t.ds.state.isSome = true := by
  refine h.keep (P := fun u => u.ds.state.isSome = true) fun s t hst hs => ?_
  cases hst with
  | diesel d hstate => exact (congrArg Option.isSome hstate).trans hs
  | enter | unlock => rfl
  | fail d hstate => exact congrArg Option.isSome hstate
  | timer id x => cases id <;> exact hs
  | _ => exact hs

/-- The state with a notice counted and applied to its sender's entry. -/
def State.noticeTaken (s : State) (a : Nat) (msg : Msg) : State :=
  { ilcCountReceived s with pv := s.pv.modify a fun e => e.notice msg s.tb }

theorem deliver_notice (ha : a ≠ s.address) (hnotice : ∀ m, msg ≠ .status m) (hentry : s.pv.entry a = some e) :
    deliver ⟨a, msg⟩ s = jobsNotice a msg (s.noticeTaken a msg) := by
  have hsome : (s.pv.entry a).isSome = true := by rw [hentry]; rfl
  have hdeliver : deliver ⟨a, msg⟩ s = deliverNotice a msg s := by
    cases msg with
    | status m => exact absurd rfl (hnotice m)
    | loss | intent | step => exact if_neg ha
  rw [hdeliver]
  exact if_pos hsome

/-- A notice from an address with an entry reaches the entry and then the jobs. -/
theorem exec_notice (hrun : s.phase = .running) (hidle : s.ilc.idleSince = some since)
    (hrec : s.ilc.receiver = .collecting burst overlong) (hgood : judgeBurst burst overlong = some ⟨a, msg⟩) (ha : a ≠ s.address)
    (hnotice : ∀ m, msg ≠ .status m) (hentry : s.pv.entry a = some e) :
    exec .burstClose s = .next (jobsNotice a msg ((s.readyAt (since + 800)).noticeTaken a msg)) := by
  rw [exec_burstClose_of_good hrun hidle hrec hgood,
    deliver_notice (by rw [State.readyAt_address]; exact ha) hnotice (by rw [State.readyAt_pv]; exact hentry)]

theorem noticeTaken_entry (hentry : s.pv.entry a = some e) : (s.noticeTaken a msg).pv.entry a = some (e.notice msg s.tb) := by
  have hmodify := Pv.entry_modify (v := s.pv) (a := a) (b := a) (g := fun e => e.notice msg s.tb) fun e => e.notice_address msg s.tb
  rw [hentry, Option.map_some, if_pos (Pv.entry_mem hentry).2] at hmodify
  exact hmodify

/-- The jobs leave the table as the notice has left it. -/
theorem jobsNotice_pv (s : State) : (jobsNotice a msg s).pv = s.pv := by
  refine kept_pv ?_
  cases msg <;> simp [jobsNotice]

theorem dsLossNotice_loss (h : s.ds.state.isSome = true) : (dsLossNotice s).ds.timers.loss = .running s.tb 100000000 := by
  rw [dsLossNotice, if_pos h]
  rfl

/-- A start intent withdrawn leaves STANDBY, unless the island is DARK in operation (R103). -/
theorem dsWithdrawStart_leaves (hstate : s.ds.state = some .intent) (hdark : ¬ (s.bsc.island = some .dark ∧ s.operating = true)) :
    let u := dsWithdrawStart s
    u.ds.state = some .standby ∧ u.ds.intent = none ∧ u.ds.timers.window = .stopped ∧
      u.ds.timers.holdoff = .running s.tb (s.par.diesel.holdoff * 10000000) := by
  intro u
  have hstandby : dsEnterStandby ((dropIntent s).cancel .window) = setBias 0 (dsEnter .standby ((dropIntent s).cancel .window)) := by
    unfold dsEnterStandby
    rw [dsEnter_of_not_online (s := (dropIntent s).cancel .window) _ (fun h => by rw [show s.ds.state = some .online from h] at hstate; cases hstate)]
    exact if_neg (by
      rw [Bool.and_eq_true, decide_eq_true_iff]
      exact hdark)
  have hu : u = (dsEnterStandby ((dropIntent s).cancel .window)).start .holdoff (sec s.par.diesel.holdoff) := rfl
  rw [hu, hstandby,
    dsEnter_of_not_online (s := (dropIntent s).cancel .window) _ (fun h => by rw [show s.ds.state = some .online from h] at hstate; cases hstate)]
  exact ⟨rfl, rfl, rfl, rfl⟩

theorem ranksBefore_iff {r b r' b' : Nat} : ranksBefore r b r' b' = true ↔ r < r' ∨ r = r' ∧ b < b' := by simp [ranksBefore]

theorem dsIntentNotice_of_better {rank : Nat} (hstate : s.ds.state = some .intent)
    (hrank : rank < s.par.diesel.startRank ∨ rank = s.par.diesel.startRank ∧ a < s.address) :
    dsIntentNotice a .start rank s = dsWithdrawStart s := by
  simp only [dsIntentNotice, hstate, ranksBefore_iff.2 hrank, if_true]

/-- An INTENT set stands by its intent beside a stop and beside a worse start. -/
theorem dsIntentNotice_of_worse {kind : IntentKind} {rank : Nat} (hstate : s.ds.state = some .intent)
    (hrank : kind = .stop ∨ s.par.diesel.startRank < rank ∨ rank = s.par.diesel.startRank ∧ s.address < a) :
    dsIntentNotice a kind rank s = s := by
  cases kind with
  | stop => simp only [dsIntentNotice, hstate]
  | start =>
    have hnot : ranksBefore rank a s.par.diesel.startRank s.address = false := by
      refine Bool.eq_false_iff.2 fun h => ?_
      obtain hkind | hrank := hrank
      · cases hkind
      · obtain h | h := ranksBefore_iff.1 h <;> omega
    simp only [dsIntentNotice, hstate, hnot, Bool.false_eq_true, if_false]

theorem mem_putFeeder_self (r : FeederRecord) (l : List FeederRecord) : r ∈ putFeeder r l := by
  induction l with
  | nil => exact List.mem_singleton_self r
  | cons x l ih =>
    unfold putFeeder
    split
    · exact List.mem_cons_self
    · split
      · exact List.mem_cons_self
      · exact List.mem_cons_of_mem _ ih

/-- The record of any other port stands. -/
theorem mem_putFeeder_of_ne {r x : FeederRecord} {l : List FeederRecord} (hne : x.port ≠ r.port) : x ∈ putFeeder r l ↔ x ∈ l := by
  have hxr : x ≠ r := fun h => hne (congrArg FeederRecord.port h)
  induction l with
  | nil => simp [putFeeder, hxr]
  | cons y l ih =>
    unfold putFeeder
    split
    · simp [hxr]
    · split
      next heq =>
        have hxy : x ≠ y := fun h => hne ((congrArg FeederRecord.port h).trans heq.symm)
        simp [hxr, hxy]
      · simp [ih]

theorem flStepNotice_fl (h : s.feeders = true) : (flStepNotice s).fl = { s.fl with
    spacing := .running s.tb (10000000 *
      (if s.bsc.island = some .recover then s.par.restore.blackStepDwell else s.par.restore.stepDwell)) } := by
  rw [flStepNotice, if_pos h, Nat.mul_comm]
  rfl

/-- Settles O23: the entry takes the notice, and the jobs of its kind act on it. -/
theorem noticesReachEntryAndJobs : Obligations.NoticesReachEntryAndJobs := by
  intro since burst overlong a msg e s hrun hformed hidle hrec hgood ha hentry now
  have hexec := exec_notice hrun hidle hrec hgood ha (e := e)
  have hnow : now = since + 800 := rfl
  clear_value now
  rw [← hnow] at hexec
  have htaken : ((s.readyAt now).noticeTaken a msg).pv.entry a = some (e.notice msg now) := noticeTaken_entry (s := s.readyAt now) hentry
  have htb : ((s.readyAt now).noticeTaken a msg).tb = now := rfl
  have hds : ((s.readyAt now).noticeTaken a msg).ds = s.ds := rfl
  have hbsc : ((s.readyAt now).noticeTaken a msg).bsc = s.bsc := rfl
  have hcr : ((s.readyAt now).noticeTaken a msg).cr = s.cr := rfl
  have hfl : ((s.readyAt now).noticeTaken a msg).fl = s.fl := rfl
  have haddress : ((s.readyAt now).noticeTaken a msg).address = s.address := rfl
  generalize (s.readyAt now).noticeTaken a msg = v at *
  have hpar : v.par = s.par := by rw [State.par, hcr, State.par]
  refine ⟨fun role output rating hmsg => ?_, fun kind rank rating hmsg => ?_, fun port rank load hmsg => ?_⟩
  · subst hmsg
    refine ⟨_, hexec nofun hentry, by rw [jobsNotice_pv]; exact htaken, fun hsome => ?_⟩
    have hkept := flLoss_kept (s := v) role output rating
    have hloss := dsLossNotice_loss (s := flLoss role output rating v)
      ((flLoss_acts (Z := .full True) trivial role output rating (.refl v)).dieselSome (by rw [hds]; exact hsome))
    rw [kept_tb hkept, htb] at hloss
    exact hloss
  · subst hmsg
    refine ⟨_, hexec nofun hentry, by rw [jobsNotice_pv]; exact htaken, fun hstate hkind hrank hdark => ?_, fun hstate hrank => ?_⟩
    · subst hkind
      have hbetter := dsIntentNotice_of_better (s := v) (a := a) (rank := rank) (by rw [hds]; exact hstate) (by rw [hpar, haddress]; exact hrank)
      obtain ⟨hstandby, hintent, hwindow, hholdoff⟩ := dsWithdrawStart_leaves (s := v) (by rw [hds]; exact hstate)
        (by rw [hbsc, State.operating, hcr]; exact hdark)
      rw [← hbetter] at hstandby hintent hwindow hholdoff
      rw [htb, hpar] at hholdoff
      exact ⟨hstandby, hintent, hwindow, hholdoff⟩
    · have hworse := dsIntentNotice_of_worse (s := v) (a := a) (kind := kind) (rank := rank) (by rw [hds]; exact hstate)
        (by rw [hpar, haddress]; exact hrank)
      exact (congrArg State.ds hworse).trans hds
  · subst hmsg
    obtain ⟨-, -, hentries, -⟩ := hformed
    obtain ⟨-, -, -, -, -, -, -, hsorted, -⟩ := (hentries e (Pv.entry_mem hentry).1).1
    refine ⟨_, e.step port rank load, hexec nofun hentry, by rw [jobsNotice_pv]; exact htaken, mem_putFeeder_self _ _, fun r hr => mem_putFeeder_of_ne hr,
      putFeeder_sorted hsorted, rfl, fun hparams hcount => ?_⟩
    have hfeeders : v.feeders = true := by
      rw [State.feeders, State.started, hcr, hparams, hpar]
      simpa using hcount
    exact (flStepNotice_fl hfeeders).trans (by rw [hfl, hbsc, hpar, htb])

end

section
variable {s : State} {t : Tick}

/-! ### The own STATUS (R43 to R46) -/

/-- A status due instant with the transmitter enabled and a seeded generator. -/
theorem ilcStatusDue_eq {x : BitVec 16} (hrandom : s.ilc.random = some x) (henabled : s.ilc.transmitter.enabled = true) :
    ilcStatusDue s = { s with ilc := { s.ilc with
      random := some (lfsrDraw x)
      slots := { s.ilc.slots with status := { s.ilc.slots.status with frame := some (statusPayload s.ownStatus) } }
      status := .running s.tb (s.par.station.statusInterval * 500000 +
        (lfsrDraw x).toNat * (s.par.station.statusInterval * 500000) / 524288) } } := by
  have hplaced : s.placeFrame .status (statusPayload s.ownStatus) = { s with ilc := { s.ilc with
      slots := { s.ilc.slots with status := { s.ilc.slots.status with frame := some (statusPayload s.ownStatus) } } } } := if_pos henabled
  unfold ilcStatusDue
  rw [hplaced, State.draw_some (x := x) (by exact hrandom)]
  rfl

/-- The records of the own STATUS stand in the order of the ports. -/
theorem ownFeeders_sorted (s : State) : s.ownFeeders.Pairwise fun a b => a.port < b.port := by
  refine List.Pairwise.filterMap _ (R := fun p q : Port => p.num < q.num) (fun p q hpq a ha b hb => ?_) (by decide)
  simp only [Option.ite_none_right_eq_some, Option.map_eq_some_iff] at ha hb
  obtain ⟨-, ra, -, rfl⟩ := ha
  obtain ⟨-, rb, -, rfl⟩ := hb
  exact hpq

theorem Port.mem_all (p : Port) : p ∈ Port.all := by cases p <;> decide

theorem mem_ownFeeders {x : FeederRecord} : x ∈ s.ownFeeders ↔ ∃ p r, p.num ≤ s.par.station.feederCount ∧ s.port p = some r ∧
    x = ⟨p.num, r.state, (s.par.port.get p).shedRank, min r.load 65535⟩ := by
  have hclamp (n : Nat) : clamp16 n = min n 65535 := by
    have := clamp16_cast n
    simp only [clamp] at this
    omega
  simp only [State.ownFeeders, List.mem_filterMap, Option.ite_none_right_eq_some, Option.map_eq_some_iff, Port.mem_all, true_and, hclamp]
  constructor
  · rintro ⟨p, hp, r, hr, rfl⟩
    exact ⟨p, r, by simpa [State.configured] using hp, hr, rfl⟩
  · rintro ⟨p, r, hp, hr, rfl⟩
    exact ⟨p, by simpa [State.configured] using hp, r, hr, rfl⟩

theorem State.summary_noSource (h : s.par.station.role = .noSource) : s.summary = .absent := by rw [State.summary, h]

theorem State.summary_genset (h : s.par.station.role = .genset) : s.summary = (s.ds.state.map (·.summary)).getD .absent := by
  rw [State.summary, h]

theorem State.summary_solar (h : s.par.station.role = .solar) : s.summary = (s.sc.state.map (·.summary)).getD .absent := by
  rw [State.summary, h]

theorem State.unavailable_genset (h : s.par.station.role = .genset) :
    s.unavailable = (s.ds.state.map (·.unavailable)).getD false := by
  rw [State.unavailable, h, beq_self_eq_true, Bool.true_and]

theorem State.unavailable_other (h : s.par.station.role ≠ .genset) : s.unavailable = false := by
  rw [State.unavailable, beq_eq_false_iff_ne.2 h, Bool.false_and]

theorem ownStatus_minOrAvail_noSource (h : s.par.station.role = .noSource) :
    s.ownStatus.minOrAvail = 0 := by simp only [State.ownStatus, h]

theorem ownStatus_minOrAvail_genset (h : s.par.station.role = .genset) :
    s.ownStatus.minOrAvail = s.par.diesel.minimumLoad := by simp only [State.ownStatus, h]

theorem ownStatus_minOrAvail_solar (h : s.par.station.role = .solar) :
    s.ownStatus.minOrAvail = s.ownAvailable := by simp only [State.ownStatus, h]

theorem ownOutput_cast (h : s.par.station.role ≠ .noSource) : (s.ownOutput : Int) = clamp 0 65535 s.mu.mean.src := by
  rw [State.ownOutput, if_neg h, clamp16_cast]

/-- Settles O25: the status due instant places the own STATUS, whose fields are read off by role. -/
theorem statusFallsDue : Obligations.StatusFallsDue := by
  refine ⟨fun t x s hdue hrandom henabled => ?_, fun s => ?_⟩
  · intro y interval
    refine ⟨_, onExpiry_due (id := .status) _ hdue.1 hdue.2, ?_, lfsrSteps_ne_zero 16⟩
    exact ilcStatusDue_eq (s := (s.stamp t).cancel .status) hrandom henabled
  · intro m st
    have hfresh : (s.pv.freshCount == 0) = true ↔ ∀ e ∈ s.pv.table, e.fresh = false := by rw [beq_iff_eq, Pv.freshCount_eq_zero]
    refine ⟨rfl, rfl, beq_iff_eq, hfresh, fun i hi => ?_, rfl, fun hrole => ?_, fun hrole => ?_, fun hrole => ?_, fun hrole => ?_, fun hrole => ?_,
      ownFeeders_sorted s, fun x => mem_ownFeeders⟩
    · exact (congrArg (·.getD .deadWait) hi).trans rfl
    · exact ⟨State.summary_noSource hrole, if_pos hrole, if_pos hrole, ownStatus_minOrAvail_noSource hrole,
        if_neg (by rw [hrole]; nofun)⟩
    · exact ⟨if_neg hrole, ownOutput_cast hrole⟩
    · refine ⟨ownStatus_minOrAvail_genset hrole, if_pos hrole, fun d hd => ⟨?_, ?_⟩⟩
      · exact (State.summary_genset hrole).trans (by rw [hd]; rfl)
      · exact (State.unavailable_genset hrole).trans (by rw [hd]; rfl)
    · refine ⟨if_neg (by rw [hrole]; nofun), ?_, fun x hx => (State.summary_solar hrole).trans (by rw [hx]; rfl)⟩
      rw [show m.minOrAvail = s.ownAvailable from ownStatus_minOrAvail_solar hrole, State.ownAvailable, if_pos hrole, Nat.cast_min,
        Nat.cast_max, clamp16_cast]
      rfl
    · exact State.unavailable_other hrole

end

section
variable {s : State} {since : Tick}

/-! ### The start of an attempt (R47) -/

theorem least_spec {l : List Nat} : (least l = none ↔ l = []) ∧ ∀ n, least l = some n → n ∈ l ∧ ∀ m ∈ l, n ≤ m := by
  induction l with
  | nil => exact ⟨by simp [least], nofun⟩
  | cons x l ih =>
    obtain ⟨hnone, hsome⟩ := ih
    refine ⟨by simp [least], fun n hn => ?_⟩
    obtain rfl := Option.some.inj hn
    cases hl : least l with
    | none =>
      obtain rfl := hnone.1 hl
      exact ⟨List.mem_singleton_self x, fun m hm => (List.mem_singleton.1 hm).ge⟩
    | some y =>
      obtain ⟨hy, hmin⟩ := hsome y hl
      change min x y ∈ _ ∧ ∀ m ∈ x :: l, min x y ≤ m
      refine ⟨?_, fun m hm => ?_⟩
      · obtain h | h := min_choice x y <;> rw [h]
        · exact List.mem_cons_self
        · exact List.mem_cons_of_mem _ hy
      · obtain rfl | hm := List.mem_cons.1 hm
        · exact min_le_left _ _
        · exact (min_le_right _ _).trans (hmin m hm)

/-- The first that passes, in a list in ascending rank, is of the lowest rank among those that pass. -/
theorem rank_le_of_find {α : Type} {rank : α → Nat} {p : α → Bool} {l : List α} {k j : α} (hl : l.Pairwise fun a b => rank a ≤ rank b)
    (h : l.find? p = some k) (hj : j ∈ l) (hp : p j = true) : rank k ≤ rank j := by
  induction l with
  | nil => nomatch hj
  | cons x l ih =>
    rw [List.pairwise_cons] at hl
    obtain ⟨hx, hl⟩ := hl
    by_cases hpx : p x = true
    · rw [List.find?_cons_of_pos hpx] at h
      obtain rfl := Option.some.inj h
      obtain rfl | hj := List.mem_cons.1 hj
      · exact le_rfl
      · exact hx j hj
    · rw [List.find?_cons_of_neg hpx] at h
      obtain rfl | hj := List.mem_cons.1 hj
      · exact absurd hp hpx
      · exact ih hl h hj

/-- The idle measure of less than 2^31 ticks is what has passed since the end of the last character. -/
theorem lineIdle_of_short (h : (s.tb - since).toNat < 2 ^ 31) : s.lineIdle since = (s.tb - since).toNat := by
  unfold State.lineIdle elapsed charTicks
  split
  next hshort => bv_omega
  · rfl

theorem after_elapsed (since tb : Tick) : since + BitVec.ofNat 32 (tb - since).toNat = tb := by
  rw [BitVec.ofNat_toNat, BitVec.setWidth_eq]
  exact add_sub_cancel since tb

theorem requiredIdle_eq_some {k : FrameKind} {n : Nat} : s.requiredIdle k = some n ↔
    (s.ilc.slots.get k).frame ≠ none ∧
      1200 + (match k with | .status => 800 | _ => 0) + (s.ilc.slots.get k).backoff * 1600 = n := by
  have hextra : (if k = .status then 800 else 0) = (match k with | .status => 800 | _ => 0) := by cases k <;> rfl
  unfold State.requiredIdle
  cases hframe : (s.ilc.slots.get k).frame <;> simp [hframe, hextra]

theorem FrameKind.mem_byPriority (k : FrameKind) : k ∈ FrameKind.byPriority := by cases k <;> decide

/-- The idle of the next attempt: that which has passed, or the least that a waiting frame requires. -/
theorem attemptIdle_eq_some {idle : Nat} (h : s.attemptIdle since = some idle) :
    s.lineIdle since ≤ idle ∧ (∃ k n, s.requiredIdle k = some n ∧ n ≤ idle) ∧
      (s.lineIdle since < idle → ∀ k n, s.requiredIdle k = some n → idle ≤ n) := by
  unfold State.attemptIdle at h
  obtain ⟨n, hn, rfl⟩ := Option.map_eq_some_iff.1 h
  obtain ⟨hmem, hmin⟩ := least_spec.2 n hn
  obtain ⟨k, -, hk⟩ := List.mem_filterMap.1 hmem
  refine ⟨le_max_left _ _, ⟨k, n, hk, le_max_right _ _⟩, fun hlt j m hj => ?_⟩
  have := hmin m (List.mem_filterMap.2 ⟨j, FrameKind.mem_byPriority j, hj⟩)
  omega

theorem attemptIdle_eq_none : s.attemptIdle since = none ↔ ∀ k, (s.ilc.slots.get k).frame = none := by
  unfold State.attemptIdle
  rw [Option.map_eq_none_iff, least_spec.1, List.filterMap_eq_nil_iff]
  refine ⟨fun h k => ?_, fun h k _ => ?_⟩
  · have := h k (FrameKind.mem_byPriority k)
    unfold State.requiredIdle at this
    exact Option.map_eq_none_iff.1 this
  · unfold State.requiredIdle
    exact Option.map_eq_none_iff.2 (h k)

/-- The kind chosen at an idle at which a frame is eligible waits, and is of the highest priority of the eligible ones. -/
theorem eligible_spec {idle : Nat} (h : ∃ k n, s.requiredIdle k = some n ∧ n ≤ idle) :
    ∃ k n, s.eligible idle = some k ∧ s.requiredIdle k = some n ∧ n ≤ idle ∧
      ∀ (rank : FrameKind → Nat), FrameKind.byPriority.Pairwise (fun a b => rank a ≤ rank b) →
        ∀ j m, s.requiredIdle j = some m → m ≤ idle → rank k ≤ rank j := by
  have hpass (k : FrameKind) : (s.requiredIdle k).elim false (fun n => decide (n ≤ idle)) = true ↔ ∃ n, s.requiredIdle k = some n ∧ n ≤ idle := by
    cases s.requiredIdle k <;> simp
  obtain ⟨j, hj⟩ := h
  obtain ⟨k, hk⟩ := Option.isSome_iff_exists.1 (show (s.eligible idle).isSome = true from
    List.find?_isSome.2 ⟨j, FrameKind.mem_byPriority j, (hpass j).2 hj⟩)
  have hchosen := List.find?_some (show FrameKind.byPriority.find? (fun k => (s.requiredIdle k).elim false (· ≤ idle)) = some k from hk)
  obtain ⟨n, hn, hle⟩ := (hpass k).1 hchosen
  exact ⟨k, n, hk, hn, hle, fun rank hrank j m hj hm => rank_le_of_find hrank hk (FrameKind.mem_byPriority j) ((hpass j).2 ⟨m, hj, hm⟩)⟩

section
variable (htx : s.ilc.transmitter = .ready) (hrec : s.ilc.receiver = .waiting) (hidle : s.ilc.idleSince = some since)
include htx hrec hidle

theorem ilcAttempt_of_none (h : s.attemptIdle since = none) : ilcAttempt s = s := by
  simp only [ilcAttempt, htx, hrec, hidle, h]

theorem ilcAttempt_of_some {idle : Nat} {k : FrameKind} {payload : List Byte} (h : s.attemptIdle since = some idle)
    (hk : s.eligible idle = some k) (hframe : (s.ilc.slots.get k).frame = some payload) :
    ilcAttempt s = ilcBegin k payload (if s.lineIdle since < idle then after since idle else s.tb) s := by
  simp only [ilcAttempt, htx, hrec, hidle, h, hk, hframe]

end

theorem ilcBegin_eq (k : FrameKind) (payload : List Byte) (t : Tick) (s : State) : ilcBegin k payload t s = { s with
    tb := t
    ilc := { s.ilc with
      slots := s.ilc.slots.set k ⟨none, (s.ilc.slots.get k).attempts + 1, 0⟩, transmitter := .sending k payload t [] } } := rfl

/-- Settles O26: with no frame waiting nothing is sent, and otherwise the kind chosen at the idle of the attempt. -/
theorem attemptTakesHighestPriority : Obligations.AttemptTakesHighestPriority := by
  intro since s hrun htx hrec hidle hshort need waits rank
  have hexec : exec .attemptStart s = .next (ilcAttempt s) := whileRunning_runs _ (by simp [State.runs, hrun])
  have hneed (k : FrameKind) (hk : waits k) : s.requiredIdle k = some (need k) := requiredIdle_eq_some.2 ⟨hk, rfl⟩
  have hline := lineIdle_of_short hshort
  refine ⟨fun hnone => ?_, fun ⟨j, hj⟩ => ?_⟩
  · rw [hexec, ilcAttempt_of_none htx hrec hidle (attemptIdle_eq_none.2 fun k => not_not.1 (hnone k))]
  · obtain ⟨idle, hattempt⟩ := Option.ne_none_iff_exists'.1 fun h : s.attemptIdle since = none => hj (attemptIdle_eq_none.1 h j)
    obtain ⟨hpassed, heligible, hfirst⟩ := attemptIdle_eq_some hattempt
    obtain ⟨k, n, hk, hn, hle, hpriority⟩ := eligible_spec heligible
    obtain ⟨hwaits, hkneed⟩ := requiredIdle_eq_some.1 hn
    obtain ⟨payload, hpayload⟩ := Option.ne_none_iff_exists'.1 hwaits
    have htime : (if s.lineIdle since < idle then after since idle else s.tb) = since + BitVec.ofNat 32 idle := by
      split
      · rfl
      next hnot =>
        rw [show idle = (s.tb - since).toNat by omega, after_elapsed]
    refine ⟨k, payload, idle, hpayload, hkneed.trans_le hle, by omega, fun j hj hjle => hpriority rank (by decide) j _ (hneed j hj) hjle,
      fun hlt j hj => hfirst (by omega) j _ (hneed j hj), ?_⟩
    rw [hexec, ilcAttempt_of_some htx hrec hidle hattempt hk hpayload, htime, ilcBegin_eq]

end

section
variable {s : State} {k j : FrameKind} {payload : List Byte} {start : Tick} {echoes : List LinkChar}

/-! ### The end of an attempt (R48 to R50, R55, R56) -/

theorem allMatch_cleanBurst (sent : List Byte) : allMatch sent (cleanBurst sent) = true := by
  induction sent with
  | nil => rfl
  | cons c l ih =>
    change (echoMatches c ⟨c, false⟩ && allMatch l (cleanBurst l)) = true
    rw [ih, Bool.and_true, echoMatches, beq_self_eq_true]
    rfl

theorem lastMismatches_of {sent : List Byte} {last : LinkChar} {c : Byte} (hlast : echoes.getLast? = some last)
    (hsent : sent[echoes.length - 1]? = some c) (hne : last.byte ≠ c ∨ last.framing = true) : lastMismatches sent echoes = true := by
  unfold lastMismatches echoMatches
  simp only [hlast, hsent]
  obtain hne | hframing := hne
  · rw [beq_eq_false_iff_ne.2 hne]
    rfl
  · rw [hframing, Bool.not_true, Bool.and_false]
    rfl

theorem ilcSucceed_of_match {e : Tick} (htx : s.ilc.transmitter = .sending k payload start echoes)
    (hmatch : allMatch (frameChars s.address k payload) echoes = true) (hidle : s.ilc.idleSince = some e) :
    ilcSucceed s = { s with
      tb := e
      ilc := { s.ilc with
        transmitter := .ready, slots := s.ilc.slots.set k ⟨(s.ilc.slots.get k).frame, 0, 0⟩
        counters := { s.ilc.counters with sent := saturate s.ilc.counters.sent } } } := by
  unfold ilcSucceed
  rw [htx]
  dsimp only
  rw [if_pos hmatch, show s.ilc.idleSince.getD s.tb = e by rw [hidle]; rfl]
  rfl

/-- The state in which a failed attempt is judged: the transmitter is READY, and the collision is counted (R48). -/
def State.collided (s : State) (t : Tick) : State :=
  { s with tb := t, ilc := { s.ilc with
    transmitter := .ready, counters := { s.ilc.counters with collisions := saturate s.ilc.counters.collisions } } }

theorem ilcCollide_eq (t : Tick) : ilcCollide k payload echoes t s = ilcCollectEchoes echoes (ilcFail k payload (s.collided t)) := rfl

theorem ilcCollision_of_noEcho (htx : s.ilc.transmitter = .sending k payload start echoes)
    (h : echoes.length < (frameChars s.address k payload).length) :
    ilcCollision true s = ilcCollide k payload echoes (start + BitVec.ofNat 32 (400 * echoes.length + 20)) s := by
  simp only [ilcCollision, htx, if_true, h]
  rfl

theorem ilcCollision_of_mismatch (htx : s.ilc.transmitter = .sending k payload start echoes)
    (h : lastMismatches (frameChars s.address k payload) echoes = true) : ilcCollision false s = ilcCollide k payload echoes s.tb s := by
  simp only [ilcCollision, htx, h, Bool.false_eq_true, if_false, if_true]

/-- Before the fourth attempt the frame waits again, behind a backoff that the attempt count widens (R49). -/
theorem ilcFail_of_early {x : BitVec 16} (hrandom : s.ilc.random = some x) (h : (s.ilc.slots.get k).attempts < 4) :
    ilcFail k payload s = { s with ilc := { s.ilc with
      random := some (lfsrDraw x)
      slots := s.ilc.slots.set k ⟨some ((s.ilc.slots.get k).frame.getD payload), (s.ilc.slots.get k).attempts,
        (lfsrDraw x).toNat * 2 ^ (s.ilc.slots.get k).attempts / 65536⟩ } } := by
  unfold ilcFail
  simp only [h, if_true, State.draw_some hrandom]
  rfl

/-- At the fourth attempt the frame is dropped (R49). -/
theorem ilcFail_of_last (h : 4 ≤ (s.ilc.slots.get k).attempts) :
    ilcFail k payload s = { s with ilc := { s.ilc with
      slots := s.ilc.slots.set k ⟨(s.ilc.slots.get k).frame, 0, 0⟩
      counters := { s.ilc.counters with drops := saturate s.ilc.counters.drops } } } := by
  unfold ilcFail
  simp only [show ¬ (s.ilc.slots.get k).attempts < 4 by omega, if_false]
  rfl

theorem ilcCollectEchoes_eq (s : State) : ilcCollectEchoes echoes s = { s with ilc := { s.ilc with
    receiver := if echoes = [] then s.ilc.receiver else .collecting echoes false } } := by
  cases echoes <;> rfl

theorem backoff_lt (r : BitVec 16) (n : Nat) : r.toNat * 2 ^ n / 65536 < 2 ^ n := by
  have hr := r.isLt
  have hpos : 0 < 2 ^ n := Nat.two_pow_pos n
  rw [Nat.div_lt_iff_lt_mul (by decide), Nat.mul_comm]
  exact Nat.mul_lt_mul_of_pos_left hr hpos

/-- What a collision leaves. -/
theorem ilcCollide_leaves {x : BitVec 16} (t : Tick) (hrandom : s.ilc.random = some x) (hcollisions : s.ilc.counters.collisions < 65535)
    (hdrops : s.ilc.counters.drops < 65535) :
    let u := ilcCollide k payload echoes t s
    let slot := s.ilc.slots.get k
    u.ilc.transmitter = .ready ∧ u.tb = t ∧ u.ilc.counters.collisions = s.ilc.counters.collisions + 1 ∧
      (∀ j, j ≠ k → u.ilc.slots.get j = s.ilc.slots.get j) ∧
      u.ilc.receiver = (if echoes = [] then s.ilc.receiver else .collecting echoes false) ∧
      (slot.attempts < 4 → u.ilc.random = some (lfsrDraw x) ∧ u.ilc.counters.drops = s.ilc.counters.drops ∧
        u.ilc.slots.get k = ⟨some (slot.frame.getD payload), slot.attempts,
          (lfsrDraw x).toNat * 2 ^ slot.attempts / 65536⟩ ∧ (u.ilc.slots.get k).backoff < 2 ^ slot.attempts) ∧
      (4 ≤ slot.attempts → u.ilc.random = some x ∧ u.ilc.counters.drops = s.ilc.counters.drops + 1 ∧
        u.ilc.slots.get k = ⟨slot.frame, 0, 0⟩) ∧
      u = { s with tb := u.tb, ilc := u.ilc } := by
  intro u slot
  have hu : u = _ := (ilcCollide_eq (s := s) (k := k) (payload := payload) (echoes := echoes) t).trans (ilcCollectEchoes_eq _)
  by_cases hlast : 4 ≤ slot.attempts
  · rw [ilcFail_of_last (s := s.collided t) hlast] at hu
    rw [hu]
    exact ⟨rfl, rfl, saturate_of_lt hcollisions, fun j hj => Slots.get_set_other _ _ hj, rfl, fun h => absurd hlast (by omega),
      fun _ => ⟨hrandom, saturate_of_lt hdrops, Slots.get_set_same _ _ _⟩, rfl⟩
  · rw [ilcFail_of_early (s := s.collided t) hrandom (Nat.lt_of_not_le hlast)] at hu
    rw [hu]
    exact ⟨rfl, rfl, saturate_of_lt hcollisions, fun j hj => Slots.get_set_other _ _ hj, rfl,
      fun _ => ⟨rfl, rfl, Slots.get_set_same _ _ _, by rw [Slots.get_set_same]; exact backoff_lt _ _⟩, fun h => absurd h hlast, rfl⟩

/-- Settles O27: the driver's release, the success of an attempt and its collision, each by the function that takes it. -/
theorem attemptsEnd : Obligations.AttemptsEnd := by
  refine ⟨fun e s hrun hfinishing => ?_, fun k payload start echoes s hrun htx => ?_⟩
  · refine (whileRunning_runs _ (by simp [State.runs, hrun])).trans ?_
    simp only [ilcRelease, hfinishing]
    rfl
  · intro sent slot
    refine ⟨fun e hechoes hidle hsent => ?_, fun noEcho x hrandom hcollisions hdrops hcause => ?_⟩
    · subst hechoes
      refine (whileRunning_runs _ (by simp [State.runs, hrun])).trans ?_
      rw [ilcSucceed_of_match htx (allMatch_cleanBurst _) hidle, saturate_of_lt hsent]
    · have hexec : exec (.collision noEcho) s = .next (ilcCollision noEcho s) := whileRunning_runs _ (by simp [State.runs, hrun])
      have hcollide : ilcCollision noEcho s =
          ilcCollide k payload echoes (if noEcho then start + BitVec.ofNat 32 (400 * echoes.length + 20) else s.tb) s := by
        cases noEcho with
        | true => exact ilcCollision_of_noEcho htx hcause
        | false =>
          obtain ⟨last, c, hlast, hsent, hne⟩ := hcause
          exact ilcCollision_of_mismatch htx (lastMismatches_of hlast hsent hne)
      rw [hexec, hcollide]
      exact ⟨_, rfl, ilcCollide_leaves _ hrandom hcollisions hdrops⟩

end

section
variable {n : Nat}

/-! ### Frames read back (R39 to R42, R52) -/

theorem byte_toNat (h : n < 256) : (byte n).toNat = n := by rw [byte, BitVec.toNat_ofNat, Nat.mod_eq_of_lt h]

theorem bytesBE_two (n : Nat) : bytesBE 2 n = [byte (n / 256), byte (n % 256)] := by simp [bytesBE]

theorem numberBE_word (h : n ≤ 65535) : numberBE [byte (n / 256), byte (n % 256)] = n := by
  simp only [numberBE, List.foldl_cons, List.foldl_nil, byte_toNat (show n / 256 < 256 by omega), byte_toNat (show n % 256 < 256 by omega)]
  omega

theorem clamp16_of_le (h : n ≤ 65535) : clamp16 n = n := by
  have := clamp16_cast n
  simp only [clamp] at this
  omega

theorem Role.ofCode_code (r : Role) : Role.ofCode r.code = some r := by cases r <;> rfl
theorem Summary.ofCode_code (x : Summary) : Summary.ofCode x.code = some x := by cases x <;> rfl
theorem Island.ofCode_code (i : Island) : Island.ofCode i.code = some i := by cases i <;> rfl
theorem PortState.ofCode_code (st : PortState) : PortState.ofCode st.code = some st := by cases st <;> rfl
theorem FrameKind.ofCode_code (k : FrameKind) : FrameKind.ofCode k.code = some k := by cases k <;> rfl
theorem intentOfCode_code (i : Option IntentKind) : intentOfCode (intentCode i) = some i := by
  cases i with
  | none => rfl
  | some k => cases k <;> rfl

theorem Role.code_lt (r : Role) : r.code < 256 := by cases r <;> decide
theorem Summary.code_lt (x : Summary) : x.code < 256 := by cases x <;> decide
theorem PortState.code_lt (st : PortState) : st.code < 16 := by cases st <;> decide
theorem FrameKind.code_lt (k : FrameKind) : k.code < 256 := by cases k <;> decide
theorem intentCode_lt (i : Option IntentKind) : intentCode i < 256 := by
  cases i with
  | none => decide
  | some k => cases k <;> decide

/-- A frame heard without disturbance is what its payload reads as, from the address that it bears (R52, checks 1 to 5, 7 and 8). -/
theorem judgeBurst_frameChars {a : Nat} (ha : 1 ≤ a ∧ a ≤ 32) (k : FrameKind) {payload : List Byte} (hlen : payload.length ≤ 255) :
    judgeBurst (cleanBurst (frameChars a k payload)) false = (readPayload k payload).map (⟨a, ·⟩) := by
  have hclean (l : List Byte) : (cleanBurst l).any (·.framing) = false ∧ (cleanBurst l).map (·.byte) = l := by
    simp [cleanBurst, Function.comp_def]
  have haddress := byte_toNat (show a < 256 by omega)
  have hlength := byte_toNat (show payload.length < 256 by omega)
  have hkind := byte_toNat k.code_lt
  obtain ⟨hframing, hchars⟩ := hclean (frameChars a k payload)
  rw [judgeBurst, hframing, hchars, Bool.or_self, if_neg nofun, frameChars, frameBody]
  simp only [List.cons_append, readFrame, haddress, hlength, hkind, FrameKind.ofCode_code, List.take_left', List.drop_left',
    List.length_append, crcBytes_length]
  rw [if_pos (by simp [ha])]

/-- The feeder records of a STATUS, each port above the last, are read back (R41). -/
theorem readFeeders_feederBytes {l : List FeederRecord} {last : Nat} (hlast : ∀ r ∈ l, last < r.port)
    (hsorted : l.Pairwise fun a b => a.port < b.port) (hrange : ∀ r ∈ l, r.inRange) :
    readFeeders l.length last (l.flatMap feederBytes) = some l := by
  induction l generalizing last with
  | nil => rfl
  | cons r l ih =>
    rw [List.pairwise_cons] at hsorted
    obtain ⟨hr, hsorted⟩ := hsorted
    obtain ⟨⟨hport1, hport4⟩, ⟨hrank1, hrank⟩, hload⟩ := hrange r List.mem_cons_self
    have hcode := r.state.code_lt
    have hfirst := byte_toNat (show 16 * r.port + r.state.code < 256 by omega)
    have hrest := ih hr hsorted fun x hx => hrange x (List.mem_cons_of_mem _ hx)
    have hlt := hlast r List.mem_cons_self
    simp only [List.flatMap_cons, feederBytes, bytesBE_two, List.cons_append, List.nil_append, List.length_cons, readFeeders, hfirst,
      byte_toNat (show r.shedRank < 256 by omega), show (16 * r.port + r.state.code) / 16 = r.port by omega,
      show (16 * r.port + r.state.code) % 16 = r.state.code by omega, PortState.ofCode_code, numberBE_word hload, hrest]
    rw [if_pos (by simp [hlt, hport4, hrank1])]
    rfl

theorem feeders_length_le {l : List FeederRecord} (hsorted : l.Pairwise fun a b => a.port < b.port) (hrange : ∀ r ∈ l, r.inRange) :
    l.length ≤ 4 := by
  have hnodup : (l.map (·.port)).Nodup := List.pairwise_map.2 (hsorted.imp Nat.ne_of_lt)
  have hsub : l.map (·.port) ⊆ [1, 2, 3, 4] := by
    intro n hn
    obtain ⟨r, hr, rfl⟩ := List.mem_map.1 hn
    obtain ⟨⟨h1, h4⟩, -⟩ := hrange r hr
    simp only [List.mem_cons, List.not_mem_nil, or_false]
    omega
  simpa using (hnodup.subperm hsub).length_le

theorem statusFlags_toNat (m : StatusMsg) : (statusFlags m).toNat % 4 = m.island.code ∧ (statusFlags m).getLsbD 7 = m.service ∧
    (statusFlags m).getLsbD 6 = m.noFreshPeers ∧ (statusFlags m).getLsbD 5 = m.unavailable := by
  unfold statusFlags
  cases m.service <;> cases m.noFreshPeers <;> cases m.unavailable <;> cases m.island <;> decide

theorem readStatus_statusPayload {m : StatusMsg} (hm : m.wf) : readStatus (statusPayload m) = some m := by
  obtain ⟨⟨hinterval2, hinterval⟩, hrating, houtput, hmin, hrank, hsorted, hrange⟩ := hm
  have hlength := feeders_length_le hsorted hrange
  have hrank' : m.startRank < 256 := by split at hrank <;> omega
  obtain ⟨hisland, hservice, hfresh, hunavailable⟩ := statusFlags_toNat m
  have hfeeders := readFeeders_feederBytes (last := 0) (fun r hr => by have := (hrange r hr).1; omega) hsorted hrange
  simp only [statusPayload, bytesBE_two, List.cons_append, List.nil_append, readStatus, byte_toNat m.role.code_lt,
    byte_toNat m.summary.code_lt, byte_toNat (intentCode_lt _), hisland, Role.ofCode_code, Summary.ofCode_code, Island.ofCode_code,
    intentOfCode_code, byte_toNat (show m.interval < 256 by omega), byte_toNat (show m.feeders.length < 256 by omega), byte_toNat hrank',
    numberBE_word hrating, numberBE_word houtput, numberBE_word hmin, hservice, hfresh, hunavailable, hfeeders]
  rw [if_pos]
  · rfl
  · simp only [hinterval2, hinterval, hlength, decide_true, Bool.true_and]
    split at hrank
    next hrole => simp [hrole, hrank]
    next hrole => simp [hrole, hrank]

theorem statusPayload_length {m : StatusMsg} (hm : m.wf) : (statusPayload m).length ≤ 255 := by
  obtain ⟨-, -, -, -, -, hsorted, hrange⟩ := hm
  have hlength := feeders_length_le hsorted hrange
  have hbytes : (m.feeders.flatMap feederBytes).length = 4 * m.feeders.length := by
    induction m.feeders with
    | nil => rfl
    | cons r l ih => simp only [List.flatMap_cons, List.length_append, List.length_cons, ih, feederBytes, bytesBE_length]; omega
  simp only [statusPayload, List.length_append, List.length_cons, List.length_nil, bytesBE_length, hbytes]
  omega

/-- Settles O28: a frame is judged as its payload reads, and each payload reads as what it was made of. -/
theorem framesReadBack : Obligations.FramesReadBack := by
  intro a ha1 ha32 read
  have hread (k : FrameKind) {payload : List Byte} (hlen : payload.length ≤ 255) : read k payload = _ :=
    judgeBurst_frameChars ⟨ha1, ha32⟩ k hlen
  refine ⟨fun m hm => ?_, fun role output rating hrole houtput hrating => ?_, fun kind rank rating hrank1 hrank32 hrating => ?_,
    fun port rank load hport1 hport4 hrank1 hrank hload => ?_⟩
  · rw [hread .status (statusPayload_length hm), readPayload, readStatus_statusPayload hm]
    rfl
  · rw [hread .loss (by simp [lossPayload])]
    simp only [lossPayload, bytesBE_two, List.cons_append, List.nil_append, readPayload, byte_toNat role.code_lt, Role.ofCode_code,
      clamp16_of_le houtput, clamp16_of_le hrating, numberBE_word houtput, numberBE_word hrating]
    cases role with
    | noSource => exact absurd rfl hrole
    | genset | solar => rfl
  · rw [hread .intent (by simp [intentPayload])]
    simp only [intentPayload, bytesBE_two, readPayload, byte_toNat (intentCode_lt _), intentOfCode_code, clamp16_of_le hrating,
      numberBE_word hrating, byte_toNat (show rank < 256 by omega)]
    rw [if_pos (by simp [hrank1, hrank32])]
    rfl
  · rw [hread .step (by simp [stepPayload])]
    simp only [stepPayload, bytesBE_two, readPayload, byte_toNat (show port < 256 by omega), byte_toNat (show rank < 256 by omega),
      clamp16_of_le hload, numberBE_word hload]
    rw [if_pos (by simp [hport1, hport4, hrank1])]
    rfl

end

end Sys2Proof.Machine
end

section
/-! SUPPORT. Freshness, the change to AUTONOMOUS, and the end of a balance period. -/

namespace Sys2Proof.Machine

section
variable {s : State} {a b : Nat} {t : Tick} {e : Entry}

/-! ### The freshness timers, and the change to AUTONOMOUS (R63, R69, R72, R99) -/

/-- What the change to AUTONOMOUS makes of the diesel record (R99). -/
structure AloneFrom (c d : Ds) : Prop where
  intentDropped : c.state = some .stopIntent → c.forcedStop = false → d.state = some .online ∧ d.intent = none ∧ d.bias = c.bias ∧
    d.timers = { c.timers with stop := .stopped, window := .stopped }
  unloadDropped : c.state = some .unload → c.forcedStop = false → d.state = some .online ∧ d.bias = c.bias ∧
    d.timers = { c.timers with stop := .stopped, unload := .stopped }
  stands : c.forcedStop = true ∨ c.state ≠ some .stopIntent ∧ c.state ≠ some .unload → d = { c with timers := { c.timers with stop := .stopped } }

theorem dsBackOnline_eq (h : s.ds.state ≠ some .online) : dsBackOnline s = { s with
    ds := { s.ds.enter .online with intent := none, timers := { s.ds.timers with window := .stopped } } } := by
  rw [dsBackOnline, dsEnter_of_not_online _ h]
  rfl

theorem dsAbandonUnload_eq (h : s.ds.state ≠ some .online) : dsAbandonUnload s = { s with
    ds := { s.ds.enter .online with timers := { s.ds.timers with unload := .stopped } } } := by
  rw [dsAbandonUnload, dsEnter_of_not_online _ h]
  rfl

/-- The change to AUTONOMOUS writes the diesel record alone. -/
theorem dsAlone_eq (s : State) : ∃ d, AloneFrom s.ds d ∧ dsAlone s = { s with ds := d } := by
  have hdef : dsAlone s = match s.ds.state with
    | some .stopIntent => if s.ds.forcedStop then s.cancel .stop else dsBackOnline (s.cancel .stop)
    | some .unload => if s.ds.forcedStop then s.cancel .stop else dsAbandonUnload (s.cancel .stop)
    | _ => s.cancel .stop := rfl
  have honline (st : DieselState) (h : s.ds.state = some st) (hne : st ≠ .online) : (s.cancel .stop).ds.state ≠ some .online :=
    fun honline => hne (Option.some.inj (h.symm.trans honline))
  rw [hdef]
  split
  next hstate =>
    split
    next hforced =>
      exact ⟨_, ⟨fun _ h => absurd (hforced.symm.trans h) nofun, fun h => (nomatch hstate.symm.trans h), fun _ => rfl⟩, rfl⟩
    next hforced =>
      rw [dsBackOnline_eq (honline _ hstate nofun)]
      refine ⟨_, ?_, rfl⟩
      exact ⟨fun _ _ => ⟨rfl, rfl, rfl, rfl⟩, fun h => (nomatch hstate.symm.trans h),
        fun h => h.elim (fun h => absurd h hforced) fun h => absurd hstate h.1⟩
  next hstate =>
    split
    next hforced =>
      exact ⟨_, ⟨fun h => (nomatch hstate.symm.trans h), fun _ h => absurd (hforced.symm.trans h) nofun, fun _ => rfl⟩, rfl⟩
    next hforced =>
      rw [dsAbandonUnload_eq (honline _ hstate nofun)]
      refine ⟨_, ?_, rfl⟩
      exact ⟨fun h => (nomatch hstate.symm.trans h), fun _ _ => ⟨rfl, rfl, rfl⟩,
        fun h => h.elim (fun h => absurd h hforced) fun h => absurd hstate h.2⟩
  next hintent hunload => exact ⟨_, ⟨fun h => absurd h hintent, fun h => absurd h hunload, fun _ => rfl⟩, rfl⟩

/-- What the change from COORDINATED to AUTONOMOUS writes (R99, R147, R153). -/
theorem crSetMode_alone (hmode : s.cr.mode = .coordinated) : ∃ d x, AloneFrom s.ds d ∧ crSetMode .autonomous s = { s with
    cr := { s.cr with mode := .autonomous }
    ds := d
    fl := { s.fl with swap := none, qualTimer := .stopped, qualified := false }
    ilc := x } := by
  obtain ⟨hsame, -⟩ | ⟨-, h⟩ := crSetMode_cases .autonomous s
  · rw [hmode] at hsame
    cases hsame
  have hin : s.inMode .autonomous = { s with cr := { s.cr with mode := .autonomous } } := rfl
  obtain ⟨d, hd, halone⟩ := dsAlone_eq (s.inMode .autonomous)
  have hbsc : bscModeChange .coordinated (s.inMode .autonomous) = s.inMode .autonomous := rfl
  have hds : dsModeChange .coordinated (s.inMode .autonomous) = dsAlone (s.inMode .autonomous) := rfl
  have hjobs : flModeChange .coordinated (scModeChange .coordinated { s.inMode .autonomous with ds := d }) = { s with
      cr := { s.cr with mode := .autonomous }
      ds := d
      fl := { s.fl with swap := none, qualTimer := .stopped, qualified := false } } := rfl
  obtain ⟨x, hx, -⟩ := ilcFollow_eq { s with
    cr := { s.cr with mode := .autonomous }, ds := d, fl := { s.fl with swap := none, qualTimer := .stopped, qualified := false } }
  rw [hmode, hbsc, hds, halone, hjobs, hx] at h
  exact ⟨d, x, hd, h⟩

/-- In a formed table an entry is the one found for its address. -/
theorem tableFormed_entry (hs : s.tableFormed) (he : e ∈ s.pv.table) : s.pv.entry e.address = some e := by
  obtain ⟨-, hsorted, -⟩ := hs
  unfold Pv.entry
  generalize s.pv.table = l at *
  induction l with
  | nil => nomatch he
  | cons x l ih =>
    rw [List.pairwise_cons] at hsorted
    obtain ⟨hx, hsorted⟩ := hsorted
    rw [find_entry_cons]
    obtain rfl | he := List.mem_cons.1 he
    · exact if_pos rfl
    · rw [if_neg (Nat.ne_of_lt (hx e he))]
      exact ih he hsorted

/-- Whether any entry is FRESH, seen from the entry of one address. -/
theorem freshCount_eq_zero_iff (hs : s.tableFormed) (he : s.pv.entry a = some e) :
    s.pv.freshCount = 0 ↔ e.fresh = false ∧ ∀ b f, b ≠ a → s.pv.entry b = some f → f.fresh = false := by
  rw [Pv.freshCount_eq_zero]
  refine ⟨fun h => ⟨h e (Pv.entry_mem he).1, fun b f _ hf => h f (Pv.entry_mem hf).1⟩, fun ⟨hfresh, hothers⟩ x hx => ?_⟩
  have hentry := tableFormed_entry hs hx
  by_cases hxa : x.address = a
  · rw [hxa, he] at hentry
    rwa [← Option.some.inj hentry]
  · exact hothers _ x hxa hentry

/-- The state in which the freshness of an entry's sender has ended: its stale timer has expired. -/
def State.staleAt (s : State) (a : Nat) (t : Tick) : State :=
  { s with tb := t, pv := (s.pv.modify a fun e => { e with staleTimer := .stopped }).stale a }

theorem exec_stale (h : s.due (.stale a) t) : exec (.staleTimerExpiry a) s = .next (crReport s.pv.freshCount (s.staleAt a t)) := by
  refine (onExpiry_due (id := .stale a) _ h.1 h.2).trans ?_
  have hcount : (s.pv.modify a fun e => { e with staleTimer := .stopped }).freshCount = s.pv.freshCount := by
    simp only [Pv.freshCount, Pv.modify, List.filter_map, List.length_map]
    congr 2
    funext x
    simp only [Function.comp_apply]
    split <;> rfl
  exact congrArg (fun n => Host.Outcome.next (crReport n (s.staleAt a t))) hcount

theorem staleAt_entry : (s.staleAt a t).pv.entry b =
    (s.pv.entry b).map fun e => if e.address = a then { e with fresh := false, staleTimer := .stopped } else e := by
  have hstale := Pv.entry_modify (v := s.pv.modify a fun e => { e with staleTimer := .stopped }) (a := a) (b := b)
    (g := fun e => { e with fresh := false }) fun _ => rfl
  rw [Pv.entry_modify (g := fun e : Entry => { e with staleTimer := .stopped }) fun _ => rfl, Option.map_map] at hstale
  refine hstale.trans (congrArg (fun f => Option.map f (s.pv.entry b)) (funext fun x => ?_))
  simp only [Function.comp_apply]
  by_cases h : x.address = a <;> simp [h]

theorem staleAt_entry_same (he : s.pv.entry a = some e) :
    (s.staleAt a t).pv.entry a = some { e with fresh := false, staleTimer := .stopped } := by
  rw [staleAt_entry, he, Option.map_some, if_pos (Pv.entry_mem he).2]

theorem staleAt_entry_other (hb : b ≠ a) : (s.staleAt a t).pv.entry b = s.pv.entry b := by
  rw [staleAt_entry]
  cases hf : s.pv.entry b with
  | none => rfl
  | some f => rw [Option.map_some, if_neg (by rw [(Pv.entry_mem hf).2]; exact hb)]

theorem staleAt_formed (hs : s.tableFormed) : (s.staleAt a t).tableFormed := by
  rw [State.tableFormed_iff] at hs ⊢
  obtain ⟨hok, hempty⟩ := hs
  refine ⟨Pv.modify_tableOk (fun _ => rfl) (fun _ => id) (Pv.modify_tableOk (fun _ => rfl) (fun _ => id) hok), fun hrun => ?_⟩
  have htable : s.pv.table = [] := hempty hrun
  change List.map _ (List.map _ s.pv.table) = []
  rw [htable]
  rfl

/-- The STALE entry of an address leaves the table, its removal timer's expiry included. -/
theorem remove_modify {g : Entry → Entry} (hg : ∀ e, (g e).address = e.address ∧ (g e).fresh = e.fresh) {l : List Entry}
    (hstale : ∀ x ∈ l, x.address = a → x.fresh = false) :
    (l.map fun x => if x.address == a then g x else x).filter (fun x => x.address != a || x.fresh) = l.filter fun x => x.address != a := by
  induction l with
  | nil => rfl
  | cons x l ih =>
    have hl := ih fun y hy => hstale y (List.mem_cons_of_mem _ hy)
    have hx := hstale x List.mem_cons_self
    obtain ⟨haddress, hfresh⟩ := hg x
    by_cases h : x.address = a
    · simp [h, haddress, hfresh, hx h, ← hl]
    · simp [h, ← hl]

/-- Settles O29: the expiry of a stale timer makes the entry STALE and is reported to the mode, and that of a removal timer takes it out. -/
theorem freshnessTimersExpire : Obligations.FreshnessTimersExpire := by
  intro a t e s hformed he
  refine ⟨fun hdue => ?_, fun hdue hfresh => ?_⟩
  · have hside := crReport_offMode s.pv.freshCount (s.staleAt a t)
    have hbefore := freshCount_eq_zero_iff hformed he
    have hafter := freshCount_eq_zero_iff (staleAt_formed (a := a) (t := t) hformed) (staleAt_entry_same (t := t) he)
    have hothers : (∀ b f, b ≠ a → (s.staleAt a t).pv.entry b = some f → f.fresh = false) ↔
        ∀ b f, b ≠ a → s.pv.entry b = some f → f.fresh = false :=
      forall_congr' fun b => forall_congr' fun f => forall_congr' fun hb => by rw [staleAt_entry_other hb]
    rw [hothers] at hafter
    refine ⟨_, exec_stale hdue, (offMode_tb hside :), ?_, fun b hb => ?_, (offMode_mu hside :), (offMode_be hside :), (offMode_mp hside :),
      fun hfresh hmode hstale => ?_, fun hkeeps => ?_⟩
    · rw [offMode_pv hside, staleAt_entry_same he]
    · rw [offMode_pv hside, staleAt_entry_other hb]
    · have hnow : (s.staleAt a t).pv.freshCount = 0 := hafter.2 ⟨rfl, hstale⟩
      have hwas : s.pv.freshCount ≠ 0 := fun h => by rw [(hbefore.1 h).1] at hfresh; cases hfresh
      have hcalled : (s.staleAt a t).pv.calledMode = .autonomous := by rw [Pv.calledMode, hnow, decide_eq_true rfl, Bool.or_true]; rfl
      obtain ⟨d, x, ⟨hintent, hunload, hstands⟩, hset⟩ := crSetMode_alone (s := s.staleAt a t) hmode
      have hreport : crReport s.pv.freshCount (s.staleAt a t) = crSetMode .autonomous (s.staleAt a t) := by
        rw [crReport_of_changed (by rw [hnow, beq_eq_false_iff_ne.2 hwas]; nofun), crFollow, hcalled]
        exact if_pos (by rw [State.operating, show (s.staleAt a t).cr.mode = .coordinated from hmode]; rfl)
      rw [hreport, hset]
      exact ⟨rfl, rfl, rfl, rfl, rfl, rfl, hintent, hunload, hstands⟩
    · have hsame : crReport s.pv.freshCount (s.staleAt a t) = s.staleAt a t := by
        refine crReport_of_same ?_
        rw [Bool.eq_iff_iff, beq_iff_eq, beq_iff_eq, hbefore, hafter]
        refine ⟨fun h => ⟨rfl, h.2⟩, fun h => ⟨?_, h.2⟩⟩
        obtain hfresh | ⟨b, f, hb, hf, hfresh⟩ := hkeeps
        · exact hfresh
        · rw [h.2 b f hb hf] at hfresh
          cases hfresh
      rw [hsame]
      exact ⟨rfl, rfl, rfl⟩
  · obtain ⟨hrun, hexpiry⟩ := hdue
    have hstale : s.staleEntry a = true := by
      rw [State.staleEntry, he, Option.map_some, hfresh]
      rfl
    refine (whileRunning_runs _ hrun).trans ?_
    rw [if_pos hstale, atExpiry_due _ hexpiry]
    have hremoved := remove_modify (a := a) (g := fun e => { e with removalTimer := .stopped }) (fun _ => ⟨rfl, rfl⟩) (l := s.pv.table)
      fun x hx hxa => by
        have hentry := tableFormed_entry hformed hx
        rw [hxa, he] at hentry
        rwa [← Option.some.inj hentry]
    exact congrArg (fun l => Host.Outcome.next { s with tb := t, pv := { s.pv with table := l } }) hremoved

end

section
variable {s : State} {t : Tick}

/-! ### The end of a balance period (R16, R76 to R80, R82) -/

/-- The measurement unit as the end of a balance period leaves it (R16). -/
def Mu.handedOver (m : Mu) : Mu :=
  if m.sums.count = 0 then { m with mean := { m.mean with f := m.latest.bind (·.f) } }
  else
    { m with
      mean := ⟨roundDiv m.sums.src m.sums.count, .of fun p => roundDiv (m.sums.feeder.get p) m.sums.count,
        roundDiv m.sums.avail m.sums.count, m.latest.bind (·.f)⟩
      sums := .empty }

theorem muHandOver_mu (s : State) : muHandOver s = { s with mu := s.mu.handedOver } := by
  unfold muHandOver Mu.handedOver
  dsimp only
  split <;> rfl

/-- The state in which the new figures stand and their readers have yet to take them. -/
def State.computed (s : State) (t : Tick) : State := beCompute (s.handedOver t s.mu.handedOver)

theorem exec_balance (h : s.due .balance t) :
    exec .balancePeriodExpiry s = .next (flFigures (scFigures (dsFigures (s.computed t)))) := by
  refine (onExpiry_due (id := .balance) beExpired h.1 h.2).trans ?_
  unfold beExpired
  rw [muHandOver_mu]
  rfl

/-- What the readers of the figures leave. -/
theorem readers_kept (s : State) : (flFigures (scFigures (dsFigures s))).kept = s.kept := by simp

/-- The means of a period and the sums, as the hand-over leaves them. -/
theorem Mu.handedOver_spec (m : Mu) :
    m.handedOver = { m with mean := m.handedOver.mean, sums := m.handedOver.sums } ∧ m.handedOver.mean.f = m.latest.bind (·.f) ∧
      (m.sums.count = 0 → m.handedOver.mean = { m.mean with f := m.handedOver.mean.f } ∧ m.handedOver.sums = m.sums) ∧
      (0 < m.sums.count → m.handedOver.mean.src = roundDiv m.sums.src m.sums.count ∧
        m.handedOver.mean.avail = roundDiv m.sums.avail m.sums.count ∧
        (∀ p, m.handedOver.mean.feeder.get p = roundDiv (m.sums.feeder.get p) m.sums.count) ∧ m.handedOver.sums = .empty) := by
  unfold Mu.handedOver
  split
  next hzero => exact ⟨rfl, rfl, fun _ => ⟨rfl, rfl⟩, fun h => absurd hzero h.ne'⟩
  next hsome => exact ⟨rfl, rfl, fun h => absurd h hsome, fun _ => ⟨rfl, rfl, fun p => by cases p <;> rfl, rfl⟩⟩

/-- Settles O30: the readers of the figures leave what the end of the period hands over. -/
theorem balanceExpiryHandsOver : Obligations.BalanceExpiryHandsOver := by
  intro t s hdue x
  have hkept := readers_kept (s.computed t)
  have hmu : _ = s.mu.handedOver := kept_mu hkept
  have hbe : _ = (s.computed t).be := kept_be hkept
  obtain ⟨hframe, hf, hheld, hmeans⟩ := s.mu.handedOver_spec
  refine ⟨_, exec_balance hdue, (kept_tb hkept :), ?_, ?_, ?_, ?_, ?_, ?_, ?_, ?_, ?_, ?_, (kept_pv hkept :), (kept_cr hkept :), (kept_mp hkept :),
    (kept_inputs hkept :), (kept_address hkept :), (kept_pending hkept :)⟩
  · rw [hbe]
    rfl
  · rw [hmu]
    exact hframe
  · rw [hmu]
    exact hf
  · rw [hmu]
    exact hheld
  · rw [hmu]
    exact hmeans
  · rw [hbe]
    rfl
  · rw [hbe]
    rfl
  · rw [hbe, hmu]
    rfl
  · rw [hbe]
    change (State.view s).length = _
    unfold State.view Pv.freshCount
    split <;> rfl
  · rw [hbe, hmu]
    change ((State.ownOutput (s.handedOver t s.mu.handedOver) : Nat) : Int) = _
    split
    next hrole => exact congrArg Nat.cast (if_pos hrole)
    next hrole => exact ownOutput_cast (s := s.handedOver t s.mu.handedOver) hrole

end

section
variable {s : State} {t : Tick}

/-! ### The island sums and the restore candidate (R78 to R80, R82) -/

/-- A sum over the entries of the view, taken over those that enter it. -/
theorem sumWhere_entries (enters : Contribution → Bool) (term : Contribution → Nat) (l : List Entry) :
    sumWhere enters term (l.map (·.contribution)) =
      ((l.filter fun e => enters e.contribution).map fun e => term e.contribution).sum := by
  induction l with
  | nil => rfl
  | cons e l ih =>
    have hcons : sumWhere enters term ((e :: l).map (·.contribution)) =
      (if enters e.contribution then term e.contribution else 0) + sumWhere enters term (l.map (·.contribution)) := rfl
    rw [hcons, ih]
    by_cases h : enters e.contribution = true
    · rw [if_pos h, List.filter_cons_of_pos (by exact h), List.map_cons, List.sum_cons]
    · rw [if_neg h, List.filter_cons_of_neg (by exact h), Nat.zero_add]

/-- An island sum is the own station's part and that of the view: those of a role whose summary is one of those counted. -/
theorem sumWhere_contributions (s : State) (role : Role) (counted : Summary → Bool) {enters : Contribution → Bool}
    {term : Contribution → Nat} {n : Nat} (henters : ∀ c, enters c = (c.role == role && counted c.summary))
    (hown : s.par.station.role = role → term s.ownContribution = n) :
    sumWhere enters term s.contributions = (if s.par.station.role = role ∧ counted s.summary = true then n else 0) +
      ((s.view.filter fun e => e.role == role && counted e.summary).map fun e => term e.contribution).sum := by
  obtain rfl : enters = fun c => c.role == role && counted c.summary := funext henters
  have hsum : sumWhere (fun c : Contribution => c.role == role && counted c.summary) term s.contributions =
      (if (s.ownContribution.role == role && counted s.ownContribution.summary) = true then term s.ownContribution else 0) +
        sumWhere (fun c : Contribution => c.role == role && counted c.summary) term (s.view.map (·.contribution)) := rfl
  rw [hsum, sumWhere_entries]
  congr 1
  simp only [Bool.and_eq_true, beq_iff_eq]
  refine ite_congr rfl (fun h => hown h.1) fun _ => rfl

theorem ownContribution_minimumLoad (h : s.par.station.role = .genset) : s.ownContribution.minOrAvail = s.par.diesel.minimumLoad := by
  simp only [State.ownContribution, h]

theorem ownContribution_available (h : s.par.station.role = .solar) : s.ownContribution.minOrAvail = s.ownAvailable := by
  simp only [State.ownContribution, h]

/-- Settles O31: each sum is the own part and that of the view. -/
theorem islandSumsCountStations : Obligations.IslandSumsCountStations := by
  intro t s hdue
  have hkept := readers_kept (s.computed t)
  refine ⟨_, exec_balance hdue, ?_⟩
  intro g st peers peerSum own online available
  have hg : g = (s.handedOver t s.mu.handedOver).newFigures := congrArg Be.figures (kept_be hkept)
  have havailable : available = min (max (clamp16 s.mu.handedOver.mean.avail) g.ownOutput) st.rating :=
    congrArg (fun m : Mu => min (max (clamp16 m.mean.avail) g.ownOutput) st.rating) (kept_mu hkept)
  clear_value g available
  subst hg havailable
  have hsum (role : Role) (counted : Summary → Bool) {enters : Contribution → Bool} {term : Contribution → Nat} {n : Nat} :=
    sumWhere_contributions (s.handedOver t s.mu.handedOver) role counted (enters := enters) (term := term) (n := n)
  refine ⟨hsum .genset online (fun _ => rfl) fun _ => rfl,
    hsum .genset (fun x => x == .online || x == .leaving) (fun c => (Bool.and_or_distrib_left _ _ _).symm) fun _ => rfl,
    hsum .genset online (fun _ => rfl) fun hrole => ownContribution_minimumLoad hrole,
    hsum .genset (· == .pending) (fun _ => rfl) fun _ => rfl, hsum .solar online (fun _ => rfl) fun _ => rfl,
    hsum .solar online (fun _ => rfl) fun hrole => (ownContribution_available hrole).trans (if_pos hrole), rfl⟩

/-- The head of an ordered list: nothing in the list comes before it. -/
theorem sortBy_head {α : Type} {before : α → α → Bool} (hirrefl : ∀ a, before a a = false)
    (htrans : ∀ a b c, before a b = true → before b c = true → before a c = true) {l : List α} {c d : α}
    (hc : (sortBy before l).head? = some c) (hd : d ∈ l) : before d c = false := by
  induction l generalizing c d with
  | nil => nomatch hd
  | cons a l ih =>
    unfold sortBy at hc
    cases hl : sortBy before l with
    | nil =>
      rw [hl] at hc
      obtain rfl := Option.some.inj hc
      have hempty : l = [] := by
        cases l with
        | nil => rfl
        | cons x l => exact absurd ((mem_sortBy before x (x :: l)).2 List.mem_cons_self) (by rw [hl]; nofun)
      rw [hempty, List.mem_singleton] at hd
      rw [hd]
      exact hirrefl _
    | cons b rest =>
      rw [hl, insertBy] at hc
      have hrest (x : α) (hx : x ∈ l) : before x b = false := ih (by rw [hl]; rfl) hx
      split at hc
      next hab =>
        obtain rfl := Option.some.inj hc
        obtain rfl | hd := List.mem_cons.1 hd
        · exact hirrefl _
        · exact Bool.eq_false_iff.2 fun hda => absurd (htrans _ _ _ hda hab) (by rw [hrest d hd]; nofun)
      next hab =>
        obtain rfl := Option.some.inj hc
        obtain rfl | hd := List.mem_cons.1 hd
        · exact Bool.eq_false_iff.2 hab
        · exact hrest d hd

theorem Candidate.before_iff {a b : Candidate} : Candidate.before a b = true ↔
    if a.state ≠ b.state then a.state = .blackOpen
    else b.shedRank < a.shedRank ∨
      a.shedRank = b.shedRank ∧ (a.address < b.address ∨ a.address = b.address ∧ a.port < b.port) := by
  unfold Candidate.before
  split
  · simp
  · split
    next hrank => simp [hrank]
    next hrank => simp [not_not.1 hrank]

theorem Candidate.before_irrefl (a : Candidate) : Candidate.before a a = false := by
  rw [Bool.eq_false_iff, Ne, Candidate.before_iff]
  simp

theorem Candidate.before_trans (a b c : Candidate) (hab : Candidate.before a b = true) (hbc : Candidate.before b c = true) :
    Candidate.before a c = true := by
  rw [Candidate.before_iff] at *
  by_cases h1 : a.state = b.state <;> by_cases h2 : b.state = c.state
  · simp only [h1, h2, ne_eq, not_true_eq_false, if_false] at *
    omega
  · simp_all
  · simp_all
  · simp_all

theorem PortState.waits_iff (st : PortState) : st.waits = true ↔ st = .shed ∨ st = .blackOpen := by cases st <;> decide

/-- The candidate records: the own and the peers' ports that are SHED or BLACK-OPEN. -/
theorem mem_candidates {c : Candidate} : c ∈ s.ownCandidates ++ s.peerCandidates ↔
    (c.state = .shed ∨ c.state = .blackOpen) ∧
      ((∃ p r, s.port p = some r ∧ c = ⟨s.address, p.num, r.state, (s.par.port.get p).shedRank, r.load, (s.par.port.get p).coldLoad⟩) ∨
        ∃ e ∈ s.view, ∃ r ∈ e.feeders, c = ⟨e.address, r.port, r.state, r.shedRank, r.load, 150⟩) := by
  simp only [State.ownCandidates, State.peerCandidates, List.mem_append, List.mem_filterMap, Option.bind_eq_some_iff,
    Option.ite_none_right_eq_some, Option.some.injEq, List.mem_flatMap, List.mem_map, List.mem_filter, Port.mem_all, true_and,
    PortState.waits_iff]
  constructor
  · rintro (⟨p, r, hr, hwaits, rfl⟩ | ⟨e, he, r, ⟨hr, hwaits⟩, rfl⟩)
    · exact ⟨hwaits, .inl ⟨p, r, hr, rfl⟩⟩
    · exact ⟨hwaits, .inr ⟨e, he, r, hr, rfl⟩⟩
  · rintro ⟨hwaits, ⟨p, r, hr, rfl⟩ | ⟨e, he, r, hr, rfl⟩⟩
    · exact .inl ⟨p, r, hr, hwaits, rfl⟩
    · exact .inr ⟨e, he, r, ⟨hr, hwaits⟩, rfl⟩

/-- Settles O33: the candidate is the head of the ordered candidate records. -/
theorem candidateIsFirst : Obligations.CandidateIsFirst := by
  intro t s hdue
  obtain ⟨u, m, hu, hfigures⟩ := exec_balancePeriodExpiry_figures hdue
  refine ⟨u, hu, ?_⟩
  rw [hfigures]
  intro isRecord precedes
  have hmem (c : Candidate) : c ∈ (s.handedOver t m).ownCandidates ++ (s.handedOver t m).peerCandidates ↔ isRecord c := mem_candidates
  have hcandidate : (s.handedOver t m).newFigures.candidate = (s.handedOver t m).restoreCandidate := rfl
  rw [hcandidate]
  unfold State.restoreCandidate
  refine ⟨?_, fun c hc => ⟨?_, fun d hd hprecedes => ?_⟩⟩
  · rw [List.head?_eq_none_iff, List.eq_nil_iff_forall_not_mem]
    exact forall_congr' fun c => by rw [mem_sortBy, hmem]
  · rw [← hmem, ← mem_sortBy Candidate.before]
    exact List.mem_of_head? hc
  · have hnot := sortBy_head Candidate.before_irrefl Candidate.before_trans hc ((hmem d).2 hd)
    have hbefore : Candidate.before d c = true := by
      rw [Candidate.before_iff]
      obtain ⟨hblack, hshed⟩ | ⟨hsame, hrest⟩ := hprecedes
      · rw [if_pos (by rw [hblack, hshed]; nofun), hblack]
      · rw [if_neg (not_not.2 hsame)]
        exact hrest
    rw [hnot] at hbefore
    cases hbefore

end

end Sys2Proof.Machine
end

section
/-! SUPPORT. New figures and the diesel set. -/

namespace Sys2Proof.Machine

/-! ### The readers of new figures (R89) -/

section
variable {P : State → Prop} {s : State} (h : LadderKeeps P) (ha : AnnounceKeeps P)
include h

theorem flRecordLoads_keeps (hs : P s) : P (flRecordLoads s) := foldl_keeps (fun _ _ hs => h.ladder _ hs) Port.all hs

theorem flJudgeOverload_keeps (hs : P s) : P (flJudgeOverload s) := by
  unfold flJudgeOverload
  split
  · split
    · split
      · exact hs
      · exact h.ladder _ hs
    · exact h.ladder _ hs
  · exact hs

include ha

theorem flRestore_keeps (hs : P s) : P (flRestore s) := by
  unfold flRestore
  split
  next p _ =>
    split
    · have hclose := flClose_keeps h p hs
      split
      next v hv =>
        rw [hv] at hclose
        exact flAnnounceStep_keeps h ha p hclose
      next v hv =>
        rw [hv] at hclose
        exact hclose
    · exact hs
  · exact hs

theorem flStartSwap_keeps (hs : P s) : P (flStartSwap s) := by
  unfold flStartSwap
  split
  next c o _ _ =>
    split
    · have htrip := flTrip_keeps h o (.shed .rotation) (fun _ => ha) (h.ladder { s.fl with swap := some ⟨o, c, .opening⟩ } hs)
      split
      next v hv =>
        rw [hv] at htrip
        exact htrip
      next v hv =>
        rw [hv] at htrip
        exact h.ladder _ htrip
    · exact hs
  · exact hs

theorem flFigures_keeps (hs : P s) : P (flFigures s) := by
  unfold flFigures
  split
  · exact flStartSwap_keeps h ha (flRestore_keeps h ha (flJudgeOverload_keeps h (flRecordLoads_keeps h hs)))
  · exact hs

end

section
variable {s u v : State}

/-- The station with everything blotted out that the readers of the figures after the diesel sequencer write while the set is not in
SPOOL: what the ladder writes, the STEP notice, the solar record and the cap code. -/
def State.offReaders (s : State) : State :=
  let x := s.offPorts
  { x with
    sc := .reset
    tac := { x.tac with capCode := 0 }
    ilc := { x.ilc with slots := { x.ilc.slots with step := ⟨none, 0, 0⟩ } } }

theorem State.offReaders_of_offPorts (h : u.offPorts = v.offPorts) : u.offReaders = v.offReaders := by
  unfold State.offReaders
  rw [h]

theorem offReaders_ds (h : u.offReaders = v.offReaders) : u.ds = v.ds := by have := congrArg State.ds h; exact this
theorem offReaders_ret (h : u.offReaders = v.offReaders) : u.ret.run = v.ret.run ∧ u.ret.lockout = v.ret.lockout := by
  have := congrArg State.ret h
  exact ⟨(congrArg Retention.run this :), (congrArg Retention.lockout this :)⟩
theorem offReaders_intentSlot (h : u.offReaders = v.offReaders) : u.ilc.slots.intent = v.ilc.slots.intent := by
  have := congrArg (fun x : State => x.ilc.slots.intent) h
  exact this
theorem offReaders_source (h : u.offReaders = v.offReaders) : (∀ c, c = .srcClose ∨ c = .srcTrip ∨ c = .crank → u.pulse c = v.pulse c) ∧
    u.window .source = v.window .source := by
  refine ⟨fun c hc => ?_, ?_⟩
  · obtain rfl | rfl | rfl := hc
    · have := congrArg (fun x : State => x.tac.srcClose) h
      exact this
    · have := congrArg (fun x : State => x.tac.srcTrip) h
      exact this
    · have := congrArg (fun x : State => x.tac.crank) h
      exact this
  · have := congrArg (fun x : State => x.tac.srcWindow) h
    exact this

theorem bscLook_offReaders (hspool : s.ds.state ≠ some .spool) : (bscLook s).offReaders = s.offReaders :=
  State.offReaders_of_offPorts (bscLook_offPorts hspool)

theorem offReaders_keeps {s₀ : State} (hspool : s₀.ds.state ≠ some .spool) : LadderKeeps fun u => u.offReaders = s₀.offReaders where
  ladder _ hs := hs
  breaker hsame hs := (State.offReaders_of_offPorts hsame.offPorts).trans hs
  entered _ _ _ _ hs := hs
  looked hs := (bscLook_offReaders (by rw [offReaders_ds hs]; exact hspool)).trans hs

theorem offReaders_announce (s₀ : State) : AnnounceKeeps fun u => u.offReaders = s₀.offReaders := by
  intro s l hs
  refine Eq.trans ?_ hs
  obtain ⟨-, h⟩ | ⟨-, h⟩ := s.placeFrame_cases .step l <;> rw [h]
  rfl

theorem scFigures_offReaders (s : State) : (scFigures s).offReaders = s.offReaders := by
  unfold scFigures
  split <;> rfl

theorem scFigures_ds (s : State) : (scFigures s).ds = s.ds := offReaders_ds (scFigures_offReaders s)

/-- While the set is not in SPOOL, the other readers of the figures write what is their own. -/
theorem laterReaders_offReaders (hspool : s.ds.state ≠ some .spool) : (flFigures (scFigures s)).offReaders = s.offReaders :=
  flFigures_keeps (offReaders_keeps hspool) (offReaders_announce s) (scFigures_offReaders s)

/-! ### The bias at new figures (R112) -/

theorem setBias_bias (b : Int) (s : State) : (setBias b s).ds.bias = b := rfl
theorem dsEnter_bias (st : DieselState) (s : State) : (dsEnter st s).ds.bias = s.ds.bias := by rw [dsEnter_ds]; rfl
theorem dsEnterSync_bias (s : State) : (dsEnterSync s).ds.bias = s.ds.bias := dsEnter_bias .sync s
theorem dsEnterFailed_bias (s : State) : (dsEnterFailed s).ds.bias = 0 := by rw [dsEnterFailed_ds]

theorem dsEnterSpool_bias (s : State) : (dsEnterSpool s).ds.bias = 0 := setBias_bias 0 (dsEnter .spool s)

theorem dsEnterCrank_bias (s : State) : (dsEnterCrank s).ds.bias = 0 := by
  unfold dsEnterCrank
  dsimp only
  split
  · exact dsEnterSpool_bias _
  · rw [requestCrank_ds]
    exact setBias_bias 0 (dsEnter .crank s)

theorem dsEnterStandby_bias (s : State) : (dsEnterStandby s).ds.bias = 0 := by
  unfold dsEnterStandby
  dsimp only
  split
  · exact dsEnterCrank_bias _
  · exact setBias_bias 0 (dsEnter .standby s)

/-- A set in SPOOL whose bias is 0 keeps it through a change of island state to LIVE. -/
theorem bscLook_bias (h : s.ds.bias = 0) : (bscLook s).ds.bias = 0 := by
  have hlive (u : State) : (bscHoldLive u).ds = u.ds := by
    unfold bscHoldLive
    split <;> rfl
  have hjudge (u : State) (hu : u.ds.bias = 0) (hup : u.bsc.island = some .live) : (dsIslandChange u).ds.bias = 0 := by
    unfold dsIslandChange
    have hislandUp : u.islandUp = true := by simp [State.islandUp, hup]
    have hdark : u.bsc.island ≠ some .dark := by rw [hup]; nofun
    simp only [hislandUp, if_true, hdark, if_false]
    split
    · unfold dsJudgeSpool
      split
      · simp only [hup]
        exact (dsEnterSync_bias u).trans hu
      · exact dsEnterFailed_bias u
    · exact hu
  unfold bscLook
  split
  · rw [bscEnterLive, hlive]
    exact hjudge _ h rfl
  · exact h

theorem bias_keeps : LadderKeeps fun u => u.ds.bias = 0 where
  ladder _ hs := hs
  breaker hsame hs := by
    obtain ⟨-, -, tac, rfl, -⟩ := hsame
    exact hs
  entered _ _ _ _ hs := hs
  looked hs := bscLook_bias hs

theorem bias_announce : AnnounceKeeps fun u => u.ds.bias = 0 := by
  intro s l hs
  obtain ⟨-, h⟩ | ⟨-, h⟩ := s.placeFrame_cases .step l <;> rw [h] <;> exact hs

/-- Out of operation the ladder records its loads alone. -/
theorem flFigures_ds_of_held (hop : s.operating = false) : (flFigures s).ds = s.ds := by
  have hloads (l : List Port) (u : State) : (l.foldl (fun s p => s.modifyPort p fun r =>
      if r.state = .closed then { r with load := clamp16 (s.mu.mean.feeder.get p) } else r) u).ds = u.ds ∧
      (l.foldl (fun s p => s.modifyPort p fun r =>
        if r.state = .closed then { r with load := clamp16 (s.mu.mean.feeder.get p) } else r) u).cr = u.cr := by
    induction l generalizing u with
    | nil => exact ⟨rfl, rfl⟩
    | cons p l ih => exact ih _
  obtain ⟨hds, hcr⟩ := hloads Port.all s
  have hop : (flRecordLoads s).operating = false := by
    rw [State.operating, show (flRecordLoads s).cr = s.cr from hcr]
    exact hop
  have hmode : (flRecordLoads s).cr.mode ≠ .coordinated := by
    intro h
    rw [State.operating, h] at hop
    cases hop
  have hoverload : flJudgeOverload (flRecordLoads s) = flRecordLoads s := by
    unfold flJudgeOverload
    rw [hop]
    rfl
  have hrestore : flRestore (flRecordLoads s) = flRecordLoads s := by
    unfold flRestore
    split
    · refine if_neg ?_
      rw [State.restoreReady, hop, Bool.and_false]
      simp
    · rfl
  have hswap : flStartSwap (flRecordLoads s) = flRecordLoads s := by
    unfold flStartSwap
    split
    · refine if_neg ?_
      simp [hmode]
    · rfl
  unfold flFigures
  split
  · rw [hoverload, hrestore, hswap]
    exact hds
  · rfl

end

section
variable {s : State} {t : Tick} {d : DieselState}

theorem dsBackOnline_ds (s : State) : (dsBackOnline s).ds = { s.ds.enter .online with
    intent := none, timers := { s.ds.timers with window := .stopped } } := by
  have hds := dsEnter_ds .online s
  change { (dsEnter .online s).ds with intent := none, timers := { (dsEnter .online s).ds.timers with window := .stopped } } = _
  rw [hds]
  rfl

theorem dsAbandonUnload_ds (s : State) : (dsAbandonUnload s).ds = { s.ds.enter .online with
    timers := { s.ds.timers with unload := .stopped } } := by
  have hds := dsEnter_ds .online s
  change { (dsEnter .online s).ds with timers := { (dsEnter .online s).ds.timers with unload := .stopped } } = _
  rw [hds]
  rfl

theorem dsTrip_ds (confirm : Bool) (s : State) : (dsTrip confirm s).2.ds = s.ds := by
  obtain ⟨-, -, tac, h, -⟩ := sameButBreaker_dsTrip confirm s
  rw [h]

theorem dsConfirmed_of_opening (h : s.ds.state = some .opening) : dsConfirmed s = (dsEnter .cooldown s).start .cooldown (sec s.par.diesel.cooldown) := by
  simp only [dsConfirmed, h]

/-- The trip into OPENING keeps the bias, and its confirmation at once starts the cooldown. -/
theorem dsEnterOpening_bias (s : State) :
    (dsEnterOpening s).ds.bias = s.ds.bias ∧ ((dsEnterOpening s).ds.state = some .opening ∨ (dsEnterOpening s).ds.state = some .cooldown) := by
  have htrip := dsTrip_ds true (s.cancel .unload)
  have hopening := dsEnter_ds .opening (dsTrip true (s.cancel .unload)).2
  rw [htrip] at hopening
  unfold dsEnterOpening
  dsimp only
  split
  · rw [dsConfirmed_of_opening (by rw [hopening]; rfl)]
    have hcooldown := dsEnter_ds .cooldown (dsEnter .opening (dsTrip true (s.cancel .unload)).2)
    rw [hopening] at hcooldown
    generalize dsEnter .cooldown (dsEnter .opening (dsTrip true (s.cancel .unload)).2) = v at *
    change v.ds.bias = _ ∧ (v.ds.state = _ ∨ v.ds.state = _)
    rw [hcooldown]
    exact ⟨rfl, .inr rfl⟩
  · rw [hopening]
    exact ⟨rfl, .inl rfl⟩

/-- The states that a judgement of new figures may leave while the set runs online, with the bias that the step has left. -/
theorem dsJudge_online_bias (h : s.ds.state = some .online ∨ s.ds.state = some .stopIntent ∨ s.ds.state = some .unload) :
    (dsJudge s).ds.bias = s.ds.bias ∧ (dsJudge s).ds.state ≠ some .spool := by
  obtain h | h | h := h
  · have hjudge : dsJudge s = dsJudgeStop s := by simp only [dsJudge, h]
    have hstate : s.ds.state ≠ some .spool := by rw [h]; nofun
    rw [hjudge]
    unfold dsJudgeStop
    split
    · split
      · split
        · exact ⟨rfl, hstate⟩
        · exact ⟨rfl, hstate⟩
      · exact ⟨rfl, hstate⟩
    · exact ⟨rfl, hstate⟩
  · have hjudge : dsJudge s = dsJudgeStopIntent s := by simp only [dsJudge, h]
    rw [hjudge]
    unfold dsJudgeStopIntent
    split
    · rw [dsBackOnline_ds]
      exact ⟨rfl, nofun⟩
    · exact ⟨rfl, by rw [h]; nofun⟩
  · have hjudge : dsJudge s = dsJudgeUnload s := by simp only [dsJudge, h]
    rw [hjudge]
    unfold dsJudgeUnload
    split
    · rw [dsAbandonUnload_ds]
      exact ⟨rfl, nofun⟩
    · split
      · obtain ⟨hbias, hstate | hstate⟩ := dsEnterOpening_bias s <;> rw [hstate] <;> exact ⟨hbias, nofun⟩
      · exact ⟨rfl, by rw [h]; nofun⟩

theorem dsEnterIntent_ds (s : State) : (dsEnterIntent s).ds = { s.ds.enter .intent with
    crankCount := 0, intent := some (.start, s.tb)
    timers := { s.ds.timers with window := .running s.tb (ms s.par.diesel.intentWindow) } } := by
  have hds := dsEnter_ds .intent s
  have hkept := dsEnter_kept s .intent
  have htb := kept_tb hkept
  have hpar : (dsEnter .intent s).par = s.par := by rw [State.par, State.par, kept_cr hkept]
  unfold dsEnterIntent
  dsimp only
  rw [openIntent_ds]
  generalize dsEnter .intent s = v at *
  change { v.ds with
    crankCount := 0, intent := some (.start, v.tb)
    timers := { v.ds.timers with window := .running v.tb (ms v.par.diesel.intentWindow) } } = _
  rw [hds, htb, hpar]
  rfl

/-- The other judgements leave a bias of 0 at 0. -/
theorem dsJudge_offline_bias (hbias : s.ds.bias = 0)
    (h : s.ds.state ≠ some .online ∧ s.ds.state ≠ some .stopIntent ∧ s.ds.state ≠ some .unload) : (dsJudge s).ds.bias = 0 := by
  obtain ⟨honline, hstop, hunload⟩ := h
  unfold dsJudge
  split
  · unfold dsJudgeStart
    split
    · dsimp only
      split
      · rw [dsEnterIntent_ds]
        exact hbias
      · exact hbias
    · exact hbias
  · split
    · exact dsEnterStandby_bias _
    · exact hbias
  next h => exact absurd h honline
  next h => exact absurd h hstop
  next h => exact absurd h hunload
  · exact hbias

/-- A set that neither starts nor stops makes nothing of new figures. -/
theorem dsJudge_of_other (h : s.ds.state = some d)
    (hd : d ≠ .standby ∧ d ≠ .intent ∧ d ≠ .online ∧ d ≠ .stopIntent ∧ d ≠ .unload) : dsJudge s = s := by
  obtain ⟨h1, h2, h3, h4, h5⟩ := hd
  unfold dsJudge
  split
  next h' => exact absurd (Option.some.inj (h.symm.trans h')) h1
  next h' => exact absurd (Option.some.inj (h.symm.trans h')) h2
  next h' => exact absurd (Option.some.inj (h.symm.trans h')) h3
  next h' => exact absurd (Option.some.inj (h.symm.trans h')) h4
  next h' => exact absurd (Option.some.inj (h.symm.trans h')) h5
  · rfl

theorem dsBiasStep_state (s : State) : (dsBiasStep s).ds.state = s.ds.state := by
  unfold dsBiasStep dsBiasOnline dsBiasSync
  repeat' split
  all_goals rfl

theorem dsFigures_of_operating (h : s.operating = true) : dsFigures s = dsJudge (dsBiasStep s) := if_pos h

/-- The readers of the figures after the diesel sequencer leave the diesel record of a set that is not in SPOOL. -/
theorem laterReaders_ds (hspool : s.ds.state ≠ some .spool) : (flFigures (scFigures s)).ds = s.ds :=
  offReaders_ds (laterReaders_offReaders hspool)

theorem dsBiasStep_online (h : s.ds.state = some .online ∨ s.ds.state = some .stopIntent) : dsBiasStep s = dsBiasOnline s := by
  obtain h | h := h <;> simp only [dsBiasStep, h]

theorem dsBiasStep_zero (h : s.ds.state = some .crank ∨ s.ds.state = some .rest ∨ s.ds.state = some .spool ∨ s.ds.state = some .arbitrate ∨
    s.ds.state = some .off ∨ s.ds.state = some .standby ∨ s.ds.state = some .intent ∨ s.ds.state = some .failed) :
    dsBiasStep s = setBias 0 s := by
  obtain h | h | h | h | h | h | h | h := h <;> simp only [dsBiasStep, h]

/-- Settles O35: the step by the state of the set, which the judgement and the readers after it leave. -/
theorem biasStepsByState : Obligations.BiasStepsByState := by
  intro t s d hdue hd step nominal
  have hds : (s.computed t).ds = s.ds := rfl
  have hop : (s.computed t).operating = s.operating := rfl
  have hf : (s.computed t).be.figures.f = s.mu.latest.bind (·.f) := s.mu.handedOver_spec.2.1
  have hsync : (s.computed t).mu.latest.bind (·.sync) = s.mu.latest.bind (·.sync) := by
    rw [show (s.computed t).mu = s.mu.handedOver from rfl, s.mu.handedOver_spec.1]
  have hnominal : ((s.computed t).fNom : Int) = nominal := rfl
  have hpar : (s.computed t).par = s.par := rfl
  have hexec := exec_balance hdue
  generalize s.computed t = w at *
  have hwd : w.ds.state = some d := by rw [hds]; exact hd
  refine ⟨_, hexec, fun hheld => ?_, fun hrun hst => ?_, fun hrun hst => ?_, fun hrun hst => ?_, fun hrun hst => ?_, fun hrun hst => ?_⟩
  · have hskip : dsFigures w = w := if_neg (by rw [hop, hheld]; nofun)
    have hscop : (scFigures w).operating = false := by
      rw [State.operating, kept_cr (scFigures_kept (s := w)), ← State.operating, hop, hheld]
    rw [hskip, flFigures_ds_of_held hscop, scFigures_ds, hds]
    exact ⟨rfl, hd⟩
  all_goals rw [dsFigures_of_operating (hop.trans hrun)]
  · have hstate : w.ds.state = some .online ∨ w.ds.state = some .stopIntent := by
      rw [hwd]
      exact hst.imp (congrArg some) (congrArg some)
    obtain ⟨hbias, hspool⟩ := dsJudge_online_bias (s := dsBiasStep w) (by rw [dsBiasStep_state]; exact hstate.imp_right .inl)
    rw [laterReaders_ds hspool, hbias, dsBiasStep_online hstate, dsBiasOnline, hf, hnominal, hds, hpar]
    cases s.mu.latest.bind (·.f) with
    | none => exact congrArg Ds.bias hds
    | some f => rfl
  · subst hst
    rw [dsJudge_of_other ((dsBiasStep_state w).trans hwd) ⟨nofun, nofun, nofun, nofun, nofun⟩,
      laterReaders_ds (by rw [dsBiasStep_state, hwd]; nofun)]
    have hstep : dsBiasStep w = dsBiasSync w := by simp only [dsBiasStep, hwd]
    rw [hstep, dsBiasSync, hsync, hds, hpar]
    cases s.mu.latest.bind (·.sync) with
    | none => exact congrArg Ds.bias hds
    | some x => rfl
  · subst hst
    obtain ⟨hbias, hspool⟩ := dsJudge_online_bias (s := dsBiasStep w) (by rw [dsBiasStep_state]; exact .inr (.inr hwd))
    have hstep : dsBiasStep w = setBias (max (-1000) (w.ds.bias - (w.par.diesel.unloadRate * w.periodMs / 1000 : Nat))) w := by
      simp only [dsBiasStep, hwd]
    rw [laterReaders_ds hspool, hbias, hstep, setBias_bias, hds, State.periodMs, hpar]
  · have hstep : dsBiasStep w = w := by
      obtain rfl | rfl | rfl := hst <;> simp only [dsBiasStep, hwd]
    rw [hstep, dsJudge_of_other hwd (by obtain rfl | rfl | rfl := hst <;> exact ⟨nofun, nofun, nofun, nofun, nofun⟩),
      laterReaders_ds (by rw [hwd]; obtain rfl | rfl | rfl := hst <;> nofun), hds]
  · have hstep : dsBiasStep w = setBias 0 w := dsBiasStep_zero (by
      rw [hwd]
      obtain rfl | rfl | rfl | rfl | rfl | rfl | rfl | rfl := hst <;> simp)
    have hjudged : (dsJudge (dsBiasStep w)).ds.bias = 0 := dsJudge_offline_bias (by rw [hstep]; rfl) (by
      rw [dsBiasStep_state, hwd]
      obtain rfl | rfl | rfl | rfl | rfl | rfl | rfl | rfl := hst <;> exact ⟨nofun, nofun, nofun⟩)
    exact flFigures_keeps bias_keeps bias_announce ((congrArg Ds.bias (scFigures_ds _)).trans hjudged)

end

section
variable {s : State} {t : Tick}

/-! ### The judgement of new figures (R101 to R103, R113 to R115) -/

/-- The bias step writes the bias and the PWM channel alone. -/
theorem dsBiasStep_eq (s : State) : ∃ b p, dsBiasStep s = { s with ds := { s.ds with bias := b }, tac := { s.tac with pwm := p } } := by
  have hset (b : Int) : ∃ b' p, setBias b s = { s with ds := { s.ds with bias := b' }, tac := { s.tac with pwm := p } } := ⟨b, _, rfl⟩
  unfold dsBiasStep dsBiasOnline dsBiasSync
  repeat' split
  all_goals first | exact hset _ | exact ⟨s.ds.bias, s.tac.pwm, rfl⟩

theorem startPosition_eq (s : State) : s.startPosition = (s.view.filter fun e =>
    e.role == .genset && e.summary == .idle && !e.unavailable &&
      (decide (e.startRank < s.par.diesel.startRank) ||
        (e.startRank == s.par.diesel.startRank && decide (e.address < s.address)))).length := List.countP_eq_length_filter

theorem betterStartInView_iff : s.betterStartInView = true ↔ ∃ e ∈ s.view, ∃ r, e.intent = some r ∧ r.kind = .start ∧
    (r.rank < s.par.diesel.startRank ∨ r.rank = s.par.diesel.startRank ∧ e.address < s.address) := by
  unfold State.betterStartInView
  rw [List.any_eq_true]
  refine exists_congr fun e => and_congr_right fun _ => ?_
  cases e.intent with
  | none => simp
  | some r => simp [ranksBefore_iff]

theorem worseStopInView_iff : s.worseStopInView = true ↔ ∃ e ∈ s.view, ∃ r, e.intent = some r ∧ r.kind = .stop ∧
    (s.par.diesel.startRank < r.rank ∨ r.rank = s.par.diesel.startRank ∧ s.address < e.address) := by
  unfold State.worseStopInView
  rw [List.any_eq_true]
  refine exists_congr fun e => and_congr_right fun _ => ?_
  cases e.intent with
  | none => simp
  | some r => simp [ranksBefore_iff, eq_comm (a := s.par.diesel.startRank)]

theorem worstOnline_iff : s.worstOnline = true ↔ ∀ e ∈ s.view, e.role = .genset → e.summary = .online →
    (e.startRank < s.par.diesel.startRank ∨ e.startRank = s.par.diesel.startRank ∧ e.address < s.address) := by
  unfold State.worstOnline
  rw [List.all_eq_true]
  refine forall_congr' fun e => forall_congr' fun _ => ?_
  by_cases hrole : e.role = .genset <;> by_cases hsummary : e.summary = .online <;> simp [hrole, hsummary, ranksBefore_iff]

/-- A start intent withdrawn where the island is not DARK: the diesel record and the bias alone (R103). -/
theorem dsWithdrawStart_eq (hstate : s.ds.state = some .intent) (hdark : s.bsc.island ≠ some .dark) : dsWithdrawStart s = { s with
    tac := { s.tac with pwm := clamp (-1000) 1000 0 }
    ds := { s.ds.enter .standby with
      bias := 0, intent := none
      timers := { s.ds.timers with window := .stopped, holdoff := .running s.tb (s.par.diesel.holdoff * 10000000) } } } := by
  have hstandby : dsEnterStandby ((dropIntent s).cancel .window) = setBias 0 (dsEnter .standby ((dropIntent s).cancel .window)) := by
    unfold dsEnterStandby
    rw [dsEnter_of_not_online (s := (dropIntent s).cancel .window) _ (fun h => by rw [show s.ds.state = some .online from h] at hstate; cases hstate)]
    exact if_neg (by
      rw [Bool.and_eq_true, decide_eq_true_iff]
      exact fun h => hdark h.1)
  rw [dsWithdrawStart, hstandby,
    dsEnter_of_not_online (s := (dropIntent s).cancel .window) _ (fun h => by rw [show s.ds.state = some .online from h] at hstate; cases hstate)]
  rfl

theorem dsEnterIntent_eq (hstate : s.ds.state ≠ some .online) : ∃ x : Ilc,
    (s.ilc.transmitter.enabled = true →
      x.slots.intent.frame = some (intentPayload .start s.par.diesel.startRank s.par.station.rating)) ∧
    dsEnterIntent s = { s with ilc := x, ds := { s.ds.enter .intent with
      crankCount := 0, intent := some (.start, s.tb)
      timers := { s.ds.timers with window := .running s.tb (ms s.par.diesel.intentWindow) } } } := by
  unfold dsEnterIntent openIntent
  rw [dsEnter_of_not_online _ hstate]
  dsimp only
  obtain ⟨-, hplace⟩ | ⟨hoff, hplace⟩ := State.placeFrame_cases { s with ds := { s.ds.enter .intent with
      crankCount := 0, intent := some (.start, s.tb) } } .intent (intentPayload .start s.par.diesel.startRank s.par.station.rating)
  · refine ⟨_, fun _ => ?_, congrArg (fun x : State => x.start .window (ms s.par.diesel.intentWindow)) hplace⟩
    rfl
  · refine ⟨s.ilc, fun h => ?_, congrArg (fun x : State => x.start .window (ms s.par.diesel.intentWindow)) hplace⟩
    rw [show s.ilc.transmitter.enabled = false from hoff] at h
    cases h

theorem Timer.isRunning_iff (x : Timer) : x.isRunning = true ↔ x ≠ .stopped := by cases x <;> simp [Timer.isRunning]

/-- The trip into OPENING, taken on an idle channel with the breaker not qualified as open (R115). -/
theorem dsEnterOpening_of_idle (hstate : s.ds.state = some .unload) (htrip : s.pulse .srcTrip = .idle) (hlevel : s.level .srcCb ≠ .released) :
    let u := dsEnterOpening s
    u.ds = { s.ds.enter .opening with timers := { s.ds.timers with unload := .stopped } } ∧ (u.pulse .srcTrip).isActive = true ∧
      u.pulse .srcClose = .idle ∧ u.window .source = .watching .ds false (.running s.tb (s.par.diesel.confirmTime * 10000)) := by
  intro u
  obtain ⟨v, hv, hsame, hclose, htripped, hwindow⟩ := requestTrip_taken (s := s.cancel .unload) (b := .source) rfl
    (by rw [show (s.cancel .unload).pulse (tripChannel .source) = .idle from htrip]; rfl) .ds s.par.diesel.pulse
  have hlevel' : (s.cancel .unload).level (positionInput .source) ≠ .released := hlevel
  rw [if_neg hlevel'] at hwindow
  rw [decide_eq_false hlevel'] at hv
  have hds : v.ds = (s.cancel .unload).ds := by
    obtain ⟨-, -, tac, h, -⟩ := hsame
    rw [h]
  have hvstate : v.ds.state ≠ some .online := by
    rw [hds]
    exact fun h => absurd (hstate.symm.trans h) nofun
  have hu : u = dsEnter .opening v := by
    have htaken : dsTrip true (s.cancel .unload) = _ := hv
    change dsEnterOpening s = _
    unfold dsEnterOpening
    rw [htaken]
    rfl
  rw [hu, dsEnter_of_not_online _ hvstate]
  refine ⟨?_, ?_, hclose, hwindow⟩
  · rw [hds]
    rfl
  · exact (congrArg Pulse.isActive htripped).trans rfl

end

section
variable {s : State} {t : Tick}

/-- The state in which the diesel sequencer judges the new figures: the bias step is taken (R112). -/
def State.judgedFrom (s : State) (t : Tick) (b p : Int) : State :=
  let w := s.computed t
  { w with ds := { w.ds with bias := b }, tac := { w.tac with pwm := p } }

/-- New figures in operation are judged, and the readers after the diesel sequencer write what is their own unless the set is in SPOOL. -/
theorem exec_balance_judged (hdue : s.due .balance t) (hop : s.operating = true) : ∃ u b p, exec .balancePeriodExpiry s = .next u ∧
    u.be.figures = (s.judgedFrom t b p).be.figures ∧
    ((dsJudge (s.judgedFrom t b p)).ds.state ≠ some .spool → u.offReaders = (dsJudge (s.judgedFrom t b p)).offReaders) := by
  obtain ⟨b, p, hstep⟩ := dsBiasStep_eq (s.computed t)
  have hfigures : dsFigures (s.computed t) = dsJudge (s.judgedFrom t b p) := by
    rw [dsFigures_of_operating (show (s.computed t).operating = true from hop), hstep]
    rfl
  refine ⟨_, b, p, exec_balance hdue, congrArg Be.figures (kept_be (readers_kept (s.computed t))), fun hspool => ?_⟩
  rw [hfigures]
  exact laterReaders_offReaders hspool

/-- The judgement in STANDBY by the need, the delay that has passed since, and the start (R101, R102). -/
theorem dsJudge_standby (hstate : s.ds.state = some .standby) (hup : s.islandUp = true) (hholdoff : s.ds.timers.holdoff = .stopped) :
    (s.be.figures.startNeed = false → dsJudge s = { s with ds := { s.ds with needSince := none } }) ∧
    (s.be.figures.startNeed = true → elapsed s.tb (s.ds.needSince.getD s.tb) < s.startDelayTicks →
      dsJudge s = { s with ds := { s.ds with needSince := some (s.ds.needSince.getD s.tb) } }) ∧
    (s.be.figures.startNeed = true → s.startDelayTicks ≤ elapsed s.tb (s.ds.needSince.getD s.tb) → dsJudge s = dsEnterIntent s) := by
  have hjudge : dsJudge s = dsJudgeStart s := by simp only [dsJudge, hstate]
  rw [hjudge]
  unfold dsJudgeStart
  rw [hup, hholdoff]
  refine ⟨fun hneed => ?_, fun hneed hdelay => ?_, fun hneed hdelay => ?_⟩ <;> rw [hneed]
  · exact if_neg nofun
  · exact (if_pos rfl).trans (if_neg (Nat.not_le_of_lt hdelay))
  · exact (if_pos rfl).trans (if_pos hdelay)

/-- The judgement in INTENT (R103). -/
theorem dsJudge_intent (hstate : s.ds.state = some .intent) :
    (s.betterStartInView = true ∨ s.be.figures.startNeedOther = false → dsJudge s = dsWithdrawStart s) ∧
    (s.betterStartInView ≠ true → s.be.figures.startNeedOther = true → dsJudge s = s) := by
  have hjudge : dsJudge s = if (s.betterStartInView || !s.be.figures.startNeedOther) = true then dsWithdrawStart s else s := by
    simp only [dsJudge, hstate]
  rw [hjudge]
  exact ⟨fun h => if_pos (by simpa using h), fun h hneed => if_neg (by simp [h, hneed])⟩

/-- The judgement in ONLINE (R113). -/
theorem dsJudge_online (hstate : s.ds.state = some .online) :
    (s.cr.mode = .coordinated → s.ds.forcedStop = false → s.be.figures.stopPossible = true → s.worstOnline = true →
      dsJudge s = { s with ds := { s.ds with timers := { s.ds.timers with
        stop := if s.ds.timers.stop = .stopped then .running s.tb (s.par.diesel.stopDelay * 10000000) else s.ds.timers.stop } } }) ∧
    (s.cr.mode = .coordinated → s.ds.forcedStop = false → s.be.figures.stopPossible = false ∨ s.worstOnline ≠ true →
      dsJudge s = s.cancel .stop) ∧
    (s.cr.mode ≠ .coordinated ∨ s.ds.forcedStop = true → dsJudge s = s) := by
  have hjudge : dsJudge s = dsJudgeStop s := by simp only [dsJudge, hstate]
  rw [hjudge]
  unfold dsJudgeStop
  refine ⟨fun hmode hforced hstop hworst => ?_, fun hmode hforced hstop => ?_, fun h => ?_⟩
  · rw [if_pos (by simp [hmode, hforced]), if_pos (by simp [hstop, hworst])]
    split
    next hrunning =>
      rw [if_neg (s.ds.timers.stop.isRunning_iff.1 hrunning)]
    next hstopped =>
      rw [if_pos (not_not.1 fun h => hstopped (s.ds.timers.stop.isRunning_iff.2 h))]
      rfl
  · rw [if_pos (by simp [hmode, hforced]), if_neg]
    rw [Bool.and_eq_true, not_and_or]
    exact hstop.imp (fun h => by rw [h]; nofun) id
  · refine if_neg ?_
    rw [Bool.and_eq_true, not_and_or]
    exact h.imp (fun h => by simpa using h) (fun h => by simp [h])

/-- The judgement in STOP-INTENT (R114). -/
theorem dsJudge_stopIntent (hstate : s.ds.state = some .stopIntent) :
    (s.ds.forcedStop = false → s.worseStopInView = true ∨ s.be.figures.stopPossible = false → dsJudge s = dsBackOnline s) ∧
    (s.ds.forcedStop = true ∨ s.worseStopInView ≠ true ∧ s.be.figures.stopPossible = true → dsJudge s = s) := by
  have hjudge : dsJudge s = dsJudgeStopIntent s := by simp only [dsJudge, hstate]
  rw [hjudge]
  unfold dsJudgeStopIntent
  refine ⟨fun hforced h => if_pos ?_, fun h => if_neg ?_⟩
  · obtain h | h := h <;> simp [hforced, h]
  · obtain h | ⟨hworse, hstop⟩ := h
    · simp [h]
    · simp [hworse, hstop]

/-- The judgement in UNLOAD (R115). -/
theorem dsJudge_unload (hstate : s.ds.state = some .unload) :
    (s.ds.forcedStop = false → s.be.figures.startNeed = true → dsJudge s = dsAbandonUnload s) ∧
    (s.ds.forcedStop = true ∨ s.be.figures.startNeed = false →
      dsJudge s = if s.be.figures.ownOutput ≤ s.par.diesel.unloadThreshold then dsEnterOpening s else s) := by
  have hjudge : dsJudge s = dsJudgeUnload s := by simp only [dsJudge, hstate]
  rw [hjudge]
  unfold dsJudgeUnload
  refine ⟨fun hforced hneed => if_pos (by simp [hforced, hneed]), fun h => if_neg ?_⟩
  obtain h | h := h <;> simp [h]

end

section
variable {s : State} {t : Tick}

/-- Online, and in INTENT on an island that is not DARK, a judgement writes the diesel record and the bias alone. -/
theorem dsJudge_writes (h : s.ds.state = some .online ∨ s.ds.state = some .stopIntent ∨
    s.ds.state = some .intent ∧ s.bsc.island ≠ some .dark) :
    ∃ d p, d.state ≠ some .spool ∧ dsJudge s = { s with ds := d, tac := { s.tac with pwm := p } } := by
  obtain hst | hst | ⟨hst, hdark⟩ := h
  · have hspool : s.ds.state ≠ some .spool := by rw [hst]; nofun
    have hjudge : dsJudge s = dsJudgeStop s := by simp only [dsJudge, hst]
    rw [hjudge]
    unfold dsJudgeStop
    split
    · split
      · split
        · exact ⟨s.ds, s.tac.pwm, hspool, rfl⟩
        · exact ⟨(s.start .stop (sec s.par.diesel.stopDelay)).ds, s.tac.pwm, hspool, rfl⟩
      · exact ⟨(s.cancel .stop).ds, s.tac.pwm, hspool, rfl⟩
    · exact ⟨s.ds, s.tac.pwm, hspool, rfl⟩
  · have hjudge : dsJudge s = dsJudgeStopIntent s := by simp only [dsJudge, hst]
    rw [hjudge]
    unfold dsJudgeStopIntent
    split
    · rw [dsBackOnline_eq (by rw [hst]; nofun)]
      exact ⟨_, s.tac.pwm, by nofun, rfl⟩
    · exact ⟨s.ds, s.tac.pwm, by rw [hst]; nofun, rfl⟩
  · obtain ⟨hwithdraws, hstays⟩ := dsJudge_intent hst
    by_cases hgo : s.betterStartInView = true ∨ s.be.figures.startNeedOther = false
    · rw [hwithdraws hgo, dsWithdrawStart_eq hst hdark]
      exact ⟨_, _, by nofun, rfl⟩
    · obtain ⟨hbetter, hneed⟩ := not_or.1 hgo
      rw [hstays hbetter (Bool.not_eq_false _ |>.mp hneed)]
      exact ⟨s.ds, s.tac.pwm, by rw [hst]; nofun, rfl⟩

/-- Settles O36, the start judgement: the delay and the position are those of the station's own view. -/
theorem startJudged_standby (hdue : s.due .balance t) (hop : s.operating = true) (hup : s.islandUp = true)
    (hstate : s.ds.state = some .standby) (hholdoff : s.ds.timers.holdoff = .stopped) :
    ∃ u, exec .balancePeriodExpiry s = .next u ∧
      (u.be.figures.startNeed = false → u.ds.state = some .standby ∧ u.ds.needSince = none) ∧
      (u.be.figures.startNeed = true → (t - s.ds.needSince.getD t).toNat < s.startDelayTicks →
        u.ds.state = some .standby ∧ u.ds.needSince = some (s.ds.needSince.getD t)) ∧
      (u.be.figures.startNeed = true → s.startDelayTicks ≤ (t - s.ds.needSince.getD t).toNat →
        u.ds.state = some .intent ∧ u.ds.needSince = none ∧ u.ds.intent = some (.start, t) ∧ u.ds.crankCount = 0 ∧
        u.ds.timers.window = .running t (s.par.diesel.intentWindow * 10000) ∧
        (s.ilc.transmitter.enabled = true →
          u.ilc.slots.intent.frame = some (intentPayload .start s.par.diesel.startRank s.par.station.rating))) := by
  obtain ⟨u, b, p, hu, hfigures, hlater⟩ := exec_balance_judged hdue hop
  obtain ⟨hnone, hwait, hstart⟩ := dsJudge_standby (s := s.judgedFrom t b p) hstate hup hholdoff
  refine ⟨u, hu, fun hneed => ?_, fun hneed hdelay => ?_, fun hneed hdelay => ?_⟩ <;> rw [hfigures] at hneed
  · rw [hnone hneed] at hlater
    have hside := hlater (by rw [show (State.judgedFrom s t b p).ds.state = some .standby from hstate]; nofun)
    rw [offReaders_ds hside]
    exact ⟨hstate, rfl⟩
  · rw [hwait hneed hdelay] at hlater
    have hside := hlater (by rw [show (State.judgedFrom s t b p).ds.state = some .standby from hstate]; nofun)
    rw [offReaders_ds hside]
    exact ⟨hstate, rfl⟩
  · obtain ⟨x, hx, hintent⟩ := dsEnterIntent_eq (s := s.judgedFrom t b p)
      (by rw [show (State.judgedFrom s t b p).ds.state = some .standby from hstate]; nofun)
    rw [hstart hneed hdelay, hintent] at hlater
    have hside := hlater nofun
    have hslot := offReaders_intentSlot hside
    rw [offReaders_ds hside, hslot]
    exact ⟨rfl, rfl, rfl, rfl, rfl, hx⟩

/-- Settles O36: the judgement of each state, which the readers of the figures after it leave. -/
theorem startIsJudged : Obligations.StartIsJudged := by
  refine ⟨fun t s hdue hop hup hstate hholdoff => ?_, fun t s hdue hop => ?_⟩
  · intro better position delay since
    have hdelay : delay = s.startDelayTicks := by
      rw [State.startDelayTicks, startPosition_eq]
      rfl
    rw [hdelay]
    exact startJudged_standby hdue hop hup hstate hholdoff
  · intro d q before behind betterStart worseStop worst
    obtain ⟨u, b, p, hu, hfigures, hlater⟩ := exec_balance_judged hdue hop
    refine ⟨u, hu, ?_⟩
    rw [hfigures]
    intro g stays
    have hbetter : (s.judgedFrom t b p).betterStartInView = true ↔ betterStart := betterStartInView_iff
    have hworse : (s.judgedFrom t b p).worseStopInView = true ↔ worseStop := worseStopInView_iff
    have hworst : (s.judgedFrom t b p).worstOnline = true ↔ worst := worstOnline_iff
    have hstays {st : DieselState} (hst : d.state = some st) (hne : st ≠ .spool) (h : dsJudge (s.judgedFrom t b p) = s.judgedFrom t b p) : stays := by
      have hside := hlater (by rw [h]; exact fun hspool => hne (Option.some.inj (hst.symm.trans hspool)))
      rw [h] at hside
      change u.ds.state = _ ∧ u.ds.intent = _ ∧ u.ds.timers = _
      rw [offReaders_ds hside]
      exact ⟨rfl, rfl, rfl⟩
    have hside {x : State} (h : dsJudge (s.judgedFrom t b p) = x) (hx : x.ds.state ≠ some .spool) : u.offReaders = x.offReaders := by
      rw [← h] at hx ⊢
      exact hlater hx
    refine ⟨fun hst hdark h => ?_, fun hst hnot hneed => ?_, fun hst hmode hforced => ⟨?_, fun hstop h => ?_, fun h => ?_⟩, fun hst h => ?_,
      fun hst hforced h => ?_, fun hst h => ?_, fun hst hforced hneed => ?_, fun hst h hle htrip hlevel => ?_, fun hst h hlt => ?_, fun hst => ?_⟩
    · have hjudge := (dsJudge_intent (s := s.judgedFrom t b p) hst).1 (h.imp_left hbetter.2)
      rw [dsWithdrawStart_eq (s := s.judgedFrom t b p) hst hdark] at hjudge
      rw [offReaders_ds (hside hjudge nofun)]
      exact ⟨rfl, rfl, rfl⟩
    · exact hstays hst nofun ((dsJudge_intent (s := s.judgedFrom t b p) hst).2 (fun h => hnot (hbetter.1 h)) hneed)
    · obtain ⟨hgoes, hstops, -⟩ := dsJudge_online (s := s.judgedFrom t b p) hst
      by_cases h : g.stopPossible = true ∧ (s.judgedFrom t b p).worstOnline = true
      · rw [offReaders_ds (hside (hgoes hmode hforced h.1 h.2) (by exact fun hspool => absurd (hst.symm.trans hspool) nofun))]
        exact hst
      · have hnot : g.stopPossible = false ∨ (s.judgedFrom t b p).worstOnline ≠ true :=
          (not_and_or.1 h).imp_left Bool.eq_false_iff.2
        rw [offReaders_ds (hside (hstops hmode hforced hnot) (by exact fun hspool => absurd (hst.symm.trans hspool) nofun))]
        exact hst
    · have hjudge := (dsJudge_online (s := s.judgedFrom t b p) hst).1 hmode hforced hstop (hworst.2 h)
      rw [offReaders_ds (hside hjudge (by exact fun hspool => absurd (hst.symm.trans hspool) nofun))]
      rfl
    · have hjudge := (dsJudge_online (s := s.judgedFrom t b p) hst).2.1 hmode hforced (h.imp_right fun h h' => h (hworst.1 h'))
      rw [offReaders_ds (hside hjudge (by exact fun hspool => absurd (hst.symm.trans hspool) nofun))]
      rfl
    · refine hstays hst nofun ((dsJudge_online (s := s.judgedFrom t b p) hst).2.2 (h.imp_left fun hauto hmode => ?_))
      rw [show s.cr.mode = .coordinated from hmode] at hauto
      cases hauto
    · have hjudge := (dsJudge_stopIntent (s := s.judgedFrom t b p) hst).1 hforced (h.imp_left hworse.2)
      rw [offReaders_ds (hside hjudge (by rw [dsBackOnline_ds]; nofun)), dsBackOnline_ds]
      exact ⟨rfl, rfl, rfl⟩
    · exact hstays hst nofun ((dsJudge_stopIntent (s := s.judgedFrom t b p) hst).2 (h.imp_right fun h => ⟨fun h' => h.1 (hworse.1 h'), h.2⟩))
    · have hjudge := (dsJudge_unload (s := s.judgedFrom t b p) hst).1 hforced hneed
      rw [offReaders_ds (hside hjudge (by rw [dsAbandonUnload_ds]; nofun)), dsAbandonUnload_ds]
      exact ⟨rfl, rfl⟩
    · have hjudge := ((dsJudge_unload (s := s.judgedFrom t b p) hst).2 h).trans (if_pos hle)
      obtain ⟨hds, htripped, hclosed, hwindow⟩ := dsEnterOpening_of_idle (s := s.judgedFrom t b p) hst htrip hlevel
      have hreaders := hside hjudge (by rw [hds]; nofun)
      obtain ⟨hpulse, hsource⟩ := offReaders_source hreaders
      rw [offReaders_ds hreaders, hds, hpulse _ (.inr (.inl rfl)), hpulse _ (.inl rfl), hsource]
      exact ⟨rfl, rfl, htripped, hclosed, hwindow⟩
    · exact hstays hst nofun (((dsJudge_unload (s := s.judgedFrom t b p) hst).2 h).trans (if_neg (Nat.not_le_of_lt hlt)))
    · obtain ⟨d', p', hspool, hjudge⟩ := dsJudge_writes (s := s.judgedFrom t b p) hst
      have hreaders := hside hjudge hspool
      obtain ⟨hpulse, hsource⟩ := offReaders_source hreaders
      obtain ⟨hrun, hlockout⟩ := offReaders_ret hreaders
      exact ⟨fun k hk => (hpulse k hk).trans (by obtain rfl | rfl | rfl := hk <;> rfl), hsource, hrun, hlockout⟩

end

end Sys2Proof.Machine
end

section
/-! SUPPORT. The timers and the lines of a start and of a stop. -/

namespace Sys2Proof.Machine

section
variable {s u v : State} {t : Tick} {id : TimerId}

/-! ### The timers and the engine of a start -/

theorem offSet_pulse (h : u.offSet = v.offSet) {c : PulseChannel} (hc : c ≠ .crank) : u.pulse c = v.pulse c :=
  offIsland_pulse (State.offIsland_of_offSet h) hc

theorem dsEnterFailed_eq (h : s.ds.state ≠ some .online) : dsEnterFailed s = { s with
    ds := { s.ds.enter .failed with
      bias := 0, intent := none, forcedStop := false, inhibitSeen := s.asserted .inhibit
      timers := { DieselTimers.stopped with loss := s.ds.timers.loss } }
    tac := { s.tac with crank := .idle, pwm := 0, alarm := { s.tac.alarm with dieselFailed := true } }
    ret := { s.ret with run := false, lockout := true } } := by
  unfold dsEnterFailed
  rw [dsEnter_of_not_online _ h]
  rfl

/-- The set in SPOOL with its timer, the bias written 0 (R107, R112). -/
theorem dsEnterSpool_eq (h : s.ds.state ≠ some .online) : dsEnterSpool s = { s with
    ds := { s.ds.enter .spool with
      bias := 0, timers := { s.ds.timers with spool := .running s.tb (s.par.diesel.spoolTime * 10000000) } }
    tac := { s.tac with pwm := 0 } } := by
  unfold dsEnterSpool
  rw [dsEnter_of_not_online _ h]
  rfl

/-- An engine that runs already takes the set past CRANK (R105). -/
theorem dsEnterCrank_of_running (h : s.ds.state ≠ some .online) (hrun : s.level .runFb = .asserted) : dsEnterCrank s = { s with
    ds := { (s.ds.enter .crank).enter .spool with
      bias := 0, timers := { s.ds.timers with spool := .running s.tb (s.par.diesel.spoolTime * 10000000) } }
    tac := { s.tac with pwm := 0 }
    ret := { s.ret with run := true } } := by
  unfold dsEnterCrank
  rw [dsEnter_of_not_online _ h]
  refine (if_pos (beq_iff_eq.2 hrun)).trans ?_
  rw [dsEnterSpool_eq (by exact nofun)]
  rfl

/-- An engine at rest is cranked (R105). -/
theorem dsEnterCrank_of_resting (h : s.ds.state ≠ some .online) (hrest : s.level .runFb ≠ .asserted) :
    ∃ c : Pulse, c.isActive = true ∧
      (s.pulse .crank = .idle → c = .active .ds (.running s.tb (widthTicks .crank (s.par.diesel.crankTime * 1000)))) ∧
      dsEnterCrank s = { s with
        ds := { s.ds.enter .crank with bias := 0, crankCount := s.ds.crankCount + 1 }
        tac := { s.tac with pwm := 0, crank := c }
        ret := { s.ret with run := true } } := by
  have hnot : ¬ (s.level .runFb == .asserted) = true := fun h => hrest (beq_iff_eq.1 h)
  unfold dsEnterCrank
  rw [dsEnter_of_not_online _ h]
  dsimp only
  rw [if_neg (by exact hnot)]
  generalize hv : (State.mk _ _ _ _ _ _ _ _ _ _ _ _ _ _ _ _ _) = v
  have hcrank : v.pulse .crank = s.pulse .crank := by rw [← hv]; rfl
  obtain ⟨hactive, hu⟩ | ⟨hidle, hu⟩ := v.requestCrank_cases (s.par.diesel.crankTime * 1000)
  · refine ⟨s.pulse .crank, hcrank ▸ hactive, fun h => ?_, hu.trans ?_⟩
    · rw [hcrank, h] at hactive
      cases hactive
    · rw [← hv]
      rfl
  · refine ⟨_, rfl, fun _ => rfl, hu.trans ?_⟩
    rw [← hv]
    rfl

theorem crankWidth (n : Nat) : widthTicks .crank (n * 1000) =
    if n < 1 then 10000000 else if 15 < n then 150000000 else n * 10000000 := by
  have hclamp : (clamp 1000 15000 (n * 1000 : Nat)).toNat = if n < 1 then 1000 else if 15 < n then 15000 else n * 1000 := by
    unfold clamp
    grind
  unfold widthTicks
  dsimp only
  rw [hclamp]
  unfold ms
  grind

/-- The crank window has passed: the set cranks, or goes past CRANK where its engine runs (R104, R105). -/
theorem windowExpired_intent (hdue : s.due .window t) (hstate : s.ds.state = some .intent) :
    ∃ u, exec .windowTimerExpiry s = .next u ∧ u.ds.intent = none ∧ u.ret.run = true ∧
      u.ds.bias = 0 ∧ u.tac.pwm = 0 ∧ u.ds.timers.window = .stopped ∧
      (s.level .runFb ≠ .asserted → u.ds.state = some .crank ∧ u.ds.crankCount = s.ds.crankCount + 1 ∧
        (s.pulse .crank = .idle → u.pulse .crank = .active .ds (.running t (widthTicks .crank (s.par.diesel.crankTime * 1000))))) ∧
      (s.level .runFb = .asserted → u.ds.state = some .spool ∧ u.ds.crankCount = s.ds.crankCount ∧
        u.pulse .crank = s.pulse .crank ∧ u.ds.timers.spool = .running t (s.par.diesel.spoolTime * 10000000)) ∧
      (∀ c, c ≠ .crank → u.pulse c = s.pulse c) ∧ u.fl = s.fl ∧ u.sc = s.sc ∧ u.bsc = s.bsc ∧
      u.kept = { s with tb := t }.kept := by
  have hexec : exec .windowTimerExpiry s = .next (dsEnterCrank (dropIntent ((s.stamp t).cancel .window))) := by
    refine (onExpiry_due (id := .window) _ hdue.1 hdue.2).trans ?_
    simp only [dsWindowExpired, show ((s.stamp t).cancel .window).ds.state = some .intent from hstate]
  have hleft : (dsEnterCrank (dropIntent ((s.stamp t).cancel .window))).offSet = (s.stamp t).offSet := dsEnterCrank_offSet _
  have hnot : (dropIntent ((s.stamp t).cancel .window)).ds.state ≠ some .online := by exact fun h => nomatch hstate.symm.trans h
  refine ⟨_, hexec, ?_⟩
  have hpulse (c : PulseChannel) (hc : c ≠ .crank) := offSet_pulse hleft hc
  have hfl := offIsland_fl (State.offIsland_of_offSet hleft)
  have hsc := offIsland_sc (State.offIsland_of_offSet hleft)
  have hkept := offIsland_kept (State.offIsland_of_offSet hleft)
  by_cases hrun : s.level .runFb = .asserted
  · rw [dsEnterCrank_of_running hnot hrun] at hpulse hfl hsc hkept ⊢
    exact ⟨rfl, rfl, rfl, rfl, rfl, fun h => absurd hrun h, fun _ => ⟨rfl, rfl, rfl, rfl⟩, hpulse, hfl, hsc, rfl, hkept⟩
  · obtain ⟨c, -, hidle, hcrank⟩ := dsEnterCrank_of_resting hnot hrun
    rw [hcrank] at hpulse hfl hsc hkept ⊢
    exact ⟨rfl, rfl, rfl, rfl, rfl, fun _ => ⟨rfl, rfl, hidle⟩, fun h => absurd h hrun, hpulse, hfl, hsc, rfl, hkept⟩

theorem windowExpired_stopIntent (hdue : s.due .window t) (hstate : s.ds.state = some .stopIntent) :
    exec .windowTimerExpiry s = .next { s with
      tb := t
      ds := { s.ds with
        state := some .unload, intent := none, needSince := none, deadBusClose := false, closingInhibit := false
        timers := { s.ds.timers with
          window := .stopped, unload := .running t (s.par.diesel.unloadTimeout * 10000000) } } } := by
  refine (onExpiry_due (id := .window) _ hdue.1 hdue.2).trans ?_
  simp only [dsWindowExpired, show ((s.stamp t).cancel .window).ds.state = some .stopIntent from hstate]
  rw [dsEnter_of_not_online _ (by exact fun h => nomatch hstate.symm.trans h)]
  have henter : Ds.enter { s.ds with intent := none } .unload = { s.ds with
      state := some .unload, intent := none, needSince := none, deadBusClose := false, closingInhibit := false } := by
    simp [Ds.enter]
  exact congrArg (fun d : Ds => (.next { s with
    tb := t, ds := { d with timers := { s.ds.timers with
      window := .stopped, unload := .running t (s.par.diesel.unloadTimeout * 10000000) } } } : CommandResult)) henter

/-- An expiry that fails the set. -/
theorem expiry_fails {c : Instr} (hexec : exec c s = .next (dsEnterFailed v)) (hv : v.offSet = (s.stamp t).offSet) :
    ∃ u, exec c s = .next u ∧ (u.ds.state = some .failed ∧ u.ret.run = false ∧ u.ret.lockout = true ∧ u.ds.bias = 0) ∧
      u.kept = { s with tb := t }.kept ∧ u.fl = s.fl := by
  obtain ⟨hfailed, hlocked, hrun, hbias, -⟩ := dsEnterFailed_isFailed v
  have hleft := State.offIsland_of_offSet ((dsEnterFailed_offSet v).trans hv)
  exact ⟨_, hexec, ⟨hfailed, hrun, hlocked, hbias⟩, offIsland_kept hleft, (offIsland_fl hleft :)⟩

theorem restExpired_cranks (hdue : s.due .rest t) (hstate : s.ds.state = some .rest) (hleft : s.ds.crankCount < s.par.diesel.attempts)
    (hrest : s.level .runFb ≠ .asserted) : ∃ u, exec .restTimerExpiry s = .next u ∧
      (u.ds.state = some .crank ∧ u.ds.crankCount = s.ds.crankCount + 1 ∧ u.ret.run = true ∧ (u.pulse .crank).isActive = true) ∧
      u.kept = { s with tb := t }.kept ∧ u.fl = s.fl := by
  have hexec : exec .restTimerExpiry s = .next (dsEnterCrank ((s.stamp t).cancel .rest)) := by
    refine (onExpiry_due (id := .rest) _ hdue.1 hdue.2).trans ?_
    rw [dsRestExpired, if_pos ((State.dieselIs_iff (s := (s.stamp t).cancel .rest)).2 hstate)]
    exact congrArg _ (if_pos hleft)
  obtain ⟨c, hactive, -, hcrank⟩ := dsEnterCrank_of_resting (s := (s.stamp t).cancel .rest)
    (by exact fun h => nomatch hstate.symm.trans h) hrest
  have hside := State.offIsland_of_offSet (dsEnterCrank_offSet ((s.stamp t).cancel .rest))
  have hkept := offIsland_kept hside
  have hfl := offIsland_fl hside
  rw [hcrank] at hkept hfl
  exact ⟨_, hexec.trans (congrArg _ hcrank), ⟨rfl, rfl, rfl, hactive⟩, hkept, hfl⟩

theorem restExpired_fails (hdue : s.due .rest t) (hstate : s.ds.state = some .rest) (hspent : s.par.diesel.attempts ≤ s.ds.crankCount) :
    exec .restTimerExpiry s = .next (dsEnterFailed ((s.stamp t).cancel .rest)) := by
  refine (onExpiry_due (id := .rest) _ hdue.1 hdue.2).trans ?_
  rw [dsRestExpired, if_pos ((State.dieselIs_iff (s := (s.stamp t).cancel .rest)).2 hstate)]
  exact congrArg _ (if_neg (Nat.not_lt.2 hspent))

theorem dsEnterSync_eq (h : s.ds.state ≠ some .online) : dsEnterSync s = { s with
    ds := { s.ds.enter .sync with
      good := 0, timers := { s.ds.timers with sync := .running s.tb (s.par.diesel.syncTimeout * 10000000) } } } := by
  unfold dsEnterSync
  rw [dsEnter_of_not_online _ h]
  rfl

/-- A request for arbitration opens a session where there is none and no address conflict (R167). -/
theorem bscRequest_opens (hidle : s.permitPhase = .idle) (hconflict : s.ilc.conflict = false) :
    ∃ w, bscRequest s = (false, w) ∧ w.permitPhase = .waiting ∧ w.tac.permitEdges = true ∧ w.ds = s.ds := by
  unfold bscRequest
  rw [if_neg (not_not.2 hidle), if_neg (by simp [hconflict])]
  dsimp only
  split <;> exact ⟨_, rfl, rfl, rfl, rfl⟩

theorem dsEnterArbitrate_opens (h : s.ds.state ≠ some .online) (hidle : s.permitPhase = .idle) (hconflict : s.ilc.conflict = false) :
    (dsEnterArbitrate s).ds.state = some .arbitrate ∧ (dsEnterArbitrate s).permitPhase = .waiting ∧
      (dsEnterArbitrate s).tac.permitEdges = true := by
  obtain ⟨w, hw, hphase, hedges, hds⟩ := bscRequest_opens (s := setBias 0 { s with ds := s.ds.enter .arbitrate }) hidle hconflict
  unfold dsEnterArbitrate
  rw [dsEnter_of_not_online _ h, hw]
  exact ⟨by rw [hds]; rfl, hphase, hedges⟩

theorem exec_spool (hdue : s.due .spool t) (hstate : s.ds.state = some .spool) :
    exec .spoolTimerExpiry s = .next (dsJudgeSpool ((s.stamp t).cancel .spool)) := by
  refine (onExpiry_due (id := .spool) _ hdue.1 hdue.2).trans ?_
  rw [dsSpoolExpired, if_pos ((State.dieselIs_iff (s := (s.stamp t).cancel .spool)).2 hstate)]

/-- The source of the latest record is live with a frequency (R107). -/
theorem State.sourceReady_iff {r : CycleRecord} (hr : s.mu.latest = some r) :
    s.sourceReady = true ↔ r.srcCondition = .live ∧ r.fSrc.isSome = true := by
  simp [State.sourceReady, hr]

theorem dsJudgeSpool_of_ready (h : s.sourceReady = true) :
    (s.bsc.island = some .live ∨ s.bsc.island = some .recover → dsJudgeSpool s = dsEnterSync s) ∧
    (s.bsc.island = some .dark → dsJudgeSpool s = dsEnterArbitrate s) ∧
    (s.bsc.island = some .deadWait → dsJudgeSpool s = s) := by
  unfold dsJudgeSpool
  rw [if_pos h]
  refine ⟨?_, fun h => by rw [h], fun h => by rw [h]⟩
  rintro (h | h) <;> rw [h]

theorem dsJudgeSpool_of_not_ready (h : ¬ s.sourceReady = true) : dsJudgeSpool s = dsEnterFailed s := if_neg h

theorem exec_sync (hdue : s.due .sync t) (hstate : s.ds.state = some .sync) :
    exec .syncTimeoutExpiry s = .next (dsEnterFailed ((s.stamp t).cancel .sync)) := by
  refine (onExpiry_due (id := .sync) _ hdue.1 hdue.2).trans ?_
  rw [dsSyncExpired, if_pos ((State.dieselIs_iff (s := (s.stamp t).cancel .sync)).2 hstate)]
end

section
variable {s u v : State} {t : Tick}

theorem dsRunAsserted_cases : (s.ds.state = some .crank → dsRunAsserted s = dsEnterSpool (s.cut .crank)) ∧
    (s.ds.state = some .rest → dsRunAsserted s = dsEnterSpool (s.cancel .rest)) ∧
    (s.ds.state ≠ some .crank → s.ds.state ≠ some .rest → dsRunAsserted s = s) := by
  unfold dsRunAsserted
  refine ⟨fun h => by rw [h], fun h => by rw [h], fun hcrank hrest => ?_⟩
  split
  next h => exact absurd h hcrank
  next h => exact absurd h hrest
  next => rfl

theorem dsRunReleased_cases :
    (s.ds.state = some .spool ∨ s.ds.state = some .sync → dsRunReleased s = dsEnterFailed s) ∧
    (s.ds.state = some .arbitrate → dsRunReleased s = dsEnterFailed (dsWithdraw s)) ∧
    (s.ds.state = some .closing → dsRunReleased s = dsClosingFailed s) := by
  unfold dsRunReleased
  refine ⟨?_, fun h => by rw [h], fun h => by rw [h]⟩
  rintro (h | h) <;> rw [h]

/-- Before and after a run RUN_FB released means nothing to the set. -/
theorem dsRunReleased_of_quiet (h : s.ds.state = none ∨ s.ds.state = some .off ∨ s.ds.state = some .standby ∨
    s.ds.state = some .intent ∨ s.ds.state = some .crank ∨ s.ds.state = some .rest ∨ s.ds.state = some .opening ∨
    s.ds.state = some .cooldown ∨ s.ds.state = some .failed) : dsRunReleased s = s := by
  unfold dsRunReleased
  obtain h | h | h | h | h | h | h | h | h := h <;> rw [h]

/-- What an engine that runs leaves of a set that was cranked. -/
theorem dsEnterSpool_spools (h : s.ds.state ≠ some .online) (hidle : s.pulse .crank = .idle) :
    let u := dsEnterSpool s
    u.ds.state = some .spool ∧ u.ds.bias = 0 ∧ u.pulse .crank = .idle ∧ u.ret = s.ret ∧ u.bsc = s.bsc ∧
      (∀ c, c ≠ .crank → u.pulse c = s.pulse c) ∧ u.ds.crankCount = s.ds.crankCount := by
  intro u
  have hpulse (c : PulseChannel) (hc : c ≠ .crank) : u.pulse c = s.pulse c := offSet_pulse (dsEnterSpool_offSet s) hc
  have hu : u = _ := dsEnterSpool_eq h
  rw [hu] at hpulse ⊢
  exact ⟨rfl, rfl, hidle, rfl, rfl, hpulse, rfl⟩

theorem dsEnterSpool_timers (h : s.ds.state ≠ some .online) :
    (dsEnterSpool s).ds.timers = { s.ds.timers with spool := .running s.tb (s.par.diesel.spoolTime * 10000000) } := by
  rw [dsEnterSpool_eq h]

/-- A withdrawal in ARBITRATE ends the session that contends, and leaves the set. -/
theorem dsWithdraw_leaves (h : s.ds.state = some .arbitrate) : (dsWithdraw s).ds = s.ds ∧
    (s.contending = true → (dsWithdraw s).permitPhase = .idle ∧ (dsWithdraw s).tac.permitPull = false) := by
  unfold dsWithdraw bscWithdraw
  rw [if_pos (State.dieselIs_iff.2 h)]
  cases hcontend : s.contending with
  | true => exact ⟨rfl, fun _ => ⟨rfl, rfl⟩⟩
  | false => exact ⟨rfl, nofun⟩

/-- A dead-bus close that fails ends the session that won. -/
theorem dsClosingFailed_session (h : s.ds.state ≠ some .online) (hdead : s.ds.deadBusClose = true) (hphase : s.permitPhase = .close) :
    (dsClosingFailed s).permitPhase = .idle ∧ (dsClosingFailed s).tac.permitPull = false := by
  obtain ⟨-, -, tac, htrip, -⟩ := sameButBreaker_dsTrip false s
  unfold dsClosingFailed
  dsimp only
  rw [if_pos hdead, htrip, dsEnterFailed_eq (s := { s with tac }) h, bscCloseFailed, if_pos (by exact hphase)]
  exact ⟨rfl, rfl⟩

theorem dsTrip_tac (confirm : Bool) (s : State) : ∃ tac, (dsTrip confirm s).2 = { s with tac } := by
  obtain ⟨-, -, tac, htrip, -⟩ := sameButBreaker_dsTrip confirm s
  exact ⟨tac, htrip⟩

/-- Settles O37, RUN_FB asserted in the start sequence and elsewhere. -/
theorem runAsserted_spools (h : s.qualifies .runFb true) :
    let n := s.qualify .runFb true
    let next (holds : State → Prop) : Prop :=
      ∃ u, exec (.inputQualified .runFb) s = .next u ∧ holds u ∧ u.kept = n.kept ∧ u.fl = s.fl ∧ u.sc = s.sc ∧ u.ilc = s.ilc
    let spools (u : State) : Prop :=
      u.ds.state = some .spool ∧ u.ds.bias = 0 ∧ u.pulse .crank = .idle ∧ u.ret = s.ret ∧ u.bsc = s.bsc ∧
        (∀ c, c ≠ .crank → u.pulse c = s.pulse c) ∧ u.ds.crankCount = s.ds.crankCount
    let spool : Timer := .running s.tb (s.par.diesel.spoolTime * 10000000)
    (s.ds.state = some .crank → next fun u => spools u ∧ u.ds.timers = { s.ds.timers with spool }) ∧
    (s.ds.state = some .rest → s.pulse .crank = .idle →
      next fun u => spools u ∧ u.ds.timers = { s.ds.timers with rest := .stopped, spool }) ∧
    (s.ds.state ≠ some .crank → s.ds.state ≠ some .rest → exec (.inputQualified .runFb) s = .next n) := by
  intro n next spools spool
  have hexec : exec (.inputQualified .runFb) s = .next (dsRunAsserted n) := exec_inputQualified h
  obtain ⟨hcrank, hrest, hother⟩ := dsRunAsserted_cases (s := n)
  have hnext {w : State} (hw : w.ds.state ≠ some .online) (hrun : dsRunAsserted n = dsEnterSpool w) (hside : w.offSet = n.offSet)
      (hholds : spools (dsEnterSpool w)) : next fun u => spools u ∧ u.ds.timers = { w.ds.timers with
        spool := .running w.tb (w.par.diesel.spoolTime * 10000000) } := by
    have hleft := State.offIsland_of_offSet ((dsEnterSpool_offSet w).trans hside)
    exact ⟨_, hexec.trans (congrArg _ hrun), ⟨hholds, dsEnterSpool_timers hw⟩, offIsland_kept hleft, (offIsland_fl hleft :),
      (offIsland_sc hleft :), (offIsland_ilc hleft :)⟩
  refine ⟨fun hstate => ?_, fun hstate hidle => ?_, fun hc hr => hexec.trans (congrArg _ (hother hc hr))⟩
  · have hnot : (n.cut .crank).ds.state ≠ some .online := by exact fun h => nomatch hstate.symm.trans h
    obtain ⟨hst, hbias, hcut, hret, hbsc, hpulse, hcount⟩ := dsEnterSpool_spools hnot rfl
    exact hnext (w := n.cut .crank) hnot (hcrank hstate) rfl ⟨hst, hbias, hcut, hret, hbsc,
      fun c hc => (hpulse c hc).trans (State.pulse_putPulse_other n .idle hc), hcount⟩
  · have hnot : (n.cancel .rest).ds.state ≠ some .online := by exact fun h => nomatch hstate.symm.trans h
    exact hnext (w := n.cancel .rest) hnot (hrest hstate) rfl (dsEnterSpool_spools hnot hidle)

/-- Settles O37, RUN_FB released in a start fails the set. -/
theorem runReleased_fails (h : s.qualifies .runFb false) :
    let n := s.qualify .runFb false
    let next (holds : State → Prop) : Prop :=
      ∃ u, exec (.inputQualified .runFb) s = .next u ∧ holds u ∧ u.kept = n.kept ∧ u.fl = s.fl ∧ u.sc = s.sc ∧ u.ilc = s.ilc
    let failed (u : State) : Prop := u.ds.state = some .failed ∧ u.ret.run = false ∧ u.ret.lockout = true ∧ u.ds.bias = 0
    (s.ds.state = some .spool ∨ s.ds.state = some .sync → next fun u => failed u ∧ u.bsc = s.bsc ∧
      ∀ c, c ≠ .crank → u.pulse c = s.pulse c) ∧
    (s.ds.state = some .arbitrate → next fun u => failed u ∧ (∀ c, c ≠ .crank → u.pulse c = s.pulse c) ∧
      (s.contending = true → u.permitPhase = .idle ∧ u.tac.permitPull = false)) ∧
    (s.ds.state = some .closing → next fun u => failed u ∧ (u.pulse .srcTrip).isActive = true ∧
      ((s.pulse .srcTrip).isActive = false → u.pulse .srcClose = .idle) ∧
      (s.ds.deadBusClose = true → s.permitPhase = .close → u.permitPhase = .idle ∧ u.tac.permitPull = false)) := by
  intro n next failed
  have hexec : exec (.inputQualified .runFb) s = .next (dsRunReleased n) := exec_inputQualified h
  obtain ⟨hfails, harbitrate, hclosing⟩ := dsRunReleased_cases (s := n)
  have hfailed {w : State} (hw : w.isFailed) : failed w := by
    obtain ⟨hst, hlocked, hrun, hbias, -⟩ := hw
    exact ⟨hst, hrun, hlocked, hbias⟩
  refine ⟨fun hstate => ?_, fun hstate => ?_, fun hstate => ?_⟩
  · have hnot : n.ds.state ≠ some .online := by
      change s.ds.state ≠ _
      obtain h | h := hstate <;> rw [h] <;> nofun
    have hside := dsEnterFailed_offSet n
    have hleft := State.offIsland_of_offSet hside
    refine ⟨_, hexec.trans (congrArg _ (hfails hstate)), ⟨hfailed (dsEnterFailed_isFailed n), ?_, fun c hc => (offSet_pulse hside hc :)⟩,
      offIsland_kept hleft, (offIsland_fl hleft :), (offIsland_sc hleft :), (offIsland_ilc hleft :)⟩
    rw [dsEnterFailed_eq hnot]
    rfl
  · obtain ⟨hds, hsession⟩ := dsWithdraw_leaves (s := n) hstate
    have hnot : (dsWithdraw n).ds.state ≠ some .online := by
      rw [hds]
      exact fun h => nomatch hstate.symm.trans h
    have hside := (dsEnterFailed_offSet (dsWithdraw n)).trans (dsWithdraw_offSet n)
    have hleft := State.offIsland_of_offSet hside
    refine ⟨_, hexec.trans (congrArg _ (harbitrate hstate)), ⟨hfailed (dsEnterFailed_isFailed _), fun c hc => (offSet_pulse hside hc :),
      fun hcontend => ?_⟩, offIsland_kept hleft, (offIsland_fl hleft :), (offIsland_sc hleft :), (offIsland_ilc hleft :)⟩
    rw [dsEnterFailed_eq hnot]
    exact hsession hcontend
  · have hnot : n.ds.state ≠ some .online := by exact fun h => nomatch hstate.symm.trans h
    obtain ⟨hisFailed, hside⟩ := dsClosingFailed_leaves n
    obtain ⟨hactive, hcut⟩ := dsTrip_pulses false n
    obtain ⟨tac, htrip⟩ := dsTrip_tac false n
    have hpulse {c : PulseChannel} (hc : c ≠ .crank) := offSet_pulse hside hc
    have hkept : (dsClosingFailed n).kept = n.kept := dsClosingFailed_kept n
    rw [htrip] at hside
    have hleft := State.offIsland_of_offSet hside
    refine ⟨_, hexec.trans (congrArg _ (hclosing hstate)), ⟨hfailed hisFailed, ?_, fun h => ?_, ?_⟩, hkept,
      (offIsland_fl hleft :), (offIsland_sc hleft :), (offIsland_ilc hleft :)⟩
    · rw [hpulse (c := .srcTrip) nofun]
      exact hactive
    · rw [hpulse (c := .srcClose) nofun]
      exact hcut h
    · exact dsClosingFailed_session hnot

/-- Settles O37: each timer's end and each edge of RUN_FB, by the state of the set. -/
theorem startTimersExpire : Obligations.StartTimersExpire := by
  refine ⟨fun t s hdue => ⟨fun hstate => ?_, windowExpired_stopIntent hdue⟩, fun t s => ?_, fun s => ?_⟩
  · rw [← crankWidth]
    exact windowExpired_intent hdue hstate
  · intro next failed
    refine ⟨restExpired_cranks, fun hdue hstate hspent => expiry_fails (restExpired_fails hdue hstate hspent) rfl,
      fun hdue hstate r hr => ?_, fun hdue hstate => expiry_fails (exec_sync hdue hstate) rfl⟩
    have hexec := exec_spool hdue hstate
    have hnot : ((s.stamp t).cancel .spool).ds.state ≠ some .online := by exact fun h => nomatch hstate.symm.trans h
    have hready := State.sourceReady_iff (s := (s.stamp t).cancel .spool) hr
    have hleft := State.offIsland_of_offSet (dsJudgeSpool_offSet ((s.stamp t).cancel .spool))
    have hnext {holds : State → Prop} (h : holds (dsJudgeSpool ((s.stamp t).cancel .spool))) : next .spoolTimerExpiry holds :=
      ⟨_, hexec, h, offIsland_kept hleft, (offIsland_fl hleft :)⟩
    intro ready
    refine ⟨fun h hisland => ?_, fun h hisland hidle hconflict => ?_, fun h hisland => ?_, fun h => ?_⟩
    · have hjudge := (dsJudgeSpool_of_ready (hready.2 h)).1 hisland
      apply hnext
      rw [hjudge, dsEnterSync_eq hnot]
      exact ⟨rfl, rfl, rfl⟩
    · have hjudge := (dsJudgeSpool_of_ready (hready.2 h)).2.1 hisland
      apply hnext
      rw [hjudge]
      exact dsEnterArbitrate_opens hnot hidle hconflict
    · exact hexec.trans (congrArg _ ((dsJudgeSpool_of_ready (hready.2 h)).2.2 hisland))
    · exact expiry_fails (hexec.trans (congrArg _ (dsJudgeSpool_of_not_ready (mt hready.1 h)))) rfl
  · intro asserted released next spools spool failed
    refine ⟨runAsserted_spools, fun h => ?_⟩
    obtain ⟨hfails, harbitrate, hclosing⟩ := runReleased_fails h
    exact ⟨hfails, harbitrate, hclosing, fun hquiet => (exec_inputQualified h).trans
      (congrArg _ (dsRunReleased_of_quiet (s := s.qualify .runFb false) hquiet))⟩
end

section
variable {s u v : State} {t : Tick}

/-! ### The stop of a set -/

/-- A change of diesel state writes the diesel record and, where it ends HOLD, the session. -/
theorem dsEnter_eq (st : DieselState) (s : State) : ∃ x pull edges stuck,
    dsEnter st s = { s.withSession x pull edges stuck with ds := s.ds.enter st } := by
  unfold dsEnter
  dsimp only
  split
  · exact ⟨_, _, _, _, rfl⟩
  · exact ⟨s.bsc.session, s.tac.permitPull, s.tac.permitEdges, s.tac.alarm.permitStuck, rfl⟩

/-- The own intent opened: its notice waits where the transmitter is enabled (R102, R114). -/
theorem openIntent_eq (k : IntentKind) (s : State) : ∃ x : Ilc,
    (s.ilc.transmitter.enabled = true → x.slots.intent.frame = some (intentPayload k s.par.diesel.startRank s.par.station.rating)) ∧
    openIntent k s = { s with ilc := x, ds := { s.ds with
      intent := some (k, s.tb), timers := { s.ds.timers with window := .running s.tb (s.par.diesel.intentWindow * 10000) } } } := by
  obtain ⟨-, hplace⟩ | ⟨hoff, hplace⟩ := State.placeFrame_cases { s with ds := { s.ds with intent := some (k, s.tb) } } .intent
    (intentPayload k s.par.diesel.startRank s.par.station.rating)
  · refine ⟨_, fun _ => ?_, congrArg (fun x : State => x.start .window (ms s.par.diesel.intentWindow)) hplace⟩
    rfl
  · refine ⟨s.ilc, fun h => ?_, congrArg (fun x : State => x.start .window (ms s.par.diesel.intentWindow)) hplace⟩
    rw [show s.ilc.transmitter.enabled = false from hoff] at h
    cases h

/-- STOP-INTENT: the stop intent is open, and the stop timer with it no longer runs (R114, log 30). -/
theorem dsEnterStopIntent_leaves (s : State) :
    let u := dsEnterStopIntent s
    u.ds = { s.ds.enter .stopIntent with
      intent := some (.stop, s.tb)
      timers := { s.ds.timers with stop := .stopped, window := .running s.tb (s.par.diesel.intentWindow * 10000) } } ∧
    (s.ilc.transmitter.enabled = true →
      u.ilc.slots.intent.frame = some (intentPayload .stop s.par.diesel.startRank s.par.station.rating)) ∧
    u.ret = s.ret ∧ (∀ c, u.pulse c = s.pulse c) ∧ u.fl = s.fl ∧ u.sc = s.sc := by
  intro u
  obtain ⟨x, pull, edges, stuck, henter⟩ := dsEnter_eq .stopIntent s
  obtain ⟨link, hframe, hopen⟩ := openIntent_eq .stop ((dsEnter .stopIntent s).cancel .stop)
  have hu : u = _ := hopen
  rw [henter] at hu hframe
  rw [hu]
  exact ⟨rfl, hframe, rfl, fun c => by cases c <;> rfl, rfl, rfl⟩

theorem dsEnterOff_eq (h : s.ds.state ≠ some .online) : dsEnterOff s = { s with
    ds := { s.ds.enter .off with bias := 0 }, tac := { s.tac with pwm := 0 } } := by
  rw [dsEnterOff, dsEnter_of_not_online _ h]
  rfl

/-- STANDBY where the set does not start at once for a DARK island. -/
theorem dsEnterStandby_eq (h : s.ds.state ≠ some .online) (hquiet : s.operating = false ∨ s.bsc.island ≠ some .dark) :
    dsEnterStandby s = { s with ds := { s.ds.enter .standby with bias := 0 }, tac := { s.tac with pwm := 0 } } := by
  unfold dsEnterStandby
  rw [dsEnter_of_not_online _ h]
  refine (if_neg ?_).trans rfl
  rw [Bool.and_eq_true, decide_eq_true_iff]
  rintro ⟨hdark, hop⟩
  obtain hheld | hup := hquiet
  · exact Bool.false_ne_true (hheld.symm.trans hop)
  · exact hup hdark

theorem dsTrip_ret (confirm : Bool) (s : State) : (dsTrip confirm s).2.ret = s.ret ∧ (dsTrip confirm s).2.fl = s.fl := by
  obtain ⟨tac, htrip⟩ := dsTrip_tac confirm s
  rw [htrip]
  exact ⟨rfl, rfl⟩

theorem dsConfirmed_opening_leaves (h : s.ds.state = some .opening) : (dsConfirmed s) = { s with
    ds := { s.ds.enter .cooldown with
      timers := { s.ds.timers with cooldown := .running s.tb (s.par.diesel.cooldown * 10000000) } } } := by
  rw [dsConfirmed_of_opening h, dsEnter_of_not_online _ (by rw [h]; nofun)]
  rfl

/-- The trip into OPENING writes neither the retention record nor the feeder ladder. -/
theorem dsEnterOpening_side (s : State) : (dsEnterOpening s).ret = s.ret ∧ (dsEnterOpening s).fl = s.fl := by
  obtain ⟨hret, hfl⟩ := dsTrip_ret true (s.cancel .unload)
  obtain ⟨x, pull, edges, stuck, henter⟩ := dsEnter_eq .opening (dsTrip true (s.cancel .unload)).2
  have hside : (dsEnter .opening (dsTrip true (s.cancel .unload)).2).ret = s.ret ∧
      (dsEnter .opening (dsTrip true (s.cancel .unload)).2).fl = s.fl := by
    rw [henter]
    exact ⟨hret, hfl⟩
  unfold dsEnterOpening
  dsimp only
  split
  · rw [dsConfirmed_opening_leaves (by rw [dsEnter_ds]; rfl)]
    exact hside
  · exact hside

/-- Settles O38, the end of the stop timer. -/
theorem stopExpired_opens (hdue : s.due .stop t) (hstate : s.ds.state = some .online) :
    ∃ u, exec .stopTimerExpiry s = .next u ∧ u.ds.state = some .stopIntent ∧
      u.ds.intent = some (.stop, t) ∧ u.ds.timers.window = .running t (s.par.diesel.intentWindow * 10000) ∧
      u.ds.timers.stop = .stopped ∧ u.ds.bias = s.ds.bias ∧ u.ret = s.ret ∧
      (s.ilc.transmitter.enabled = true →
        u.ilc.slots.intent.frame = some (intentPayload .stop s.par.diesel.startRank s.par.station.rating)) ∧
      u.kept = { s with tb := t }.kept ∧ u.fl = s.fl := by
  have hexec : exec .stopTimerExpiry s = .next (dsEnterStopIntent ((s.stamp t).cancel .stop)) := by
    refine (onExpiry_due (id := .stop) _ hdue.1 hdue.2).trans ?_
    rw [dsStopExpired, if_pos ((State.dieselIs_iff (s := (s.stamp t).cancel .stop)).2 hstate)]
  obtain ⟨hds, hframe, hret, -, hfl, -⟩ := dsEnterStopIntent_leaves ((s.stamp t).cancel .stop)
  refine ⟨_, hexec, ?_, ?_, ?_, ?_, ?_, hret, hframe, dsEnterStopIntent_kept _, hfl⟩ <;> rw [hds] <;> rfl

/-- Settles O38, the end of the unload timer. -/
theorem unloadExpired_trips (hdue : s.due .unload t) (hstate : s.ds.state = some .unload) (hlevel : s.level .srcCb ≠ .released)
    (htrip : s.pulse .srcTrip = .idle) : ∃ u, exec .unloadTimerExpiry s = .next u ∧ u.ds.state = some .opening ∧
      u.ds.timers.unload = .stopped ∧ (u.pulse .srcTrip).isActive = true ∧ u.pulse .srcClose = .idle ∧
      u.window .source = .watching .ds false (.running t (s.par.diesel.confirmTime * 10000)) ∧ u.ret = s.ret ∧
      u.ds.bias = s.ds.bias ∧ u.kept = { s with tb := t }.kept ∧ u.fl = s.fl := by
  have hexec : exec .unloadTimerExpiry s = .next (dsEnterOpening ((s.stamp t).cancel .unload)) := by
    refine (onExpiry_due (id := .unload) _ hdue.1 hdue.2).trans ?_
    rw [dsUnloadExpired, if_pos ((State.dieselIs_iff (s := (s.stamp t).cancel .unload)).2 hstate)]
  obtain ⟨hds, hactive, hclose, hwindow⟩ := dsEnterOpening_of_idle (s := (s.stamp t).cancel .unload) hstate htrip hlevel
  obtain ⟨hret, hfl⟩ := dsEnterOpening_side ((s.stamp t).cancel .unload)
  refine ⟨_, hexec, ?_, ?_, hactive, hclose, hwindow, hret, ?_, dsEnterOpening_kept _, hfl⟩ <;> rw [hds] <;> rfl

/-- A set at rest: RUN is CLEAR, and INHIBIT tells OFF from STANDBY (R116, R182). -/
theorem dsRest_eq (h : s.ds.state ≠ some .online) (hquiet : s.operating = false ∨ s.bsc.island ≠ some .dark) : dsRest s = { s with
    ds := { s.ds.enter (if s.level .inhibit = .asserted then .off else .standby) with bias := 0 }
    tac := { s.tac with pwm := 0 }
    ret := { s.ret with run := false } } := by
  have hasserted : (s.writeRun false).asserted .inhibit = true ↔ s.level .inhibit = .asserted := beq_iff_eq
  unfold dsRest
  dsimp only
  by_cases hinhibit : s.level .inhibit = .asserted
  · rw [if_pos (hasserted.2 hinhibit), if_pos hinhibit, dsEnterOff_eq (s := s.writeRun false) h]
    rfl
  · rw [if_neg (mt hasserted.1 hinhibit), if_neg hinhibit, dsEnterStandby_eq (s := s.writeRun false) h hquiet]
    rfl

theorem dsCooldownExpired_eq (h : s.ds.state = some .cooldown) (hup : s.bsc.island ≠ some .dark) : dsCooldownExpired s = { s with
    ds := { s.ds.enter (if s.level .inhibit = .asserted then .off else .standby) with bias := 0, forcedStop := false }
    tac := { s.tac with pwm := 0 }
    ret := { s.ret with run := false } } := by
  have hrest : dsCooldownExpired s = dsRest { s with ds := { s.ds with forcedStop := false } } := by
    rw [dsCooldownExpired, if_pos (State.dieselIs_iff.2 h)]
    rfl
  rw [hrest, dsRest_eq (s := { s with ds := { s.ds with forcedStop := false } }) (by rw [h]; nofun) (.inr hup)]
  rfl

/-- Settles O38, the end of the cooldown. -/
theorem cooldownExpired_rests (hdue : s.due .cooldown t) (hstate : s.ds.state = some .cooldown) (hup : s.bsc.island ≠ some .dark) :
    ∃ u, exec .cooldownTimerExpiry s = .next u ∧
      u.ds.state = some (if s.level .inhibit = .asserted then .off else .standby) ∧ u.ret = { s.ret with run := false } ∧
      u.ds.bias = 0 ∧ u.ds.forcedStop = false ∧ (∀ c, u.pulse c = s.pulse c) ∧ u.kept = { s with tb := t }.kept ∧ u.fl = s.fl := by
  refine ⟨_, (onExpiry_due (id := .cooldown) _ hdue.1 hdue.2).trans
    (congrArg _ (dsCooldownExpired_eq (s := (s.stamp t).cancel .cooldown) hstate hup)), ?_⟩
  exact ⟨rfl, rfl, rfl, rfl, fun c => by cases c <;> rfl, rfl, rfl⟩

/-- A position that the source window watches for is the confirmation of its requester. -/
theorem breakerQualified_source_confirms {x : Bool} {r : Requester} {y : Timer} (h : s.window .source = .watching r x y) :
    breakerQualified .source x s = reportConfirmed r .source (s.putWindow .source .closedOut) := by
  simp only [breakerQualified, h, if_true]

/-- Settles O38, the confirmed trip. -/
theorem tripConfirmed_cools {x : Timer} (h : s.qualifies .srcCb false) (hstate : s.ds.state = some .opening)
    (hwindow : s.window .source = .watching .ds false x) :
    ∃ u, exec (.inputQualified .srcCb) s = .next u ∧ u.ds.state = some .cooldown ∧
      u.ds.timers = { s.ds.timers with cooldown := .running s.tb (s.par.diesel.cooldown * 10000000) } ∧
      u.ds.bias = s.ds.bias ∧ u.ret = s.ret ∧ u.window .source = .closedOut ∧ (∀ c, u.pulse c = s.pulse c) ∧
      u.kept = (s.qualify .srcCb false).kept ∧ u.fl = s.fl ∧ u.sc = s.sc ∧ u.bsc = s.bsc := by
  have hexec : exec (.inputQualified .srcCb) s = .next (breakerQualified .source false (s.qualify .srcCb false)) := exec_inputQualified h
  rw [breakerQualified_source_confirms (s := s.qualify .srcCb false) hwindow] at hexec
  refine ⟨_, hexec.trans (congrArg _ (dsConfirmed_opening_leaves
    (s := (s.qualify .srcCb false).putWindow .source .closedOut) hstate)), ?_⟩
  exact ⟨rfl, rfl, rfl, rfl, rfl, fun c => by cases c <;> rfl, rfl, rfl, rfl, rfl⟩
end

section
variable {s u v : State} {t : Tick}

/-! ### INHIBIT -/

/-- What a step of the set may make of its lines and of what is beside it: the crank channel alone of the pulses. -/
def State.besideSet (n u : State) : Prop :=
  (∀ c, c ≠ .crank → u.pulse c = n.pulse c) ∧ u.kept = n.kept ∧ u.fl = n.fl ∧ u.sc = n.sc

theorem State.besideSet_of_offSet (h : u.offSet = v.offSet) : v.besideSet u :=
  have hleft := State.offIsland_of_offSet h
  ⟨fun _ hc => offSet_pulse h hc, offIsland_kept hleft, offIsland_fl hleft, offIsland_sc hleft⟩

/-- The set is OFF, its start given up (R100, log 11). -/
def State.isOff (timers : DieselTimers) (ret : Retention) (u : State) : Prop :=
  u.ds.state = some .off ∧ u.ds.intent = none ∧ u.ds.needSince = none ∧ u.ds.bias = 0 ∧ u.ds.timers = timers ∧ u.ret = ret

theorem dsEnterOff_isOff (h : s.ds.state ≠ some .online) (hintent : s.ds.intent = none) :
    (dsEnterOff s).isOff s.ds.timers s.ret := by
  rw [dsEnterOff_eq h]
  exact ⟨rfl, hintent, rfl, rfl, rfl, rfl⟩

theorem dsWithdraw_ret (s : State) : (dsWithdraw s).ret = s.ret := by
  unfold dsWithdraw bscWithdraw
  (repeat' split) <;> rfl

/-- INHIBIT asserted in a start that is in hand: the set is OFF, in operation (R100). -/
theorem dsInhibitAsserted_starting (hop : s.operating = true) :
    (s.ds.state = some .standby → s.ds.intent = none → (dsInhibitAsserted s).isOff { s.ds.timers with holdoff := .stopped } s.ret) ∧
    (s.ds.state = some .intent → (dsInhibitAsserted s).isOff { s.ds.timers with window := .stopped } s.ret) ∧
    (s.ds.intent = none →
      (s.ds.state = some .crank → (dsInhibitAsserted s).isOff s.ds.timers { s.ret with run := false } ∧
        (dsInhibitAsserted s).pulse .crank = .idle) ∧
      (s.ds.state = some .rest → (dsInhibitAsserted s).isOff { s.ds.timers with rest := .stopped } { s.ret with run := false }) ∧
      (s.ds.state = some .spool → (dsInhibitAsserted s).isOff { s.ds.timers with spool := .stopped } { s.ret with run := false }) ∧
      (s.ds.state = some .sync → (dsInhibitAsserted s).isOff { s.ds.timers with sync := .stopped } { s.ret with run := false }) ∧
      (s.ds.state = some .arbitrate → (dsInhibitAsserted s).isOff s.ds.timers { s.ret with run := false } ∧
        (s.contending = true → (dsInhibitAsserted s).permitPhase = .idle ∧ (dsInhibitAsserted s).tac.permitPull = false))) := by
  have hnot {st : DieselState} (h : s.ds.state = some st) (hne : st ≠ .online) : s.ds.state ≠ some .online :=
    fun honline => hne (Option.some.inj (h.symm.trans honline))
  refine ⟨fun h hintent => ?_, fun h => ?_, fun hintent => ⟨fun h => ?_, fun h => ?_, fun h => ?_, fun h => ?_, fun h => ?_⟩⟩ <;>
    simp only [dsInhibitAsserted, h, hop, if_true]
  case refine_1 => exact dsEnterOff_isOff (s := s.cancel .holdoff) (hnot h nofun) hintent
  case refine_2 => exact dsEnterOff_isOff (s := dropIntent (s.cancel .window)) (hnot h nofun) rfl
  case refine_3 =>
    refine ⟨dsEnterOff_isOff (s := (s.cut .crank).writeRun false) (hnot h nofun) hintent, ?_⟩
    rw [dsEnterOff_eq (s := (s.cut .crank).writeRun false) (hnot h nofun)]
    rfl
  case refine_4 => exact dsEnterOff_isOff (s := (s.cancel .rest).writeRun false) (hnot h nofun) hintent
  case refine_5 => exact dsEnterOff_isOff (s := (s.cancel .spool).writeRun false) (hnot h nofun) hintent
  case refine_6 => exact dsEnterOff_isOff (s := (s.cancel .sync).writeRun false) (hnot h nofun) hintent
  case refine_7 =>
    obtain ⟨hds, hsession⟩ := dsWithdraw_leaves h
    have hstate : ((dsWithdraw s).writeRun false).ds.state ≠ some .online := by
      change (dsWithdraw s).ds.state ≠ _
      rw [hds]
      exact hnot h nofun
    have hoff := dsEnterOff_isOff hstate ((congrArg Ds.intent hds).trans hintent)
    rw [show ((dsWithdraw s).writeRun false).ds.timers = s.ds.timers from congrArg Ds.timers hds,
      show ((dsWithdraw s).writeRun false).ret = { s.ret with run := false } from
        congrArg (fun r : Retention => { r with run := false }) (dsWithdraw_ret s)] at hoff
    refine ⟨hoff, fun hcontend => ?_⟩
    rw [dsEnterOff_eq hstate]
    exact hsession hcontend

/-- In the states of a start, outside CLOSING, INHIBIT asserted in operation leaves what is beside the set. -/
theorem dsInhibitAsserted_besideSet (h : s.ds.state ≠ some .online) : s.besideSet (dsInhibitAsserted s) := by
  apply State.besideSet_of_offSet
  unfold dsInhibitAsserted
  split
  case h_9 honline => exact absurd honline h
  case h_8 | h_12 | h_13 => rfl
  all_goals split <;> simp <;> rfl

/-- Outside a start INHIBIT asserted is noted, or does nothing; a set that is ONLINE in operation begins its forced stop (R100). -/
theorem dsInhibitAsserted_notes :
    (s.ds.state = some .off ∨ s.ds.state = some .opening ∨ s.ds.state = some .cooldown → dsInhibitAsserted s = s) ∧
    (s.ds.state = some .closing → dsInhibitAsserted s = { s with ds := { s.ds with closingInhibit := true } }) ∧
    (s.ds.state = some .failed → dsInhibitAsserted s = { s with ds := { s.ds with inhibitSeen := true } }) ∧
    (s.operating = false → s.ds.state = some .standby ∨ s.ds.state = some .online → dsInhibitAsserted s = s) ∧
    (s.operating = true → s.ds.state = some .online → dsInhibitAsserted s = dsForcedStop s) ∧
    (s.operating = true → s.ds.state = some .stopIntent ∨ s.ds.state = some .unload →
      dsInhibitAsserted s = { s with ds := { s.ds with forcedStop := true } }) := by
  unfold dsInhibitAsserted
  refine ⟨?_, fun h => by rw [h], fun h => by rw [h], fun hop => ?_, fun hop h => by rw [h, hop]; rfl, fun hop => ?_⟩
  · rintro (h | h | h) <;> rw [h]
  · rintro (h | h) <;> rw [h, hop] <;> rfl
  · rintro (h | h) <;> rw [h, hop] <;> rfl

theorem dsForcedStop_leaves (s : State) :
    let u := dsForcedStop s
    (u.ds.state = some .stopIntent ∧ u.ds.forcedStop = true ∧ u.ds.intent = some (.stop, s.tb) ∧ u.ret = s.ret ∧
      u.ds.bias = s.ds.bias ∧
      u.ds.timers = { s.ds.timers with stop := .stopped, window := .running s.tb (s.par.diesel.intentWindow * 10000) } ∧
      (s.ilc.transmitter.enabled = true →
        u.ilc.slots.intent.frame = some (intentPayload .stop s.par.diesel.startRank s.par.station.rating))) ∧ s.besideSet u := by
  obtain ⟨hds, hframe, hret, hpulse, hfl, hsc⟩ := dsEnterStopIntent_leaves { s with ds := { s.ds with forcedStop := true } }
  refine ⟨⟨?_, ?_, ?_, hret, ?_, ?_, hframe⟩, fun c _ => hpulse c, dsForcedStop_kept s, hfl, hsc⟩ <;>
    rw [dsForcedStop, hds] <;> rfl

/-- Settles O38, INHIBIT asserted. -/
theorem inhibitAsserted (h : s.qualifies .inhibit true) :
    let n := s.qualify .inhibit true
    let next (holds : State → Prop) : Prop :=
      ∃ u, exec (.inputQualified .inhibit) s = .next u ∧ holds u ∧ (∀ c, c ≠ .crank → u.pulse c = s.pulse c) ∧
        u.kept = n.kept ∧ u.fl = s.fl ∧ u.sc = s.sc
    let offWith (timers : DieselTimers) (run : Bool) : Prop := next fun u =>
      u.ds.state = some .off ∧ u.ds.intent = none ∧ u.ds.needSince = none ∧ u.ds.bias = 0 ∧ u.ds.timers = timers ∧
        u.ret = { s.ret with run }
    let t := s.ds.timers
    (s.ds.state = some .off ∨ s.ds.state = some .opening ∨ s.ds.state = some .cooldown →
      exec (.inputQualified .inhibit) s = .next n) ∧
    (s.ds.state = some .closing →
      exec (.inputQualified .inhibit) s = .next { n with ds := { s.ds with closingInhibit := true } }) ∧
    (s.ds.state = some .failed →
      exec (.inputQualified .inhibit) s = .next { n with ds := { s.ds with inhibitSeen := true } }) ∧
    (s.operating = false → s.ds.state = some .standby ∨ s.ds.state = some .online →
      exec (.inputQualified .inhibit) s = .next n) ∧
    (s.operating = true →
      (s.ds.state = some .standby → s.ds.intent = none → offWith { t with holdoff := .stopped } s.ret.run) ∧
      (s.ds.state = some .intent → offWith { t with window := .stopped } s.ret.run) ∧
      (s.ds.intent = none →
        (s.ds.state = some .crank → offWith t false ∧ next fun u => u.pulse .crank = .idle) ∧
        (s.ds.state = some .rest → offWith { t with rest := .stopped } false) ∧
        (s.ds.state = some .spool → offWith { t with spool := .stopped } false) ∧
        (s.ds.state = some .sync → offWith { t with sync := .stopped } false) ∧
        (s.ds.state = some .arbitrate → offWith t false ∧
          (s.contending = true → next fun u => u.permitPhase = .idle ∧ u.tac.permitPull = false))) ∧
      (s.ds.state = some .online → next fun u => u.ds.state = some .stopIntent ∧ u.ds.forcedStop = true ∧
        u.ds.intent = some (.stop, s.tb) ∧ u.ret = s.ret ∧ u.ds.bias = s.ds.bias ∧
        u.ds.timers = { t with stop := .stopped, window := .running s.tb (s.par.diesel.intentWindow * 10000) } ∧
        (s.ilc.transmitter.enabled = true →
          u.ilc.slots.intent.frame = some (intentPayload .stop s.par.diesel.startRank s.par.station.rating))) ∧
      (s.ds.state = some .stopIntent ∨ s.ds.state = some .unload →
        exec (.inputQualified .inhibit) s = .next { n with ds := { s.ds with forcedStop := true } })) := by
  intro n next offWith t
  have hexec : exec (.inputQualified .inhibit) s = .next (dsInhibitAsserted n) := exec_inputQualified h
  have hcase {x : State} (hx : dsInhibitAsserted n = x) : exec (.inputQualified .inhibit) s = .next x := hexec.trans (congrArg _ hx)
  have hnext {holds : State → Prop} {st : DieselState} (hst : s.ds.state = some st) (hne : st ≠ .online)
      (hu : holds (dsInhibitAsserted n)) : next holds := by
    obtain ⟨hpulse, hkept, hfl, hsc⟩ := dsInhibitAsserted_besideSet (s := n)
      (fun honline => hne (Option.some.inj ((show s.ds.state = _ from honline).symm.trans hst)).symm)
    exact ⟨_, hexec, hu, hpulse, hkept, hfl, hsc⟩
  obtain ⟨hquiet, hclosing, hfailed, hheld, honline, hstopping⟩ := dsInhibitAsserted_notes (s := n)
  refine ⟨fun hst => hcase (hquiet hst), fun hst => hcase (hclosing hst), fun hst => hcase (hfailed hst),
    fun hop hst => hcase (hheld hop hst), fun hop => ?_⟩
  obtain ⟨hstandby, hintent, hstarting⟩ := dsInhibitAsserted_starting (s := n) hop
  refine ⟨fun hst hnone => hnext hst nofun (hstandby hst hnone), fun hst => hnext hst nofun (hintent hst), fun hnone => ?_,
    fun hst => ?_, fun hst => hcase (hstopping hop hst)⟩
  · obtain ⟨hcrank, hrest, hspool, hsync, harbitrate⟩ := hstarting hnone
    exact ⟨fun hst => ⟨hnext hst nofun (hcrank hst).1, hnext hst nofun (hcrank hst).2⟩, fun hst => hnext hst nofun (hrest hst),
      fun hst => hnext hst nofun (hspool hst), fun hst => hnext hst nofun (hsync hst),
      fun hst => ⟨hnext hst nofun (harbitrate hst).1, fun hcontend => hnext hst nofun ((harbitrate hst).2 hcontend)⟩⟩
  · obtain ⟨hstops, hpulse, hkept, hfl, hsc⟩ := dsForcedStop_leaves n
    exact ⟨_, hcase (honline hop hst), hstops, hpulse, hkept, hfl, hsc⟩

/-- A lockout at which INHIBIT was seen is cleared, and the set stands by (R119). -/
theorem dsClearLockout_eq (h : s.ds.state ≠ some .online) (hreleased : s.level .inhibit ≠ .asserted)
    (hquiet : s.operating = false ∨ s.bsc.island ≠ some .dark) : dsClearLockout s = { s with
      ds := { s.ds.enter .standby with bias := 0, inhibitSeen := false }
      tac := { s.tac with pwm := 0, alarm := { s.tac.alarm with dieselFailed := false } }
      ret := { s.ret with lockout := false } } := by
  have hnot : ¬ (s.level .inhibit == .asserted) = true := fun h => hreleased (beq_iff_eq.1 h)
  unfold dsClearLockout
  refine (if_neg hnot).trans ?_
  rw [dsEnterStandby_eq (by exact h) (by exact hquiet)]
  rfl

/-- Settles O38, INHIBIT released. -/
theorem inhibitReleased (h : s.qualifies .inhibit false) :
    let n := s.qualify .inhibit false
    let next (holds : State → Prop) : Prop :=
      ∃ u, exec (.inputQualified .inhibit) s = .next u ∧ holds u ∧ (∀ c, c ≠ .crank → u.pulse c = s.pulse c) ∧
        u.kept = n.kept ∧ u.fl = s.fl ∧ u.sc = s.sc
    (s.ds.state = some .off → s.operating = false ∨ s.bsc.island ≠ some .dark →
      next fun u => u.ds.state = some .standby ∧ u.ret = s.ret ∧ u.ds.timers = s.ds.timers) ∧
    (s.ds.state = some .failed → s.ds.inhibitSeen = true → s.level .srcCb = .released →
      s.operating = false ∨ s.bsc.island ≠ some .dark →
      next fun u => u.ds.state = some .standby ∧ u.ret = { s.ret with lockout := false } ∧
        u.ds.inhibitSeen = false ∧ u.tac.alarm.dieselFailed = false) ∧
    (s.ds.state = some .failed → s.ds.inhibitSeen = false ∨ s.level .srcCb ≠ .released →
      exec (.inputQualified .inhibit) s = .next n) ∧
    (s.ds.state ≠ some .off → s.ds.state ≠ some .failed → exec (.inputQualified .inhibit) s = .next n) := by
  intro n next
  have hexec : exec (.inputQualified .inhibit) s = .next (dsInhibitReleased n) := exec_inputQualified h
  have hseen : (n.ds.inhibitSeen && n.released .srcCb) = true ↔ s.ds.inhibitSeen = true ∧ s.level .srcCb = .released :=
    Bool.and_eq_true_iff.trans (and_congr Iff.rfl beq_iff_eq)
  refine ⟨fun hst hquiet => ?_, fun hst hinhibit hopen hquiet => ?_, fun hst hnot => ?_, fun hoff hfailed => ?_⟩
  · have hstands : dsInhibitReleased n = dsEnterStandby n := by simp only [dsInhibitReleased, show n.ds.state = _ from hst]
    have hstandby := hstands.trans (dsEnterStandby_eq (s := n) (by exact fun h => nomatch hst.symm.trans h) hquiet)
    exact ⟨_, hexec.trans (congrArg _ hstandby), ⟨rfl, rfl, rfl⟩, fun c _ => by cases c <;> rfl, rfl, rfl, rfl⟩
  · have hclears : dsInhibitReleased n = dsClearLockout n := by
      simp only [dsInhibitReleased, show n.ds.state = _ from hst, hseen.2 ⟨hinhibit, hopen⟩, if_true]
    have hcleared := hclears.trans (dsClearLockout_eq (s := n) (by exact fun h => nomatch hst.symm.trans h) (by exact nofun) hquiet)
    exact ⟨_, hexec.trans (congrArg _ hcleared), ⟨rfl, rfl, rfl, rfl⟩, fun c _ => by cases c <;> rfl, rfl, rfl, rfl⟩
  · refine hexec.trans (congrArg _ ?_)
    simp only [dsInhibitReleased, show n.ds.state = _ from hst]
    refine if_neg (mt hseen.1 ?_)
    rintro ⟨hinhibit, hopen⟩
    obtain hunseen | hclosed := hnot
    · exact Bool.false_ne_true (hunseen.symm.trans hinhibit)
    · exact hclosed hopen
  · refine hexec.trans (congrArg _ ?_)
    unfold dsInhibitReleased
    split
    next h => exact absurd h hoff
    next h => exact absurd h hfailed
    next => rfl

/-- Settles O38: each timer of a stop, the confirmed trip, and INHIBIT by the state of the set. -/
theorem stopTimersExpire : Obligations.StopTimersExpire :=
  ⟨fun _ _ => ⟨stopExpired_opens, fun hdue hstate hlevel htrip => unloadExpired_trips hdue hstate hlevel htrip,
    cooldownExpired_rests⟩, fun _ _ => tripConfirmed_cools, fun _ => ⟨inhibitAsserted, inhibitReleased⟩⟩
end

end Sys2Proof.Machine
end

section
/-! SUPPORT. Records handed over, and the breaker of the source. -/

namespace Sys2Proof.Machine

section
variable {s : State} {c : Condition}
/-! ### The bus conditions that an island state follows (R158) -/

theorem bscFollow_of_live (h : s.bsc.island = some .live) :
    bscFollow c s = if c = .dead then bscEnterDeadWait .live s else s := by
  unfold bscFollow
  rw [h]
  cases c <;> rfl

theorem bscFollow_of_recover (h : s.bsc.island = some .recover) :
    bscFollow c s = if c = .dead then bscEnterDeadWait .recover s else s := by
  unfold bscFollow
  rw [h]
  cases c <;> rfl

theorem bscFollow_of_dark (h : s.bsc.island = some .dark) : bscFollow c s = if c = .live then bscEnterRecover s else s := by
  unfold bscFollow
  rw [h]
  cases c <;> rfl

theorem bscFollow_of_deadWait (h : s.bsc.island = some .deadWait) :
    (c ≠ .live → bscFollow c s = s) ∧
    (s.bsc.origin = .live → bscFollow .live s = bscEnterLive (s.cancel .dead)) ∧
    (s.bsc.origin = .recover → bscFollow .live s = bscEnterRecover (s.cancel .dead)) := by
  unfold bscFollow
  rw [h]
  refine ⟨fun hc => ?_, fun horigin => ?_, fun horigin => ?_⟩
  · cases c with
    | live => exact absurd rfl hc
    | _ => rfl
  · dsimp only
    rw [show (s.cancel .dead).bsc.origin = .live from horigin]
  · dsimp only
    rw [show (s.cancel .dead).bsc.origin = .recover from horigin]
end

section
variable {s u v : State} {t : Tick} {f : Option Nat}

/-! ### A record handed over -/

/-- The restore qualification on a record's f (R147). -/
theorem flQualify_eq (f : Option Nat) (s : State) : flQualify f s = if s.operating = true ∧ s.islandUp = true then
      (if ∃ v, f = some v ∧ (s.fNom : Int) - s.par.restore.band ≤ v then
        (if s.fl.qualTimer = .stopped ∧ s.fl.qualified = false then { s with fl := { s.fl with
          qualTimer := .running s.tb (s.par.restore.time * (if s.cr.mode = .autonomous then 3 else 1) * 10000000) } }
        else s)
      else { s with fl := { s.fl with qualTimer := .stopped, qualified := false } })
    else s := by
  have hidle : (!s.fl.qualTimer.isRunning && !s.fl.qualified) = true ↔ s.fl.qualTimer = .stopped ∧ s.fl.qualified = false := by
    cases s.fl.qualTimer <;> simp [Timer.isRunning]
  unfold flQualify
  refine if_congr (Bool.and_eq_true_iff) ?_ rfl
  cases f with
  | none => exact (if_neg nofun).trans (if_neg (by simp)).symm
  | some v => exact if_congr (by simp) (if_congr hidle rfl rfl) rfl

/-- The restore qualification writes its timer and its flag alone. -/
theorem flQualify_ladder (f : Option Nat) (s : State) :
    ∃ x b, flQualify f s = { s with fl := { s.fl with qualTimer := x, qualified := b } } := by
  rw [flQualify_eq]
  split
  · split
    · split
      · exact ⟨_, s.fl.qualified, rfl⟩
      · exact ⟨s.fl.qualTimer, s.fl.qualified, rfl⟩
    · exact ⟨.stopped, false, rfl⟩
  · exact ⟨s.fl.qualTimer, s.fl.qualified, rfl⟩

/-- The ladder on a record keeps what its trips keep. -/
theorem flRecord_keeps {P : State → Prop} (h : LadderKeeps P) (hs : P s) : P (flRecord f s) := by
  have hstage (s : State) (k : Port) (hs : P s) : P (flStage f s k) := by
    unfold flStage
    dsimp only
    split
    · exact flTripAll_keeps h _ (fun hd => by cases hd) _ (h.ladder _ (h.ladder _ hs))
    · exact h.ladder _ hs
  have hstages : P (if s.operating then Port.all.foldl (flStage f) s else s) := by
    split
    · exact foldl_keeps hstage Port.all hs
    · exact hs
  unfold flRecord
  split
  · obtain ⟨x, b, hx⟩ := flQualify_ladder f (if s.operating then Port.all.foldl (flStage f) s else s)
    rw [hx]
    exact h.ladder _ hstages
  · exact hs

/-- The station that a closed cycle hands over: the measurement unit, the time base and the level of the bus comparator alone. -/
def State.atRecord (s : State) (t : Tick) (m : Mu) (hi : Bool) : State :=
  { s with tb := t, mu := m, tac := { s.tac with c0High := hi } }

/-- What closes the cycle hands its record to the ladder, to the black start coordinator and to the set, in that order (R15, log 10). -/
theorem exec_closes {c : Instr} (h : s.closesCycle c t) : ∃ m hi r, m.latest = some r ∧
    exec c s = .next (dsRecord r (bscRecord r.busCondition (flRecord r.f (s.atRecord t m hi)))) := by
  obtain ⟨hrun, hstarted, ⟨x, rfl, hcapture⟩ | ⟨rfl, hdue⟩⟩ := h
  · refine ⟨(muCloseCycle t .capture { s.stamp t with tac := { s.tac with c0High := true } }).mu, true, _, rfl, ?_⟩
    refine (whileRunning_runs _ hrun : execC0Capture ⟨t, x⟩ s = _).trans ?_
    simp only [hcapture, if_true]
    exact congrArg _ (if_pos hstarted)
  · exact ⟨(muCloseCycle t .synthetic ((s.stamp t).cancel .synthetic)).mu, s.tac.c0High, _, rfl,
      onExpiry_due (id := .synthetic) _ hrun hdue⟩

/-- While the island is not RECOVER the ladder's work on a record leaves what is not its own. -/
theorem flRecord_offLadder (h : s.bsc.island ≠ some .recover) : (flRecord f s).offLadder = s.offLadder :=
  flRecord_keeps (offLadder_keeps h) rfl

theorem offLadder_par (h : u.offLadder = v.offLadder) : u.par = v.par := by have := congrArg State.par h; exact this
theorem offLadder_level (h : u.offLadder = v.offLadder) (i : InputLine) : u.level i = v.level i :=
  State.level_eq (kept_inputs (offLadder_kept h)) i
theorem offLadder_srcClose (h : u.offLadder = v.offLadder) : u.pulse .srcClose = v.pulse .srcClose := by
  have := congrArg (fun x : State => x.pulse .srcClose) h; exact this
theorem offLadder_srcTrip (h : u.offLadder = v.offLadder) : u.pulse .srcTrip = v.pulse .srcTrip := by
  have := congrArg (fun x : State => x.pulse .srcTrip) h; exact this

/-- A record is good for synchronising (R108). -/
theorem syncGood_iff {p : Params} {r : CycleRecord} (hsrc : r.srcCondition = .live) : syncGood p r = true ↔
    ∃ x bus src, r.sync = some x ∧ r.busRms = some bus ∧ r.srcRms = some src ∧
      (2 * p.black.liveLevel + 1) * p.station.nominalV ≤ 32 * bus ∧ x.slip.natAbs ≤ p.diesel.slipWindow ∧
      x.predicted.natAbs ≤ p.diesel.phaseWindow ∧
      100 * ((src : Int) - bus).natAbs ≤ p.diesel.voltageWindow * p.station.nominalV := by
  unfold syncGood
  split
  next x bus src hsync hbus hrms =>
    simp [hsync, hbus, hrms, hsrc, and_assoc]
  next hnone =>
    refine ⟨nofun, ?_⟩
    rintro ⟨x, bus, src, hsync, hbus, hrms, -⟩
    exact absurd hrms (hnone x bus src hsync hbus)

/-- A record of a live source in SYNC, with the engine running, is judged. -/
theorem dsRecord_of_sync {r : CycleRecord} (h : s.ds.state = some .sync) (hsrc : r.srcCondition = .live)
    (hrun : s.level .runFb = .asserted) : dsRecord r s = dsJudgeSync r s := by
  have hreleased : s.released .runFb = false := by simp [State.released, hrun]
  simp only [dsRecord, h, hsrc, hreleased]
  rfl

/-- The judgement in SYNC (R108). -/
theorem dsJudgeSync_leaves {r : CycleRecord} (h : s.ds.state = some .sync) (hphase : s.permitPhase ≠ .hold)
    (hclose : s.pulse .srcClose = .idle) (htrip : s.pulse .srcTrip = .idle) (hlevel : s.level .srcCb ≠ .asserted) :
    let u := dsJudgeSync r s
    (syncGood s.par r = true → s.ds.good + 1 < s.par.diesel.syncCount → u.ds.state = some .sync ∧ u.ds.good = s.ds.good + 1) ∧
    (syncGood s.par r = true → s.par.diesel.syncCount ≤ s.ds.good + 1 → u.ds.state = some .closing ∧ u.ds.timers.sync = .stopped ∧
      (u.pulse .srcClose).isActive = true ∧ (u.window .source).isWatching = true) ∧
    (¬ syncGood s.par r = true → u.ds.state = some .sync ∧ u.ds.good = 0) := by
  intro u
  refine ⟨fun hgood hfew => ?_, fun hgood hmany => ?_, fun hbad => ?_⟩
  · have hu : u = { s with ds := { s.ds with good := s.ds.good + 1 } } := (if_pos hgood).trans (if_neg (Nat.not_le.2 hfew))
    rw [hu]
    exact ⟨h, rfl⟩
  · have hu : u = dsCloseFromSync { s with ds := { s.ds with good := s.ds.good + 1 } } := (if_pos hgood).trans (if_pos hmany)
    rw [hu, dsCloseFromSync, requestClose_source_idle (s := { s with ds := { s.ds with good := s.ds.good + 1 } }) _ hclose htrip hlevel]
    dsimp only
    rw [dsEnterClosing_waits (s := State.closeBegun { s with ds := { s.ds with good := s.ds.good + 1 } } _) false hphase]
    exact ⟨rfl, rfl, rfl, rfl⟩
  · have hu : u = { s with ds := { s.ds with good := 0 } } := if_neg hbad
    rw [hu]
    exact ⟨h, rfl⟩

/-- A live bus under a LIVE island with no session is nothing to the black start coordinator. -/
theorem bscRecord_of_live (hreconstructed : s.bsc.reconstructed = true) (hisland : s.bsc.island = some .live)
    (hphase : s.permitPhase = .idle) : bscRecord .live s = s := by
  have hlive : bscBusLive .live s = s := by simp [bscBusLive, State.contending, hphase]
  rw [bscRecord, if_pos hreconstructed, hlive, bscFollow_of_live hisland, if_neg nofun]

/-- Settles O39, the judgement of a record. -/
theorem syncRecord_judged {swing : Swing} (hcloses : s.closesCycle (.c0Capture ⟨t, swing⟩) t) (hstate : s.ds.state = some .sync)
    (hreconstructed : s.bsc.reconstructed = true) (hisland : s.bsc.island = some .live) (hphase : s.permitPhase = .idle)
    (hrun : s.level .runFb = .asserted) (hlevel : s.level .srcCb = .released) (hclose : s.pulse .srcClose = .idle)
    (htrip : s.pulse .srcTrip = .idle) :
    ∃ u r, exec (.c0Capture ⟨t, swing⟩) s = .next u ∧ u.mu.latest = some r ∧
      (r.busCondition = .live → r.srcCondition = .live →
        (syncGood s.par r = true → s.ds.good + 1 < s.par.diesel.syncCount → u.ds.state = some .sync ∧ u.ds.good = s.ds.good + 1) ∧
        (syncGood s.par r = true → s.par.diesel.syncCount ≤ s.ds.good + 1 → u.ds.state = some .closing ∧
          u.ds.timers.sync = .stopped ∧ (u.pulse .srcClose).isActive = true ∧ (u.window .source).isWatching = true) ∧
        (¬ syncGood s.par r = true → u.ds.state = some .sync ∧ u.ds.good = 0)) := by
  obtain ⟨m, hi, r, hr, hexec⟩ := exec_closes hcloses
  have hside := flRecord_offLadder (f := r.f) (s := s.atRecord t m hi) (by
    change s.bsc.island ≠ _
    rw [hisland]
    nofun)
  have hkept := offLadder_kept hside
  generalize hw : flRecord r.f (s.atRecord t m hi) = w at hexec hside hkept
  have hmu : w.mu = m := kept_mu hkept
  refine ⟨_, r, hexec, ?_, fun hbus hsrc => ?_⟩
  · rw [kept_mu ((dsRecord_kept _ _).trans (bscRecord_kept _ _)), hmu, hr]
  · have hbsc : w.bsc = s.bsc := (offLadder_bsc hside :)
    have hds : w.ds = s.ds := (offLadder_ds hside :)
    have hpar : w.par = s.par := (offLadder_par hside :)
    have hquietSession : w.permitPhase = .idle := by rw [State.permitPhase, hbsc, ← State.permitPhase, hphase]
    have hquiet : bscRecord r.busCondition w = w := by
      rw [hbus]
      exact bscRecord_of_live (hbsc ▸ hreconstructed) (hbsc ▸ hisland) hquietSession
    have hrun : w.level .runFb = .asserted := by
      rw [offLadder_level hside]
      exact hrun
    have hnot : w.level .srcCb ≠ .asserted := by
      rw [offLadder_level hside, show (s.atRecord t m hi).level .srcCb = .released from hlevel]
      nofun
    have hidleClose : w.pulse .srcClose = .idle := by
      rw [offLadder_srcClose hside]
      exact hclose
    have hidleTrip : w.pulse .srcTrip = .idle := by
      rw [offLadder_srcTrip hside]
      exact htrip
    rw [hquiet, dsRecord_of_sync (by rw [hds, hstate]) hsrc hrun, ← hpar, ← hds]
    exact dsJudgeSync_leaves (by rw [hds, hstate]) (by rw [hquietSession]; nofun)
      hidleClose hidleTrip hnot
end

section
variable {s u v : State} {t : Tick} {x : Timer}

/-! ### SRC_CB asserted -/

/-- A change of state that ends HOLD releases PERMIT. -/
theorem dsEnter_session (st : DieselState) (s : State) : ∃ x pull edges stuck,
    (s.ds.state = some .online → st ≠ .online → s.permitPhase = .hold → x.phase = .idle ∧ pull = false) ∧
    dsEnter st s = { s.withSession x pull edges stuck with ds := s.ds.enter st } := by
  unfold dsEnter
  dsimp only
  split
  · exact ⟨_, _, _, _, fun _ _ _ => ⟨rfl, rfl⟩, rfl⟩
  next hnot =>
    refine ⟨s.bsc.session, s.tac.permitPull, s.tac.permitEdges, s.tac.alarm.permitStuck, fun hst hne hphase => absurd ?_ hnot, rfl⟩
    simp [State.dieselIs, hst, hne, hphase]

/-- The forced stop: STOP-INTENT, with HOLD ended (R100, R171). -/
theorem dsForcedStop_eq (s : State) : ∃ x pull edges stuck link,
    (s.ds.state = some .online → s.permitPhase = .hold → x.phase = .idle ∧ pull = false) ∧
    dsForcedStop s = { s.withSession x pull edges stuck with
      ilc := link
      ds := { s.ds.enter .stopIntent with
        forcedStop := true, intent := some (.stop, s.tb)
        timers := { s.ds.timers with stop := .stopped, window := .running s.tb (s.par.diesel.intentWindow * 10000) } } } := by
  obtain ⟨x, pull, edges, stuck, hends, henter⟩ := dsEnter_session .stopIntent { s with ds := { s.ds with forcedStop := true } }
  obtain ⟨link, -, hopen⟩ := openIntent_eq .stop ((dsEnter .stopIntent { s with ds := { s.ds with forcedStop := true } }).cancel .stop)
  refine ⟨x, pull, edges, stuck, link, fun hst => hends hst nofun, hopen.trans ?_⟩
  rw [henter]
  rfl

/-- The session that a confirmed dead-bus close leaves (R171). -/
theorem bscConfirmed_eq (s : State) : ∃ x, (s.permitPhase = .close → x.phase = .hold ∧
      (s.islandUp = true → x.hold = .running s.tb (s.par.black.permitHold * 10000)) ∧
      (s.islandUp = false → x.liveWait = .running s.tb (s.par.black.permitTimeout * 10000000))) ∧
    bscConfirmed s = { s with bsc := { s.bsc with session := x } } := by
  unfold bscConfirmed
  split
  · dsimp only
    split
    next hup => exact ⟨_, fun _ => ⟨rfl, fun _ => rfl, fun hdown => absurd (show s.islandUp = true from hup) (by rw [hdown]; nofun)⟩, rfl⟩
    next hdown => exact ⟨_, fun _ => ⟨rfl, fun hup => absurd hup hdown, fun _ => rfl⟩, rfl⟩
  next hphase => exact ⟨s.bsc.session, fun h => absurd h hphase, rfl⟩

/-- A close confirmed in CLOSING: ONLINE, the report of a dead-bus close, and the forced stop where INHIBIT calls for it (R100, R111). -/
theorem dsConfirmed_of_closing (h : s.ds.state = some .closing) : ∃ x b,
    (s.ds.deadBusClose = false → x = s.bsc.session) ∧
    (s.ds.deadBusClose = true → b = true ∧ (s.permitPhase = .close → x.phase = .hold ∧
      (s.islandUp = true → x.hold = .running s.tb (s.par.black.permitHold * 10000)) ∧
      (s.islandUp = false → x.liveWait = .running s.tb (s.par.black.permitTimeout * 10000000)))) ∧
    dsConfirmed s = if (s.ds.closingInhibit || s.asserted .inhibit) && s.operating then
        dsForcedStop { s with ds := { s.ds.enter .online with deadBusOnline := b }, bsc := { s.bsc with session := x } }
      else { s with ds := { s.ds.enter .online with deadBusOnline := b }, bsc := { s.bsc with session := x } } := by
  have hdef : dsConfirmed s = if (s.ds.closingInhibit || s.asserted .inhibit) && s.operating then
        dsForcedStop (if s.ds.deadBusClose then bscConfirmed { dsEnter .online s with
          ds := { (dsEnter .online s).ds with deadBusOnline := true } } else dsEnter .online s)
      else if s.ds.deadBusClose then bscConfirmed { dsEnter .online s with
          ds := { (dsEnter .online s).ds with deadBusOnline := true } } else dsEnter .online s := by
    simp only [dsConfirmed, h]
  rw [dsEnter_of_not_online _ (by rw [h]; nofun)] at hdef
  cases hdead : s.ds.deadBusClose with
  | false => exact ⟨s.bsc.session, (s.ds.enter .online).deadBusOnline, fun _ => rfl, nofun, by rw [hdef, hdead]; rfl⟩
  | true =>
    obtain ⟨x, hx, hconfirmed⟩ := bscConfirmed_eq { s with ds := { s.ds.enter .online with deadBusOnline := true } }
    exact ⟨x, true, nofun, fun _ => ⟨rfl, hx⟩, by rw [hdef, hdead, if_pos rfl, hconfirmed]⟩

/-- Settles O39, the confirmed close. -/
theorem closeConfirmed_online (h : s.qualifies .srcCb true) (hstate : s.ds.state = some .closing)
    (hwindow : s.window .source = .watching .ds true x) :
    let forced := s.operating = true ∧ (s.ds.closingInhibit = true ∨ s.level .inhibit = .asserted)
    ∃ u, exec (.inputQualified .srcCb) s = .next u ∧ u.window .source = .closedOut ∧ u.ds.bias = s.ds.bias ∧
      (∀ c, u.pulse c = s.pulse c) ∧ u.fl = s.fl ∧ u.sc = s.sc ∧ u.kept = (s.qualify .srcCb true).kept ∧
      (¬ forced → u.ds.state = some .online ∧ u.ds.timers = s.ds.timers ∧ u.ds.forcedStop = s.ds.forcedStop ∧ u.ilc = s.ilc ∧
        (s.ds.deadBusClose = false → u.bsc = s.bsc) ∧
        (s.ds.deadBusClose = true → u.ds.deadBusOnline = true ∧ (s.permitPhase = .close → u.permitPhase = .hold ∧
          u.tac.permitPull = s.tac.permitPull ∧
          (s.islandUp = true → u.bsc.session.hold = .running s.tb (s.par.black.permitHold * 10000)) ∧
          (s.islandUp = false → u.bsc.session.liveWait = .running s.tb (s.par.black.permitTimeout * 10000000))))) ∧
      (forced → u.ds.state = some .stopIntent ∧ u.ds.forcedStop = true ∧ u.ds.intent = some (.stop, s.tb) ∧
        u.ds.timers.window = .running s.tb (s.par.diesel.intentWindow * 10000) ∧
        (s.ds.deadBusClose = true → s.permitPhase = .close → u.permitPhase = .idle ∧ u.tac.permitPull = false)) := by
  intro forced
  have hexec : exec (.inputQualified .srcCb) s = .next (dsConfirmed ((s.qualify .srcCb true).putWindow .source .closedOut)) :=
    (exec_inputQualified h).trans (congrArg _ (breakerQualified_source_confirms (s := s.qualify .srcCb true) hwindow))
  obtain ⟨y, b, hplain, hdead, hconfirmed⟩ := dsConfirmed_of_closing (s := (s.qualify .srcCb true).putWindow .source .closedOut) hstate
  have hforced : ((s.ds.closingInhibit || s.asserted .inhibit) && s.operating) = true ↔ forced := by
    simp [forced, State.asserted, and_comm]
  have hkept : (dsConfirmed ((s.qualify .srcCb true).putWindow .source .closedOut)).kept = (s.qualify .srcCb true).kept :=
    dsConfirmed_kept _
  refine ⟨_, hexec, ?_⟩
  by_cases hf : forced
  · rw [if_pos (by exact hforced.2 hf)] at hconfirmed
    obtain ⟨z, pull, edges, stuck, link, hends, hstop⟩ := dsForcedStop_eq { (s.qualify .srcCb true).putWindow .source .closedOut with
      ds := { s.ds.enter .online with deadBusOnline := b }, bsc := { s.bsc with session := y } }
    have hu := hconfirmed.trans hstop
    rw [hu] at hkept ⊢
    exact ⟨rfl, rfl, fun c => by cases c <;> rfl, rfl, rfl, hkept, fun hn => absurd hf hn, fun _ => ⟨rfl, rfl, rfl, rfl,
      fun hd hphase => hends rfl ((hdead hd).2 hphase).1⟩⟩
  · rw [if_neg (by exact fun hn => hf (hforced.1 hn))] at hconfirmed
    rw [hconfirmed] at hkept ⊢
    refine ⟨rfl, rfl, fun c => by cases c <;> rfl, rfl, rfl, hkept, fun _ => ⟨rfl, rfl, rfl, rfl, fun hd => ?_, fun hd => ?_⟩,
      fun hy => absurd hy hf⟩
    · exact congrArg (fun y => { s.bsc with session := y }) (hplain hd)
    · obtain ⟨hb, hsession⟩ := hdead hd
      exact ⟨hb, fun hphase => ⟨(hsession hphase).1, rfl, (hsession hphase).2⟩⟩

/-- A set that no running engine of its own makes ONLINE when its breaker is found closed (R118). -/
def State.closesUnasked (s : State) : Prop :=
  s.ds.state = some .standby ∨ s.ds.state = some .intent ∨ s.ds.state = some .crank ∨ s.ds.state = some .rest ∨
    s.ds.state = some .spool ∨ s.ds.state = some .arbitrate ∨ s.ds.state = some .cooldown ∨
    s.ds.state = some .sync ∧ s.level .runFb ≠ .asserted

theorem dsSrcAsserted_of_unasked (h : s.closesUnasked) : dsSrcAsserted s = dsUnexpectedClose s := by
  unfold dsSrcAsserted
  obtain h | h | h | h | h | h | h | ⟨h, hrun⟩ := h <;> rw [h]
  exact if_neg (by simpa [State.asserted] using hrun)

theorem State.closesUnasked.not_online (h : s.closesUnasked) : s.ds.state ≠ some .online := by
  obtain h | h | h | h | h | h | h | ⟨h, -⟩ := h <;> rw [h] <;> nofun

/-- The trip, the withdrawal and FAILED at a breaker found closed (R118). -/
theorem dsUnexpectedClose_leaves (h : s.ds.state ≠ some .online) :
    let u := dsUnexpectedClose s
    u.isFailed ∧ u.pulse .crank = .idle ∧ (u.pulse .srcTrip).isActive = true ∧
      (s.pulse .srcTrip = .idle → s.level .srcCb ≠ .released → u.pulse .srcClose = .idle ∧
        u.window .source = .watching .ds false (.running s.tb (s.par.diesel.confirmTime * 10000))) ∧
      (s.ds.state = some .arbitrate → s.contending = true → u.permitPhase = .idle ∧ u.tac.permitPull = false) ∧
      u.kept = s.kept ∧ u.fl = s.fl ∧ u.ilc = s.ilc ∧ u.sc = s.sc := by
  intro u
  have hwithdraw := dsWithdraw_offSet s
  have hleft := State.offIsland_of_offSet hwithdraw
  have hpar : (dsWithdraw s).par = s.par ∧ (dsWithdraw s).tb = s.tb ∧ (dsWithdraw s).level .srcCb = s.level .srcCb := by
    unfold dsWithdraw bscWithdraw
    (repeat' split) <;> exact ⟨rfl, rfl, rfl⟩
  obtain ⟨hpar, htb, hlevel⟩ := hpar
  obtain ⟨tac, htrip⟩ := dsTrip_tac true (dsWithdraw s)
  have hside : u.offSet = (dsTrip true (dsWithdraw s)).2.offSet := dsEnterFailed_offSet _
  obtain ⟨hactive, -⟩ := dsTrip_pulses true (dsWithdraw s)
  have hnot : (dsTrip true (dsWithdraw s)).2.ds.state ≠ some .online := by
    rw [htrip]
    exact (congrArg Ds.state (dsWithdraw_ds s)).trans_ne h
  have hpulse {c : PulseChannel} (hc : c ≠ .crank) : u.pulse c = (dsTrip true (dsWithdraw s)).2.pulse c := offSet_pulse hside hc
  have hkept : u.kept = s.kept := (dsUnexpectedClose_kept s :)
  refine ⟨dsEnterFailed_isFailed _, rfl, ?_, fun hidle hclosed => ?_, fun harb hcontend => ?_, hkept, ?_, ?_, ?_⟩
  · rw [hpulse (c := .srcTrip) nofun]
    exact hactive
  · obtain ⟨v, hv, -, hclose, -, hwindow⟩ := requestTrip_taken (s := dsWithdraw s) (b := .source) rfl (by
      rw [show (dsWithdraw s).pulse (tripChannel .source) = s.pulse .srcTrip from offSet_pulse hwithdraw nofun, hidle]
      rfl) .ds (dsWithdraw s).par.diesel.pulse
    have htaken : (dsTrip true (dsWithdraw s)).2 = v := congrArg Prod.snd hv
    rw [hpulse (c := .srcClose) nofun, offIsland_window (State.offIsland_of_offSet hside), htaken]
    rw [show (dsWithdraw s).level (positionInput .source) = s.level .srcCb from hlevel, if_neg hclosed, hpar, htb] at hwindow
    exact ⟨hclose, hwindow⟩
  · have hsession := (dsWithdraw_leaves harb).2 hcontend
    have hpull : (dsTrip true (dsWithdraw s)).2.tac.permitPull = (dsWithdraw s).tac.permitPull := by
      obtain ⟨-, -, tac', h', htac'⟩ := sameButBreaker_dsTrip true (dsWithdraw s)
      rw [h', htac']
      rfl
    have hu : u = _ := dsEnterFailed_eq hnot
    rw [hu]
    refine ⟨?_, hpull.trans hsession.2⟩
    rw [htrip]
    exact hsession.1
  · rw [offIsland_fl (State.offIsland_of_offSet hside), htrip]
    exact (offIsland_fl hleft :)
  · rw [offIsland_ilc (State.offIsland_of_offSet hside), htrip]
    exact (offIsland_ilc hleft :)
  · rw [offIsland_sc (State.offIsland_of_offSet hside), htrip]
    exact (offIsland_sc hleft :)

/-- SRC_CB asserted at a station without a solar source, where no window waits for it. -/
theorem exec_srcAsserted (h : s.qualifies .srcCb true) (hwindow : ∀ r x, s.window .source ≠ .watching r true x)
    (hsc : (dsSrcAsserted (s.qualify .srcCb true)).sc.state = none) :
    exec (.inputQualified .srcCb) s = .next (dsSrcAsserted (s.qualify .srcCb true)) := by
  refine (exec_inputQualified h).trans (congrArg _ ?_)
  refine (breakerQualified_source_changed (s := s.qualify .srcCb true) hwindow).trans ?_
  simp [sourceChanged, scAsserted, State.solarIs, hsc]

/-- Settles O39: the record in SYNC, the confirmed close, and the close that was not asked for. -/
theorem syncCyclesCount : Obligations.SyncCyclesCount := by
  refine ⟨fun t swing s hcloses hstate hrec hisland hphase hrun hlevel hclose htrip => ?_, fun x s => closeConfirmed_online,
    fun s hq hsc hwindow => ?_⟩
  · obtain ⟨u, r, hexec, hr, hjudged⟩ := syncRecord_judged hcloses hstate hrec hisland hphase hrun hlevel hclose htrip
    refine ⟨u, r, hexec, hr, fun hbus hsrc => ?_⟩
    have hgood := syncGood_iff (p := s.par) hsrc
    obtain ⟨hcounts, hrequests, hagain⟩ := hjudged hbus hsrc
    exact ⟨fun h => hcounts (hgood.2 h), fun h => hrequests (hgood.2 h), fun h => hagain (mt hgood.1 h)⟩
  · intro n unexpected
    refine ⟨fun hstate hrun => ?_, fun hunasked => ?_, fun hstate => ?_⟩
    · have honline : dsSrcAsserted n = { n with ds := { s.ds with timers := { s.ds.timers with sync := .stopped } }.enter .online } := by
        unfold dsSrcAsserted
        rw [show n.ds.state = some .sync from hstate]
        refine (if_pos (beq_iff_eq.2 hrun)).trans ?_
        rw [dsEnter_of_not_online _ (by exact fun h => nomatch hstate.symm.trans h)]
        rfl
      have hkept : (dsSrcAsserted n).kept = n.kept := dsSrcAsserted_kept n
      have hexec := exec_srcAsserted hq hwindow (by rw [show dsSrcAsserted (s.qualify .srcCb true) = _ from honline]; exact hsc)
      exact ⟨_, hexec.trans (congrArg _ honline), rfl, rfl, rfl, fun c => by cases c <;> rfl, honline ▸ hkept, rfl, rfl⟩
    · have hunasked : n.closesUnasked := hunasked
      obtain ⟨⟨hfailed, hlocked, hclear, -, -⟩, hcrank, htrip, hopens, hsession, hkept, hfl, hilc, hside⟩ :=
        dsUnexpectedClose_leaves hunasked.not_online
      have hexec := exec_srcAsserted hq hwindow (by
        rw [dsSrcAsserted_of_unasked (s := s.qualify .srcCb true) hunasked, show _ = n.sc from hside]
        exact hsc)
      exact ⟨_, hexec.trans (congrArg _ (dsSrcAsserted_of_unasked hunasked)), hfailed, hlocked, hclear, hcrank, htrip,
        fun hidle => hopens hidle (by exact nofun), hsession, hkept, hfl, hilc⟩
    · have hstands : dsSrcAsserted n = n := by
        unfold dsSrcAsserted
        obtain h | h := hstate <;> rw [show n.ds.state = _ from h]
      have hexec := exec_srcAsserted hq hwindow (by rw [show dsSrcAsserted (s.qualify .srcCb true) = _ from hstands]; exact hsc)
      exact hexec.trans (congrArg _ hstands)
end

end Sys2Proof.Machine
end

section
/-! SUPPORT. The island ranking and shedding. -/

namespace Sys2Proof.Machine

section
variable {α : Type} {s : State} {p q : Port} {t : Tick}

/-! ### The island ranking (R145) -/

theorem sortBy_perm (before : α → α → Bool) (l : List α) : (sortBy before l).Perm l := by
  have hinsert (a : α) (l : List α) : (insertBy before a l).Perm (a :: l) := by
    induction l with
    | nil => exact .refl _
    | cons b l ih =>
      unfold insertBy
      split
      · exact .refl _
      · exact (ih.cons b).trans (.swap a b l)
  induction l with
  | nil => exact .refl _
  | cons a l ih => exact (hinsert a _).trans (ih.cons a)

/-- In an ordered list none comes before one that stands ahead of it. -/
theorem sortBy_pairwise {before : α → α → Bool} (hirrefl : ∀ a, before a a = false)
    (htrans : ∀ a b c, before a b = true → before b c = true → before a c = true) (l : List α) :
    (sortBy before l).Pairwise fun a b => before b a = false := by
  have hinsert (a : α) (l : List α) (hl : l.Pairwise fun a b => before b a = false) :
      (insertBy before a l).Pairwise fun a b => before b a = false := by
    induction l with
    | nil => exact List.pairwise_singleton _ _
    | cons b l ih =>
      obtain ⟨hb, hl⟩ := List.pairwise_cons.1 hl
      unfold insertBy
      split
      next hab =>
        refine List.pairwise_cons.2 ⟨fun y hy => Bool.eq_false_iff.2 fun hya => ?_, List.pairwise_cons.2 ⟨hb, hl⟩⟩
        have hyb := htrans y a b hya hab
        obtain rfl | hy := List.mem_cons.1 hy
        · exact Bool.false_ne_true ((hirrefl _).symm.trans hyb)
        · exact Bool.false_ne_true ((hb y hy).symm.trans hyb)
      next hab =>
        refine List.pairwise_cons.2 ⟨fun y hy => ?_, ih hl⟩
        obtain rfl | hy := (mem_insertBy _ _ _ _).1 hy
        · exact Bool.eq_false_iff.2 hab
        · exact hb y hy
  induction l with
  | nil => exact .nil
  | cons a l ih => exact hinsert a _ ih

theorem RankRow.before_iff {a b : RankRow} : a.before b = true ↔ a.shedRank < b.shedRank ∨
    a.shedRank = b.shedRank ∧ (a.address < b.address ∨ a.address = b.address ∧ a.port < b.port) := by
  simp [RankRow.before]

theorem RankRow.before_irrefl (a : RankRow) : a.before a = false := by
  rw [Bool.eq_false_iff, Ne, RankRow.before_iff]
  omega

theorem RankRow.before_trans (a b c : RankRow) (hab : a.before b = true) (hbc : b.before c = true) : a.before c = true := by
  rw [RankRow.before_iff] at *
  omega

/-- A row lies in the part shed for a demand exactly where the loads ahead of it fall short of the demand. -/
theorem mem_rankPrefix {x : RankRow} {l₁ l₂ : List RankRow} (hx : x ∉ l₁) (d : Int) :
    x ∈ rankPrefix d (l₁ ++ x :: l₂) ↔ (((l₁.map (·.load)).sum : Nat) : Int) < d := by
  induction l₁ generalizing d with
  | nil =>
    rw [List.nil_append, rankPrefix]
    split
    · simpa using ‹d ≤ 0›
    · simpa using ‹¬ d ≤ 0›
  | cons y l₁ ih =>
    obtain ⟨hne, hx⟩ := not_or.1 (mt List.mem_cons.2 hx)
    rw [List.cons_append, rankPrefix, List.map_cons, List.sum_cons]
    split
    · refine iff_of_false List.not_mem_nil ?_
      omega
    · rw [List.mem_cons, or_iff_right hne, ih hx]
      omega

theorem rankPrefix_subset {x : RankRow} {d : Int} {l : List RankRow} (h : x ∈ rankPrefix d l) : x ∈ l := by
  induction l generalizing d with
  | nil => exact h
  | cons y l ih =>
    rw [rankPrefix] at h
    split at h
    · nomatch h
    · obtain rfl | h := List.mem_cons.1 h
      · exact List.mem_cons_self
      · exact List.mem_cons_of_mem _ (ih h)

/-- The row of an own port. -/
def State.ownRow (s : State) (p : Port) : RankRow :=
  ⟨(s.par.port.get p).shedRank, s.address, p.num, ((s.port p).map (·.load)).getD 0, some p⟩

/-- The load of the rows ahead of an own port in the island ranking. -/
def State.loadAhead (s : State) (p : Port) : Nat :=
  ((s.ownRankRows ++ s.peerRankRows).map fun x => if x.before (s.ownRow p) then x.load else 0).sum

theorem mem_ownRankRows {x : RankRow} : x ∈ s.ownRankRows ↔ ∃ q, s.isClosedOrClosing q = true ∧ s.ownRow q = x := by
  simp only [State.ownRankRows, List.mem_filterMap, Port.mem_all, true_and, Option.ite_none_right_eq_some, Option.some.injEq]
  rfl

/-- No entry of the view has the own address. -/
def State.peersApart (s : State) : Prop := ∀ e ∈ s.view, e.address ≠ s.address

theorem State.peersApart_of_formed (h : s.tableFormed) : s.peersApart := by
  obtain ⟨-, -, hrange, -⟩ := h
  exact fun e he => (hrange e (State.mem_view.1 he).2.1).2

theorem mem_peerRankRows {x : RankRow} (hpeers : s.peersApart) (hx : x ∈ s.peerRankRows) : x.address ≠ s.address ∧ x.own = none := by
  simp only [State.peerRankRows, List.mem_flatMap, List.mem_map] at hx
  obtain ⟨e, he, r, -, rfl⟩ := hx
  exact ⟨hpeers e he, rfl⟩

theorem Port.num_injective (h : p.num = q.num) : p = q := by
  cases p <;> cases q <;> simp_all [Port.num]

/-- An own port that draws lies in the part shed for a demand exactly where the loads ahead of it fall short (R145). -/
theorem mem_ownPrefix (hpeers : s.peersApart) (hp : s.isClosedOrClosing p = true) (d : Int) :
    p ∈ s.ownPrefix d ↔ (s.loadAhead p : Int) < d := by
  have hmem : s.ownRow p ∈ s.ranking := (mem_sortBy _ _ _).2 (List.mem_append_left _ (mem_ownRankRows.2 ⟨p, hp, rfl⟩))
  have hcases {x : RankRow} (hx : x ∈ s.ranking) : (∃ q, s.ownRow q = x) ∨ x.address ≠ s.address ∧ x.own = none := by
    obtain hx | hx := List.mem_append.1 ((mem_sortBy _ _ _).1 hx)
    · obtain ⟨q, -, rfl⟩ := mem_ownRankRows.1 hx
      exact .inl ⟨q, rfl⟩
    · exact .inr (mem_peerRankRows hpeers hx)
  have htie {x : RankRow} (hx : x ∈ s.ranking) (hbefore : ¬ x.before (s.ownRow p) = true)
      (hafter : (s.ownRow p).before x = false) : x = s.ownRow p := by
    rw [Bool.eq_false_iff, Ne, RankRow.before_iff] at hafter
    rw [RankRow.before_iff] at hbefore
    obtain ⟨q, rfl⟩ | ⟨haddress, -⟩ := hcases hx
    · have hnum : q.num = p.num := by
        simp only [State.ownRow, true_and] at hbefore hafter
        omega
      rw [Port.num_injective hnum]
    · refine absurd ?_ haddress
      simp only [State.ownRow] at hbefore hafter
      omega
  obtain ⟨l₁, l₂, hsplit, hfirst⟩ := List.eq_append_cons_of_mem hmem
  have hpair : s.ranking.Pairwise fun a b => b.before a = false := sortBy_pairwise RankRow.before_irrefl RankRow.before_trans _
  rw [hsplit, List.pairwise_append] at hpair
  obtain ⟨-, hlater, hcross⟩ := hpair
  have hahead : s.loadAhead p = (l₁.map (·.load)).sum := by
    have hsum : s.loadAhead p = (s.ranking.map fun x => if x.before (s.ownRow p) then x.load else 0).sum :=
      ((sortBy_perm _ _).map _).sum_eq.symm
    rw [hsum, hsplit, List.map_append, List.sum_append, List.map_cons, List.sum_cons, if_neg (by rw [RankRow.before_irrefl]; nofun)]
    have hzero : (l₂.map fun x => if x.before (s.ownRow p) then x.load else 0).sum = 0 := by
      refine List.sum_eq_zero fun n hn => ?_
      obtain ⟨x, hx, rfl⟩ := List.mem_map.1 hn
      exact if_neg (by rw [(List.pairwise_cons.1 hlater).1 x hx]; nofun)
    rw [hzero, Nat.add_zero]
    refine congrArg List.sum (List.map_congr_left fun x hx => if_pos ?_)
    by_contra hbefore
    have hx' : x ∈ s.ranking := by
      rw [hsplit]
      exact List.mem_append_left _ hx
    exact hfirst (htie hx' hbefore (hcross x hx _ List.mem_cons_self) ▸ hx)
  rw [hahead, ← mem_rankPrefix hfirst, ← hsplit, State.ownPrefix, List.mem_filterMap]
  refine ⟨?_, fun h => ⟨_, h, rfl⟩⟩
  rintro ⟨x, hx, hown⟩
  obtain ⟨q, rfl⟩ | ⟨-, hnone⟩ := hcases (rankPrefix_subset hx)
  · obtain rfl := Option.some.inj hown
    exact hx
  · rw [hnone] at hown
    cases hown
end

section
variable {s u v : State} {p q : Port} {r : PortRecord} {dest : Destination} {l : List Port}

/-! ### Trips of several ports -/

/-- A port that a trip finds drawing, with its trip channel IDLE, no LOCAL and a breaker not yet released. -/
def State.tripReady (s : State) (p : Port) (r : PortRecord) : Prop :=
  s.port p = some r ∧ r.trippable ∧ s.level (.feederLocal p) ≠ .asserted ∧ s.level (.feederCb p) ≠ .released ∧
    s.pulse (.feederTrip p) = .idle

/-- A port whose trip to a destination is under way. -/
def State.tripped (u : State) (p : Port) (dest : Destination) : Prop :=
  u.portState p = some .opening ∧ (u.port p).bind (·.destination) = some dest ∧ (u.pulse (.feederTrip p)).isActive = true ∧
    u.pulse (.feederClose p) = .idle

theorem portSide_port (h : u.portSide p = v.portSide p) : u.port p = v.port p := congrArg Prod.fst h
theorem portSide_close (h : u.portSide p = v.portSide p) : u.pulse (.feederClose p) = v.pulse (.feederClose p) :=
  congrArg (fun x => x.2.1) h
theorem portSide_trip (h : u.portSide p = v.portSide p) : u.pulse (.feederTrip p) = v.pulse (.feederTrip p) :=
  congrArg (fun x => x.2.2.1) h

theorem State.tripped_of_portSide (h : u.portSide p = v.portSide p) (hv : v.tripped p dest) : u.tripped p dest := by
  unfold State.tripped State.portState at hv ⊢
  rwa [portSide_port h, portSide_close h, portSide_trip h]

theorem State.tripReady_of_portSide (h : u.portSide p = v.portSide p) (hinputs : u.tac.inputs = v.tac.inputs)
    (hv : v.tripReady p r) : u.tripReady p r := by
  unfold State.tripReady at hv ⊢
  rwa [portSide_port h, portSide_trip h, State.level_eq hinputs, State.level_eq hinputs]

theorem flTrip_trips (h : s.tripReady p r) (dest : Destination) : (flTrip p dest s).2.tripped p dest := by
  obtain ⟨hport, hr, hlocal, hlevel, hidle⟩ := h
  obtain ⟨-, hside⟩ := flTrip_portSide_opening hport hr hlocal (by rw [hidle]; rfl) hlevel dest
  have hrecord : (flTrip p dest s).2.port p = some (s.openingRecord p r dest) := congrArg Prod.fst hside
  refine ⟨?_, ?_, ?_, congrArg (fun x => x.2.1) hside⟩
  · rw [State.portState, hrecord]
    rfl
  · rw [hrecord]
    rfl
  · rw [show (flTrip p dest s).2.pulse (.feederTrip p) = _ from congrArg (fun x => x.2.2.1) hside]
    rfl

/-- A port that is OPENING is not tripped again. -/
theorem flTrip_of_opening (h : s.portState p = some .opening) (dest : Destination) : (flTrip p dest s).2 = s := by
  unfold flTrip
  rw [if_neg (by simp [State.isClosedOrClosing, h])]

theorem flTripAll_portSide_other (hdest : dest ≠ .shed .rotation) (h : p ∉ l) : (flTripAll dest l s).portSide p = s.portSide p := by
  induction l generalizing s with
  | nil => rfl
  | cons q l ih =>
    obtain ⟨hne, h⟩ := not_or.1 (mt List.mem_cons.2 h)
    exact (ih h).trans (flTrip_portSide_other hne fun _ _ hd => absurd hd hdest)

theorem flTripAll_portSide_opening (hdest : dest ≠ .shed .rotation) (h : s.portState p = some .opening) :
    (flTripAll dest l s).portSide p = s.portSide p := by
  induction l generalizing s with
  | nil => rfl
  | cons q l ih =>
    have hside : (flTrip q dest s).2.portSide p = s.portSide p := by
      by_cases hq : p = q
      · rw [hq, flTrip_of_opening (hq ▸ h)]
      · exact flTrip_portSide_other hq fun _ _ hd => absurd hd hdest
    refine (ih ?_).trans hside
    rwa [State.portState, portSide_port hside]

/-- Trips of several ports take each of them that is ready. -/
theorem flTripAll_trips (hdest : dest ≠ .shed .rotation) (h : s.tripReady p r) (hp : p ∈ l) : (flTripAll dest l s).tripped p dest := by
  induction l generalizing s with
  | nil => nomatch hp
  | cons q l ih =>
    by_cases hq : p = q
    · subst hq
      have htrips := flTrip_trips h dest
      exact State.tripped_of_portSide (flTripAll_portSide_opening (s := (flTrip p dest s).2) hdest htrips.1) htrips
    · have hside : (flTrip q dest s).2.portSide p = s.portSide p := flTrip_portSide_other hq fun _ _ hd => absurd hd hdest
      exact ih (State.tripReady_of_portSide hside (kept_inputs (flTrip_kept s q dest)) h) ((List.mem_cons.1 hp).resolve_left hq)

/-! ### What the ladder's trips and closes leave of its record -/

/-- The stages, the restore qualification and the overload timer. -/
def Fl.aside (x : Fl) : Quad Stage × Timer × Bool × Timer := (x.stages, x.qualTimer, x.qualified, x.overload)

theorem flEnter_fl (p : Port) (st : PortState) (dest : Option Destination) (cause : Option ShedCause) (s : State) :
    (flEnter p st dest cause s).fl = (portEntered p st dest cause s).fl := offIsland_fl (flEnter_offIsland p st dest cause s)

theorem flEnter_aside (p : Port) (st : PortState) (dest : Option Destination) (cause : Option ShedCause) (s : State) :
    (flEnter p st dest cause s).fl.aside = s.fl.aside := by rw [flEnter_fl]; rfl

theorem sameButBreaker_aside {b : Breaker} (h : s.SameButBreaker b v) : v.fl.aside = s.fl.aside := congrArg Fl.aside h.fl

theorem flClose_aside (p : Port) (s : State) : (flClose p s).2.fl.aside = s.fl.aside := by
  unfold flClose
  split
  · split
    next _ confirmed v hv =>
      have hv : (v.modifyPort p fun r => { r with closeActive := true }).fl.aside = s.fl.aside :=
        (sameButBreaker_aside (sameButBreaker_of_requestClose hv) :)
      dsimp only
      split
      · rw [flCloseConfirmed, flEnter_aside, flEnter_aside, hv]
      · rw [flEnter_aside, hv]
    next v _ hv => exact sameButBreaker_aside (sameButBreaker_of_requestClose hv)
  · rfl

theorem flAnnounceStep_aside (p : Port) (s : State) : (flAnnounceStep p s).fl.aside = s.fl.aside := by
  unfold flAnnounceStep
  obtain ⟨-, h⟩ | ⟨-, h⟩ := s.placeFrame_cases .step (stepPayload p.num (s.par.port.get p).shedRank (s.coldLoadKw p)) <;> rw [h] <;> rfl

theorem flSwapClose_aside (w : Swap) (s : State) : (flSwapClose w s).fl.aside = s.fl.aside := by
  have hclose := flClose_aside w.closePort { s with fl := { s.fl with swap := some { w with step := .closing } } }
  unfold flSwapClose
  dsimp only
  split
  next v hv =>
    rw [hv] at hclose
    exact (flAnnounceStep_aside _ v).trans hclose
  next v hv =>
    rw [hv] at hclose
    exact hclose

theorem flOpenConfirmed_aside (p : Port) (s : State) : (flOpenConfirmed p s).fl.aside = s.fl.aside := by
  unfold flOpenConfirmed
  split
  · dsimp only
    split
    · split
      · rw [flSwapClose_aside, flEnter_aside]
      · exact flEnter_aside _ _ _ _ _
    · exact flEnter_aside _ _ _ _ _
  · exact flEnter_aside _ _ _ _ _
  · rfl

theorem flTrip_aside (p : Port) (dest : Destination) (s : State) : (flTrip p dest s).2.fl.aside = s.fl.aside := by
  unfold flTrip
  split
  · split
    next _ cut confirmed v hv =>
      have hv : (v.modifyPort p fun r => { r with closeActive := r.closeActive && !cut }).fl.aside = s.fl.aside :=
        (sameButBreaker_aside (sameButBreaker_of_requestTrip hv) :)
      dsimp only
      split
      · rw [flOpenConfirmed_aside, flEnter_aside, hv]
      · rw [flEnter_aside, hv]
    next v hv => exact (sameButBreaker_aside (sameButBreaker_of_requestTrip hv) :)
    next v hv => exact (sameButBreaker_aside (sameButBreaker_of_requestTrip hv) :)
  · rfl

theorem flTripAll_aside (dest : Destination) (l : List Port) (s : State) : (flTripAll dest l s).fl.aside = s.fl.aside := by
  induction l generalizing s with
  | nil => rfl
  | cons q l ih => exact (ih _).trans (flTrip_aside q dest s)

/-- A trip leaves no swap where there is none. -/
theorem flTrip_swap (hnone : s.fl.swap = none) (p : Port) (dest : Destination) : (flTrip p dest s).2.fl.swap = none := by
  have henter {x : State} (hx : x.fl.swap = none) (p : Port) (st : PortState) (d : Option Destination) (cause : Option ShedCause) :
      (flEnter p st d cause x).fl.swap = none := by rw [flEnter_swap, hx]; rfl
  have hconfirmed {x : State} (hx : x.fl.swap = none) (p : Port) : (flOpenConfirmed p x).fl.swap = none := by
    unfold flOpenConfirmed
    split
    · dsimp only
      rw [henter hx]
      exact henter hx _ _ _ _
    · exact henter hx _ _ _ _
    · exact hx
  unfold flTrip
  split
  · split
    next _ cut confirmed v hv =>
      have hv : (v.modifyPort p fun r => { r with closeActive := r.closeActive && !cut }).fl.swap = none :=
        (congrArg Fl.swap (sameButBreaker_of_requestTrip hv).fl).trans hnone
      dsimp only
      split
      · exact hconfirmed (henter hv _ _ _ _) p
      · exact henter hv _ _ _ _
    next v hv => exact (congrArg Fl.swap (sameButBreaker_of_requestTrip hv).fl).trans hnone
    next v hv => exact (congrArg Fl.swap (sameButBreaker_of_requestTrip hv).fl).trans hnone
  · exact hnone

theorem flTripAll_swap (hnone : s.fl.swap = none) (dest : Destination) (l : List Port) : (flTripAll dest l s).fl.swap = none := by
  induction l generalizing s with
  | nil => exact hnone
  | cons q l ih => exact ih (flTrip_swap hnone q dest)
end

section
variable {s u v : State} {p : Port} {r : PortRecord} {t : Tick} {cause : ShedCause} {d : Int}

/-! ### Shedding by the ranking -/

/-- A state that the shedding finds as another has it: each port and its breaker, the lines of the ports and the ranking. -/
structure State.ShedsAs (s v : State) : Prop where
  side : ∀ p, v.portSide p = s.portSide p
  lines : ∀ p, v.level (.feederLocal p) = s.level (.feederLocal p) ∧ v.level (.feederCb p) = s.level (.feederCb p)
  ahead : ∀ p, v.loadAhead p = s.loadAhead p
  apart : v.peersApart

/-- The ports of the part shed for a demand are tripped, and every other port stands (R145). -/
theorem flShed_sheds (h : s.ShedsAs v) (hcause : cause ≠ .rotation) (hu : u.portSide p = (flShed d cause v).portSide p)
    (hready : s.tripReady p r) :
    ((s.loadAhead p : Int) < d → u.tripped p (.shed cause)) ∧
    (d ≤ s.loadAhead p → u.port p = some r ∧ u.pulse (.feederTrip p) = .idle ∧
      u.pulse (.feederClose p) = s.pulse (.feederClose p)) := by
  have hdest : Destination.shed cause ≠ .shed .rotation := fun hd => hcause (Destination.shed.inj hd)
  obtain ⟨hport, ⟨hdraws, hheld⟩, hlocal, hlevel, hidle⟩ := hready
  have hv : v.tripReady p r := by
    refine ⟨(portSide_port (h.side p)).trans hport, ⟨hdraws, hheld⟩, ?_, ?_, (portSide_trip (h.side p)).trans hidle⟩
    · rwa [(h.lines p).1]
    · rwa [(h.lines p).2]
  have hmem : p ∈ v.ownPrefix d ↔ (s.loadAhead p : Int) < d := by
    rw [mem_ownPrefix h.apart, h.ahead]
    rw [State.isClosedOrClosing, State.portState, hv.1]
    obtain hst | hst := hdraws <;> simp [hst]
  refine ⟨fun hshort => State.tripped_of_portSide hu (flTripAll_trips hdest hv (hmem.2 hshort)), fun hreached => ?_⟩
  have hside : u.portSide p = s.portSide p :=
    hu.trans ((flTripAll_portSide_other hdest (mt hmem.1 (not_lt.2 hreached))).trans (h.side p))
  exact ⟨(portSide_port hside).trans hport, (portSide_trip hside).trans hidle, portSide_close hside⟩

/-- The ranking is that of the ports, the parameters, the address and the feeder records of the view. -/
theorem loadAhead_congr (hpar : v.par = s.par) (haddress : v.address = s.address) (hports : v.fl.ports = s.fl.ports)
    (hpeers : v.peerRankRows = s.peerRankRows) (p : Port) : v.loadAhead p = s.loadAhead p := by
  have hport (q : Port) : v.port q = s.port q := congrArg (fun x => x.get q) hports
  have hrow : v.ownRow p = s.ownRow p := by simp only [State.ownRow, hpar, haddress, hport]
  have hrows : v.ownRankRows = s.ownRankRows := by
    simp only [State.ownRankRows, State.isClosedOrClosing, State.portState, hpar, haddress, hport]
    rfl
  rw [State.loadAhead, hrow, hrows, hpeers, ← State.loadAhead]

theorem State.ShedsAs.of_fields (hside : ∀ p, v.portSide p = s.portSide p)
    (hlines : ∀ p, v.level (.feederLocal p) = s.level (.feederLocal p) ∧ v.level (.feederCb p) = s.level (.feederCb p))
    (hpar : v.par = s.par) (haddress : v.address = s.address) (hports : v.fl.ports = s.fl.ports)
    (hpv : v.pv = s.pv) (hapart : s.peersApart) : s.ShedsAs v where
  side := hside
  lines := hlines
  ahead := loadAhead_congr hpar haddress hports (by rw [State.peerRankRows, State.view, hpv, ← State.view, ← State.peerRankRows])
  apart e he := by
    rw [haddress]
    refine hapart e ?_
    rwa [State.view, hpv, ← State.view] at he

/-- What the ladder makes of a loss (R144, R153). -/
theorem flLoss_eq (hfeeders : s.feeders = true) (role : Role) (output rating : Nat) : flLoss role output rating s =
    if s.cr.mode = .coordinated ∧ s.islandUp = true ∧ reserveAfterLoss s.be.figures role output rating < 0 then
      flShed (-(reserveAfterLoss s.be.figures role output rating) + s.par.balance.deficitMargin) .deficit (flAbandonSwap s)
    else flAbandonSwap s := by
  have hdef : flLoss role output rating s = if (decide (s.cr.mode = .coordinated) && s.islandUp) = true then
      (if reserveAfterLoss s.be.figures role output rating < 0 then
        flShed (-(reserveAfterLoss s.be.figures role output rating) + s.par.balance.deficitMargin) .deficit (flAbandonSwap s)
      else flAbandonSwap s) else flAbandonSwap s := if_pos hfeeders
  rw [hdef]
  by_cases hacts : s.cr.mode = .coordinated ∧ s.islandUp = true
  · rw [if_pos (by simpa using hacts)]
    exact if_congr ⟨fun h => ⟨hacts.1, hacts.2, h⟩, fun h => h.2.2⟩ rfl rfl
  · rw [if_neg (by simpa using hacts), if_neg fun h => hacts ⟨h.1, h.2.1⟩]
end

section
variable {s u v : State} {p : Port} {r : PortRecord} {t : Tick}

/-! ### What new figures leave beside the set -/

/-- What the ladder looks at and the set does not write: the ladder's record, the configuration, the island state, the breakers of the
ports, and the slot of the STEP notice. -/
def State.besideDiesel (s : State) : Fl × Cr × Option Island × (Port → Option PortRecord × Pulse × Pulse × Window) × Slot :=
  (s.fl, s.cr, s.bsc.island, s.portSide, s.ilc.slots.step)

theorem besideDiesel_of_offSet (h : u.offSet = v.offSet) : u.besideDiesel = v.besideDiesel := by
  have hrest : (u.fl, u.cr, u.bsc.island, u.ilc.slots.step) = (v.fl, v.cr, v.bsc.island, v.ilc.slots.step) := by
    have := congrArg (fun x : State => (x.fl, x.cr, x.bsc.island, x.ilc.slots.step)) h
    exact this
  have hside : u.portSide = v.portSide := funext fun q => portSide_of_offIsland (State.offIsland_of_offSet h) q
  unfold State.besideDiesel
  rw [hside]
  exact congrArg (fun x => (x.1, x.2.1, x.2.2.1, v.portSide, x.2.2.2)) hrest

theorem openIntent_besideDiesel (k : IntentKind) (s : State) : (openIntent k s).besideDiesel = s.besideDiesel := by
  unfold openIntent
  dsimp only
  obtain ⟨-, h⟩ | ⟨-, h⟩ := State.placeFrame_cases { s with ds := { s.ds with intent := some (k, s.tb) } } .intent
    (intentPayload k s.par.diesel.startRank s.par.station.rating) <;> rw [h] <;> rfl

theorem dsTrip_besideDiesel (s : State) : (dsTrip true s).2.besideDiesel = s.besideDiesel := by
  have hsame := sameButBreaker_dsTrip true s
  have hside : (dsTrip true s).2.portSide = s.portSide := funext fun q => portSide_of_sameButBreaker hsame nofun
  obtain ⟨tac, htrip⟩ := dsTrip_tac true s
  unfold State.besideDiesel
  rw [hside, htrip]

theorem dsEnterOpening_besideDiesel (s : State) : (dsEnterOpening s).besideDiesel = s.besideDiesel := by
  have hopening : (dsEnter .opening (dsTrip true (s.cancel .unload)).2).besideDiesel = s.besideDiesel :=
    (besideDiesel_of_offSet (dsEnter_offSet _ .opening)).trans (dsTrip_besideDiesel (s.cancel .unload))
  unfold dsEnterOpening
  dsimp only
  split
  · rw [dsConfirmed_opening_leaves (by rw [dsEnter_ds]; rfl)]
    exact hopening
  · exact hopening

theorem dsJudge_besideDiesel (s : State) : (dsJudge s).besideDiesel = s.besideDiesel := by
  unfold dsJudge
  split
  · unfold dsJudgeStart
    split
    · dsimp only
      split
      · exact (openIntent_besideDiesel .start _).trans (besideDiesel_of_offSet (dsEnter_offSet s .intent) :)
      · rfl
    · rfl
  · split
    · exact (besideDiesel_of_offSet (dsEnterStandby_offSet ((dropIntent s).cancel .window)) :)
    · rfl
  · unfold dsJudgeStop
    (repeat' split) <;> rfl
  · unfold dsJudgeStopIntent
    split
    · exact besideDiesel_of_offSet (dsBackOnline_offSet s)
    · rfl
  · unfold dsJudgeUnload
    split
    · exact besideDiesel_of_offSet (dsAbandonUnload_offSet s)
    · split
      · exact dsEnterOpening_besideDiesel s
      · rfl
  · rfl

/-- The first two readers of new figures leave the ladder, the island and the ports. -/
theorem firstReaders_besideDiesel (s : State) : (scFigures (dsFigures s)).besideDiesel = s.besideDiesel := by
  have hsolar (x : State) : (scFigures x).besideDiesel = x.besideDiesel := by
    unfold scFigures
    split <;> rfl
  rw [hsolar]
  unfold dsFigures
  split
  · obtain ⟨b, p, hstep⟩ := dsBiasStep_eq s
    rw [dsJudge_besideDiesel, hstep]
    rfl
  · rfl

/-! ### The overload timer at new figures (R146) -/

theorem flRecordLoads_aside (s : State) : (flRecordLoads s).fl.aside = s.fl.aside := by
  unfold flRecordLoads
  generalize Port.all = l
  induction l generalizing s with
  | nil => rfl
  | cons q l ih => exact (ih _).trans rfl

theorem flRestore_aside (s : State) : (flRestore s).fl.aside = s.fl.aside := by
  unfold flRestore
  split
  next p _ =>
    split
    · have hclose := flClose_aside p s
      split
      next v hv =>
        rw [hv] at hclose
        exact (flAnnounceStep_aside p v).trans hclose
      next v hv =>
        rw [hv] at hclose
        exact hclose
    · rfl
  · rfl

theorem flStartSwap_aside (s : State) : (flStartSwap s).fl.aside = s.fl.aside := by
  unfold flStartSwap
  split
  next c o _ _ =>
    split
    · have htrip := flTrip_aside o (.shed .rotation) { s with fl := { s.fl with swap := some ⟨o, c, .opening⟩ } }
      split
      next v hv =>
        rw [hv] at htrip
        exact htrip
      next v hv =>
        rw [hv] at htrip
        exact htrip
    · rfl
  · rfl

/-- The overload timer by the condition of the figures, while the ladder works. -/
theorem flJudgeOverload_timer (s : State) :
    (s.operating = true → s.islandUp = true → s.be.figures.overload = true → (flJudgeOverload s).fl.overload =
      if s.fl.overload = .stopped then .running s.tb (s.par.restore.overloadTime * 10000000) else s.fl.overload) ∧
    (s.operating = true → s.islandUp = true → s.be.figures.overload = false → (flJudgeOverload s).fl.overload = .stopped) ∧
    (s.operating = false ∨ s.islandUp = false → (flJudgeOverload s).fl.overload = s.fl.overload) := by
  unfold flJudgeOverload
  refine ⟨fun hop hup hover => ?_, fun hop hup hover => ?_, fun hnot => ?_⟩
  · rw [if_pos (by simp [hop, hup]), if_pos hover]
    by_cases hstopped : s.fl.overload = .stopped
    · rw [if_neg (by simp [hstopped, Timer.isRunning]), if_pos hstopped]
      rfl
    · rw [if_pos ((Timer.isRunning_iff _).2 hstopped), if_neg hstopped]
  · rw [if_pos (by simp [hop, hup]), if_neg (by simp [hover])]
    rfl
  · rw [if_neg]
    obtain h | h := hnot <;> simp [h]

theorem flRecordLoads_beside (s : State) : ∃ x, flRecordLoads s = { s with fl := x } := by
  unfold flRecordLoads
  generalize Port.all = l
  induction l generalizing s with
  | nil => exact ⟨s.fl, rfl⟩
  | cons q l ih =>
    obtain ⟨x, hx⟩ := ih (s.modifyPort q fun r => if r.state = .closed then { r with load := clamp16 (s.mu.mean.feeder.get q) } else r)
    exact ⟨x, hx⟩

/-- Settles O40, the overload timer at new figures. -/
theorem balance_overload (hdue : s.due .balance t) (hparams : s.cr.params.isSome = true) (hports : 1 ≤ s.par.station.feederCount) :
    ∃ u, exec .balancePeriodExpiry s = .next u ∧
      (s.operating = true → s.islandUp = true → u.be.figures.overload = true → u.fl.overload =
        if s.fl.overload = .stopped then .running t (s.par.restore.overloadTime * 10000000) else s.fl.overload) ∧
      (s.operating = true → s.islandUp = true → u.be.figures.overload = false → u.fl.overload = .stopped) ∧
      (s.operating = false ∨ s.islandUp = false → u.fl.overload = s.fl.overload) := by
  have hkept := readers_kept (s.computed t)
  have hbeside := firstReaders_besideDiesel (s.computed t)
  have hkept₁ : (scFigures (dsFigures (s.computed t))).kept = (s.computed t).kept := by simp
  refine ⟨_, exec_balance hdue, ?_⟩
  rw [kept_be hkept, ← kept_be hkept₁]
  generalize scFigures (dsFigures (s.computed t)) = w at hbeside hkept₁ ⊢
  have hfl : w.fl = s.fl := (congrArg Prod.fst hbeside :)
  have hcr : w.cr = s.cr := (congrArg (fun x => x.2.1) hbeside :)
  have hisland : w.bsc.island = s.bsc.island := (congrArg (fun x => x.2.2.1) hbeside :)
  have htb : w.tb = t := (kept_tb hkept₁ :)
  have hfeeders : w.feeders = true := by
    simp only [State.feeders, State.started, State.par, hcr, Bool.and_eq_true, decide_eq_true_eq]
    exact ⟨hparams, hports⟩
  obtain ⟨x, hloads⟩ := flRecordLoads_beside w
  have hx : x.overload = s.fl.overload := by
    have haside := flRecordLoads_aside w
    rw [hloads, hfl] at haside
    exact congrArg (fun y => y.2.2.2) haside
  have hover : (flFigures w).fl.overload = (flJudgeOverload (flRecordLoads w)).fl.overload := by
    rw [flFigures, if_pos hfeeders]
    exact congrArg (fun y => y.2.2.2) ((flStartSwap_aside _).trans (flRestore_aside _))
  rw [hover]
  obtain ⟨hstarts, hcancels, hstands⟩ := flJudgeOverload_timer (flRecordLoads w)
  rw [hloads] at hstarts hcancels hstands ⊢
  have hop : State.operating { w with fl := x } = s.operating := by simp only [State.operating, hcr]
  have hup : State.islandUp { w with fl := x } = s.islandUp := by simp only [State.islandUp, hisland]
  have hpar : State.par { w with fl := x } = s.par := by simp only [State.par, hcr]
  rw [hop, hup] at hstarts hcancels hstands
  rw [hpar] at hstarts
  simp only [hx, htb] at hstarts hcancels hstands ⊢
  exact ⟨hstarts, hcancels, hstands⟩
end

section
variable {s u v : State} {p : Port} {r : PortRecord} {t : Tick} {cause : ShedCause}

/-! ### Losses and overload (R144, R146) -/

theorem reserveAfterLoss_genset (f : Figures) (role : Role) (output rating : Nat) : reserveAfterLoss f role output rating =
    if role = .genset then ((f.cOn : Int) - rating) - f.pGen else f.reserve - output := by cases role <;> rfl

/-- A loss ends a swap, and sheds for the deficit that it leaves in COORDINATED on a live island. -/
theorem flLoss_leaves {role : Role} {output rating : Nat} (hfeeders : s.feeders = true) (hfl : u.fl = (flLoss role output rating s).fl)
    (hside : ∀ p, u.portSide p = (flLoss role output rating s).portSide p) :
    let left := reserveAfterLoss s.be.figures role output rating
    u.fl.swap = none ∧
    (s.cr.mode ≠ .coordinated ∨ s.islandUp = false ∨ 0 ≤ left → u.fl = { s.fl with swap := none } ∧ ∀ p, u.portSide p = s.portSide p) ∧
    (s.cr.mode = .coordinated → s.islandUp = true → left < 0 → ∀ p,
      u.portSide p = (flShed (-left + s.par.balance.deficitMargin) .deficit (flAbandonSwap s)).portSide p) := by
  intro left
  rw [flLoss_eq hfeeders] at hfl hside
  by_cases hsheds : s.cr.mode = .coordinated ∧ s.islandUp = true ∧ left < 0
  · rw [if_pos hsheds] at hfl hside
    obtain ⟨hmode, hup, hleft⟩ := hsheds
    refine ⟨?_, fun hnot => ?_, fun _ _ _ p => hside p⟩
    · rw [hfl]
      exact flTripAll_swap (s := flAbandonSwap s) rfl _ _
    · obtain h | h | h := hnot
      · exact absurd hmode h
      · exact absurd (h.symm.trans hup) nofun
      · exact absurd hleft (not_lt.2 h)
  · rw [if_neg hsheds] at hfl hside
    exact ⟨by rw [hfl]; rfl, fun _ => ⟨hfl, fun p => hside p⟩, fun hmode hup hleft => absurd ⟨hmode, hup, hleft⟩ hsheds⟩

/-- The state in which the ladder of another is shed, its swap ended. -/
theorem State.ShedsAs.abandoned (h : s.ShedsAs v) : s.ShedsAs (flAbandonSwap v) where
  side p := (h.side p :)
  lines := h.lines
  ahead := h.ahead
  apart := h.apart

/-- A notice but a STEP leaves the addresses and the feeder records of the view. -/
theorem view_modify {α : Type} {a : Nat} {f : Entry → Entry} (hfresh : ∀ e, (f e).fresh = e.fresh) {g : Entry → List α}
    (hg : ∀ e, g (f e) = g e) (s : State) : (State.view { s with pv := s.pv.modify a f }).flatMap g = s.view.flatMap g := by
  have hmodify (e : Entry) : ((if e.address == a then f e else e).fresh = e.fresh) ∧ g (if e.address == a then f e else e) = g e := by
    split
    · exact ⟨hfresh e, hg e⟩
    · exact ⟨rfl, rfl⟩
  have htable (l : List Entry) : ((l.map fun e => if e.address == a then f e else e).filter (·.fresh)).flatMap g =
      (l.filter (·.fresh)).flatMap g := by
    induction l with
    | nil => rfl
    | cons e l ih =>
      obtain ⟨hf, hgg⟩ := hmodify e
      rw [List.map_cons, List.filter_cons, List.filter_cons, hf]
      split
      · rw [List.flatMap_cons, List.flatMap_cons, ih, hgg]
      · exact ih
  unfold State.view
  rw [show (s.pv.modify a f).conflict = s.pv.conflict from rfl]
  split
  · rfl
  · exact htable s.pv.table

theorem State.peersApart_modify {a : Nat} {f : Entry → Entry} (hfresh : ∀ e, (f e).fresh = e.fresh)
    (haddress : ∀ e, (f e).address = e.address) (hs : s.peersApart) : State.peersApart { s with pv := s.pv.modify a f } := by
  have haddresses := view_modify (a := a) hfresh (g := fun e => [e.address]) (fun e => by rw [haddress]) s
  intro e he
  have hmem : e.address ∈ (State.view { s with pv := s.pv.modify a f }).flatMap fun e => [e.address] :=
    List.mem_flatMap.2 ⟨e, he, List.mem_singleton_self _⟩
  rw [haddresses] at hmem
  obtain ⟨e', he', haddr⟩ := List.mem_flatMap.1 hmem
  rw [List.mem_singleton.1 haddr]
  exact hs e' he'

/-- The ladder is shed for a LOSS notice as the notice has found it. -/
theorem noticeTaken_shedsAs {a : Nat} {role : Role} {output rating : Nat} (hs : s.peersApart) (ilc : Ilc) :
    s.ShedsAs (State.noticeTaken { s with tb := t, ilc := ilc } a (.loss role output rating)) where
  side _ := rfl
  lines _ := ⟨rfl, rfl⟩
  ahead := by
    refine loadAhead_congr rfl rfl rfl ?_
    exact view_modify (a := a) (f := Entry.loss) (fun _ => rfl) (g := fun e =>
      (e.feeders.filter fun r => r.state == .closed || r.state == .closing).map fun r =>
        (⟨r.shedRank, e.address, r.port, r.load, none⟩ : RankRow)) (fun _ => rfl) s
  apart := State.peersApart_modify (s := s) (a := a) (f := Entry.loss) (fun _ => rfl) (fun _ => rfl) hs

/-- The ladder is shed for a loss of the own source as the release of its breaker has found it. -/
theorem released_shedsAs (hs : s.peersApart) (l : List Byte) : s.ShedsAs ((s.qualify .srcCb false).placeFrame .loss l) := by
  obtain ⟨x, hx⟩ := placeFrame_sameButLink .loss l (s.qualify .srcCb false)
  rw [hx]
  exact .of_fields (fun _ => rfl) (fun _ => ⟨rfl, rfl⟩) rfl rfl rfl rfl hs

theorem placeFrame_loss_fields (l : List Byte) (s : State) : let u := s.placeFrame .loss l
    u.be = s.be ∧ u.cr = s.cr ∧ u.bsc = s.bsc ∧ u.fl = s.fl ∧ u.mu = s.mu ∧ ∀ p, u.portSide p = s.portSide p := by
  obtain ⟨x, hx⟩ := placeFrame_sameButLink .loss l s
  rw [hx]
  exact ⟨rfl, rfl, rfl, rfl, rfl, fun _ => rfl⟩

/-- Where the own source is lost, the ladder is told of it (R117, R126). -/
theorem exec_ownLoss {role : Role} {output : Nat} (hq : s.qualifies .srcCb false)
    (hwindow : ∀ r x, s.window .source ≠ .watching r false x) (houtput : output = clamp16 s.mu.mean.src)
    (hrole : role = .genset ∧ s.sc.state = none ∧
        (s.ds.state = some .online ∨ s.ds.state = some .stopIntent ∨ s.ds.state = some .unload) ∨
      role = .solar ∧ s.ds.state = none ∧ s.sc.state = some .online ∧ s.sc.trip = false ∧ s.islandUp = true ∧
        s.par.solar.lossThreshold < output) :
    ∃ u l, exec (.inputQualified .srcCb) s = .next u ∧ u.be = s.be ∧ u.mu = s.mu ∧
      u.fl = (flLoss role output s.par.station.rating ((s.qualify .srcCb false).placeFrame .loss l)).fl ∧
      ∀ p, u.portSide p = (flLoss role output s.par.station.rating ((s.qualify .srcCb false).placeFrame .loss l)).portSide p := by
  have hexec := exec_inputQualified hq
  have hkept : (reportQualified .srcCb false (s.qualify .srcCb false)).kept = (s.qualify .srcCb false).kept := reportQualified_kept (i := .srcCb) nofun _ _
  obtain ⟨rfl, hsc, hset⟩ | ⟨rfl, hds, honline, htrip, hup, hthreshold⟩ := hrole
  · have hlost := reportQualified_breakerReleased (s := s.qualify .srcCb false) hset hsc hwindow
    have hleft := State.offIsland_of_offSet (dsEnterFailed_offSet (flLoss .genset output s.par.station.rating
      ((s.qualify .srcCb false).placeFrame .loss (lossPayload .genset output s.par.station.rating))))
    refine ⟨_, lossPayload .genset output s.par.station.rating, hexec, (kept_be hkept :), (kept_mu hkept :), ?_⟩
    rw [hlost]
    subst houtput
    exact ⟨offIsland_fl hleft, portSide_of_offIsland hleft⟩
  · have hreleased : reportQualified .srcCb false (s.qualify .srcCb false) = scLost output (s.qualify .srcCb false) := by
      refine (breakerQualified_source_changed (s := s.qualify .srcCb false) hwindow).trans ?_
      change scReleased (dsSrcReleased (s.qualify .srcCb false)) = _
      rw [(dsSrc_of_none (s := s.qualify .srcCb false) hds).2, scReleased_of_online (s := s.qualify .srcCb false) honline htrip]
      subst houtput
      exact if_pos ⟨hup, hthreshold⟩
    refine ⟨_, lossPayload .solar output s.par.station.rating, hexec, (kept_be hkept :), (kept_mu hkept :), ?_⟩
    rw [hreleased]
    exact ⟨rfl, fun _ => rfl⟩

/-- A LOSS notice of another station reaches the ladder through its sender's entry. -/
theorem exec_lossNotice {since : Tick} {burst : List LinkChar} {overlong : Bool} {a : Nat} {e : Entry} {role : Role} {output rating : Nat}
    (hrun : s.phase = .running) (hidle : s.ilc.idleSince = some since) (hrec : s.ilc.receiver = .collecting burst overlong)
    (hgood : judgeBurst burst overlong = some ⟨a, .loss role output rating⟩) (ha : a ≠ s.address) (hentry : s.pv.entry a = some e) :
    ∃ u v, exec .burstClose s = .next u ∧ u.be = s.be ∧ u.mu = s.mu ∧ u.fl = (flLoss role output rating v).fl ∧
      (∀ p, u.portSide p = (flLoss role output rating v).portSide p) ∧ v.be = s.be ∧ v.cr = s.cr ∧ v.bsc = s.bsc ∧ v.fl = s.fl ∧
      (∀ p, v.portSide p = s.portSide p) ∧ (s.peersApart → s.ShedsAs v) := by
  have hexec := exec_notice hrun hidle hrec hgood ha nofun hentry
  generalize since + 800 = now at hexec
  have hkept : (jobsNotice a (.loss role output rating) ((s.readyAt now).noticeTaken a (.loss role output rating))).kept =
      ((s.readyAt now).noticeTaken a (.loss role output rating)).kept := by simp [jobsNotice]
  have hjob {x : State} : (dsLossNotice x).fl = x.fl ∧ ∀ p, (dsLossNotice x).portSide p = x.portSide p := by
    unfold dsLossNotice
    split <;> exact ⟨rfl, fun _ => rfl⟩
  obtain ⟨hfl, hside⟩ := hjob (x := flLoss role output rating ((s.readyAt now).noticeTaken a (.loss role output rating)))
  exact ⟨_, (s.readyAt now).noticeTaken a (.loss role output rating), hexec, (kept_be hkept :), (kept_mu hkept :), hfl, hside,
    rfl, rfl, rfl, rfl, fun _ => rfl, fun hs => noticeTaken_shedsAs hs _⟩

theorem sum_filterMap {α β : Type} (f : α → Option β) (g : β → Nat) (l : List α) :
    ((l.filterMap f).map g).sum = (l.map fun a => ((f a).map g).getD 0).sum := by
  induction l with
  | nil => rfl
  | cons a l ih => cases hf : f a <;> simp [hf, ih]

theorem sum_filter {α : Type} (c : α → Bool) (g : α → Nat) (l : List α) :
    ((l.filter c).map g).sum = (l.map fun a => if c a then g a else 0).sum := by
  induction l with
  | nil => rfl
  | cons a l ih => cases hc : c a <;> simp [hc, ih]

theorem sum_flatMap_congr {α : Type} {f g : α → List Nat} (h : ∀ a, (f a).sum = (g a).sum) (l : List α) :
    (l.flatMap f).sum = (l.flatMap g).sum := by
  induction l with
  | nil => rfl
  | cons a l ih => rw [List.flatMap_cons, List.flatMap_cons, List.sum_append, List.sum_append, h, ih]

/-- Settles O40: the leading part of the ranking is shed for overload and for a loss; the overload timer follows the figures. -/
theorem overloadShedsByRanking : Obligations.OverloadShedsByRanking := by
  unfold Obligations.OverloadShedsByRanking
  intro draws first ahead sheds
  have hahead (s : State) (p : Port) : ahead s p = s.loadAhead p := by
    have hfirst (x : RankRow) : x.before (s.ownRow p) =
        first x.shedRank x.address x.port (s.par.port.get p).shedRank s.address p.num := by
      rw [Bool.eq_iff_iff, RankRow.before_iff]
      exact decide_eq_true_iff.symm
    have hdraws (st : PortState) : (st == .closed || st == .closing) = draws st := rfl
    rw [State.loadAhead, List.map_append, List.sum_append, State.ownRankRows, sum_filterMap, State.peerRankRows, List.map_flatMap]
    refine congrArg₂ (· + ·) (congrArg List.sum (List.map_congr_left fun q _ => ?_)) (sum_flatMap_congr (fun e => ?_) s.view)
    · cases hq : s.port q with
      | none => simp [State.isClosedOrClosing, State.portState, hq]
      | some x =>
        have hcond : s.isClosedOrClosing q = draws x.state := by simp [State.isClosedOrClosing, State.portState, hq, draws]
        rw [hcond]
        dsimp only
        cases draws x.state with
        | false => rfl
        | true => exact if_congr (by rw [hfirst]; rfl) rfl rfl
    · rw [List.map_map, sum_filter]
      refine congrArg List.sum (List.map_congr_left fun x _ => ?_)
      rw [hdraws]
      dsimp only [Function.comp]
      cases draws x.state with
      | false => rfl
      | true => exact (if_congr (by rw [hfirst]; rfl) rfl rfl).trans (if_pos rfl).symm
  have hsheds {s u v : State} {d : Int} {cause : ShedCause} (h : s.ShedsAs v) (hcause : cause ≠ .rotation)
      (hu : ∀ p, u.portSide p = (flShed d cause v).portSide p) : sheds s u d cause := by
    intro p r hport hdraws hheld hlocal hlevel hidle
    have hstate : r.state = .closed ∨ r.state = .closing := by simpa [draws] using hdraws
    rw [hahead]
    exact flShed_sheds h hcause (hu p) ⟨hport, ⟨hstate, hheld⟩, hlocal, hlevel, hidle⟩
  refine ⟨fun t s hdue hs => ?_, fun c role output rating s hs hparams hports hc => ?_, fun t s => balance_overload⟩
  · have hexec : exec .overloadTimerExpiry s = .next (flOverloadExpired ((s.stamp t).cancel .overload)) :=
      onExpiry_due (id := .overload) _ hdue.1 hdue.2
    have hkept : (flOverloadExpired ((s.stamp t).cancel .overload)).kept = ((s.stamp t).cancel .overload).kept := by simp
    have haside := flTripAll_aside (.shed .overload) (((s.stamp t).cancel .overload).ownPrefix s.be.figures.overloadDemand)
      ((s.stamp t).cancel .overload)
    refine ⟨_, hexec, (kept_tb hkept :), (kept_mu hkept :), (kept_be hkept :), (kept_pv hkept :), (kept_cr hkept :),
      congrArg (fun y => y.2.2.2) haside, hsheds (v := (s.stamp t).cancel .overload) ?_ nofun fun _ => rfl⟩
    exact .of_fields (fun _ => rfl) (fun _ => ⟨rfl, rfl⟩) rfl rfl rfl rfl (State.peersApart_of_formed hs)
  · intro g left
    have hleft : reserveAfterLoss s.be.figures role output rating = left := reserveAfterLoss_genset _ _ _ _
    have hcore {u v : State} (hexec : exec c s = .next u) (hbe : u.be = s.be) (hmu : u.mu = s.mu)
        (hfl : u.fl = (flLoss role output rating v).fl) (hside : ∀ p, u.portSide p = (flLoss role output rating v).portSide p)
        (hvbe : v.be = s.be) (hvcr : v.cr = s.cr) (hvbsc : v.bsc = s.bsc) (hvfl : v.fl = s.fl)
        (hvside : ∀ p, v.portSide p = s.portSide p) (hv : s.ShedsAs v) : ∃ u, exec c s = .next u ∧ u.fl.swap = none ∧ u.be = s.be ∧
          u.mu = s.mu ∧ (s.cr.mode ≠ .coordinated ∨ s.islandUp = false ∨ 0 ≤ left → u.fl = { s.fl with swap := none } ∧
            ∀ p, u.pulse (.feederTrip p) = s.pulse (.feederTrip p) ∧ u.pulse (.feederClose p) = s.pulse (.feederClose p)) ∧
          (s.cr.mode = .coordinated → s.islandUp = true → left < 0 → sheds s u (-left + s.par.balance.deficitMargin) .deficit) := by
      have hfeeders : v.feeders = true := by
        simp only [State.feeders, State.started, State.par, hvcr, Bool.and_eq_true, decide_eq_true_eq]
        exact ⟨hparams, hports⟩
      obtain ⟨hswap, hstands, hshed⟩ := flLoss_leaves hfeeders hfl hside
      rw [hvbe, hleft, State.islandUp, hvbsc, ← State.islandUp, hvcr] at hstands hshed
      rw [State.par, hvcr, ← State.par] at hshed
      refine ⟨u, hexec, hswap, hbe, hmu, fun hnot => ?_, fun hmode hup hneg => hsheds hv.abandoned nofun (hshed hmode hup hneg)⟩
      obtain ⟨hf, hp⟩ := hstands hnot
      rw [hvfl] at hf
      exact ⟨hf, fun p => ⟨portSide_trip ((hp p).trans (hvside p)), portSide_close ((hp p).trans (hvside p))⟩⟩
    obtain ⟨rfl, hrun, since, burst, overlong, a, e, hidle, hrec, hgood, ha, hentry⟩ | ⟨rfl, hq, hwindow, hout, rfl, hrole⟩ := hc
    · obtain ⟨u, v, hexec, hbe, hmu, hfl, hside, hvbe, hvcr, hvbsc, hvfl, hvside, hv⟩ :=
        exec_lossNotice hrun hidle hrec hgood ha hentry
      exact hcore hexec hbe hmu hfl hside hvbe hvcr hvbsc hvfl hvside (hv (State.peersApart_of_formed hs))
    · obtain ⟨u, l, hexec, hbe, hmu, hfl, hside⟩ := exec_ownLoss hq hwindow hout hrole
      obtain ⟨hvbe, hvcr, hvbsc, hvfl, -, hvside⟩ := placeFrame_loss_fields l (s.qualify .srcCb false)
      exact hcore hexec hbe hmu hfl hside hvbe hvcr hvbsc hvfl hvside (released_shedsAs (State.peersApart_of_formed hs) l)
end

end Sys2Proof.Machine
end

section
/-! SUPPORT. The under-frequency stages and the restore qualification. -/

namespace Sys2Proof.Machine

section
variable {s u v : State} {p : Port} {c : Condition}

/-! ### What a followed bus condition and the set make of the ladder -/

/-- The ladder's record, and each port with its breaker. -/
def State.ladderSide (s : State) : Fl × (Port → Option PortRecord × Pulse × Pulse × Window) := (s.fl, s.portSide)

theorem ladderSide_fl (h : u.ladderSide = v.ladderSide) : u.fl = v.fl := congrArg Prod.fst h
theorem ladderSide_port (h : u.ladderSide = v.ladderSide) (p : Port) : u.portSide p = v.portSide p := congrFun (congrArg Prod.snd h) p

theorem ladderSide_of_offIsland (h : u.offIsland = v.offIsland) : u.ladderSide = v.ladderSide :=
  congrArg₂ Prod.mk (offIsland_fl h) (funext fun p => portSide_of_offIsland h p)

theorem ladderSide_of_offSet (h : u.offSet = v.offSet) : u.ladderSide = v.ladderSide :=
  ladderSide_of_offIsland (State.offIsland_of_offSet h)

theorem offSet_island (h : u.offSet = v.offSet) : u.bsc.island = v.bsc.island := by
  have := congrArg (fun x : State => x.bsc.island) h
  exact this

/-- What the set leaves: the ladder and the ports, the island state, and its record. -/
def State.setSide (s : State) : (Fl × (Port → Option PortRecord × Pulse × Pulse × Window)) × Bsc × Bool × Quad Bool ×
    Quad (Option (PortState × Option ShedCause)) :=
  (s.ladderSide, { s.bsc with session := .idle }, s.ret.darkTaken, s.ret.wasClosed, s.ret.ports)

theorem setSide_ladder (h : u.setSide = v.setSide) : u.ladderSide = v.ladderSide := congrArg Prod.fst h
theorem setSide_bsc (h : u.setSide = v.setSide) : ({ u.bsc with session := .idle } : Bsc) = { v.bsc with session := .idle } :=
  congrArg (fun x => x.2.1) h
theorem setSide_island (h : u.setSide = v.setSide) : u.bsc.island = v.bsc.island := (congrArg Bsc.island (setSide_bsc h) :)
theorem setSide_darkTaken (h : u.setSide = v.setSide) : u.ret.darkTaken = v.ret.darkTaken := congrArg (fun x => x.2.2.1) h
theorem setSide_wasClosed (h : u.setSide = v.setSide) : u.ret.wasClosed = v.ret.wasClosed := congrArg (fun x => x.2.2.2.1) h
theorem setSide_retained (h : u.setSide = v.setSide) : u.ret.ports = v.ret.ports := congrArg (fun x => x.2.2.2.2) h

theorem setSide_of_offSet (h : u.offSet = v.offSet) : u.setSide = v.setSide := by
  have hrest : (({ u.bsc with session := .idle } : Bsc), u.ret.darkTaken, u.ret.wasClosed, u.ret.ports) =
      ({ v.bsc with session := .idle }, v.ret.darkTaken, v.ret.wasClosed, v.ret.ports) := by
    have := congrArg (fun x : State => (x.bsc, x.ret.darkTaken, x.ret.wasClosed, x.ret.ports)) h
    exact this
  exact congrArg₂ Prod.mk (ladderSide_of_offSet h) hrest

theorem setSide_of_source (h : s.SameButBreaker .source v) : v.setSide = s.setSide := by
  have hside : v.ladderSide = s.ladderSide :=
    congrArg₂ Prod.mk h.fl (funext fun _ => portSide_of_sameButBreaker h nofun)
  obtain ⟨-, -, tac, rfl, -⟩ := h
  exact congrArg (·, { s.bsc with session := .idle }, s.ret.darkTaken, s.ret.wasClosed, s.ret.ports) hside

theorem dsForcedStop_setSide (s : State) : (dsForcedStop s).setSide = s.setSide := by
  obtain ⟨x, pull, edges, stuck, link, -, h⟩ := dsForcedStop_eq s
  rw [h]
  rfl

theorem dsConfirmed_setSide (s : State) : (dsConfirmed s).setSide = s.setSide := by
  by_cases hclosing : s.ds.state = some .closing
  · obtain ⟨x, b, -, -, hconfirmed⟩ := dsConfirmed_of_closing hclosing
    rw [hconfirmed]
    split
    · rw [dsForcedStop_setSide]
      rfl
    · rfl
  · by_cases hopening : s.ds.state = some .opening
    · rw [dsConfirmed_opening_leaves hopening]
      rfl
    · unfold dsConfirmed
      split
      next h => exact absurd h hclosing
      next h => exact absurd h hopening
      next => rfl

theorem dsClosingFailed_setSide (s : State) : (dsClosingFailed s).setSide = s.setSide :=
  (setSide_of_offSet (dsClosingFailed_leaves s).2).trans (setSide_of_source (sameButBreaker_dsTrip false s))

theorem dsCloseFromSync_setSide (s : State) : (dsCloseFromSync s).setSide = s.setSide := by
  unfold dsCloseFromSync
  split
  next confirmed v hv =>
    have hclosing : (dsEnterClosing false confirmed v).setSide = v.setSide := by
      have henter := setSide_of_offSet (dsEnter_offSet (v.cancel .sync) .closing)
      unfold dsEnterClosing
      dsimp only
      split
      · rw [dsConfirmed_setSide]
        exact henter
      · exact henter
    exact hclosing.trans (setSide_of_source (sameButBreaker_of_requestClose hv))
  next v _ hv => exact (setSide_of_source (sameButBreaker_of_requestClose hv) :)

/-- The set on a record writes nothing of the ladder. -/
theorem dsRecord_setSide (r : CycleRecord) (s : State) : (dsRecord r s).setSide = s.setSide := by
  have hfails (x : State) : (dsEnterFailed x).setSide = x.setSide := setSide_of_offSet (dsEnterFailed_offSet x)
  unfold dsRecord
  dsimp only
  split
  · split
    · exact hfails s
    · rfl
  · split
    · exact hfails s
    · unfold dsJudgeSync
      split
      · dsimp only
        split
        · rw [dsCloseFromSync_setSide]
          rfl
        · rfl
      · rfl
  · split
    · exact (hfails _).trans (setSide_of_offSet (dsWithdraw_offSet s))
    · rfl
  · split
    · exact dsClosingFailed_setSide s
    · rfl
  · rfl

theorem flIslandChange_of_deadWait (h : s.bsc.island = some .deadWait) : flIslandChange s =
    { s with fl := { s.fl with swap := none, qualTimer := .stopped, qualified := false, overload := .stopped } } := by
  have hlive : ¬ s.bsc.island = some .live := by rw [h]; nofun
  have hdown : ¬ (flAbandonSwap s).islandUp = true := by simp [State.islandUp, flAbandonSwap, h]
  have hdark : ¬ (decide (s.bsc.island = some .dark) && s.operating) = true := by simp [h]
  unfold flIslandChange
  dsimp only
  rw [if_neg hlive, if_neg hdown]
  exact if_neg hdark

theorem flIslandChange_of_recover (h : s.bsc.island = some .recover) : flIslandChange s = flAbandonSwap s := by
  have hlive : ¬ s.bsc.island = some .live := by rw [h]; nofun
  have hup : (flAbandonSwap s).islandUp = true := by simp [State.islandUp, flAbandonSwap, h]
  have hdark : ¬ (decide (s.bsc.island = some .dark) && s.operating) = true := by simp [h]
  unfold flIslandChange
  dsimp only
  rw [if_neg hlive, if_pos hup]
  exact if_neg hdark

/-- The readers of an island state that is not DARK, after the ladder. -/
theorem laterIslandReaders_setSide (h : s.bsc.island ≠ some .dark) : (dsIslandChange (scIslandChange s)).setSide = s.setSide := by
  have hsolar : (scIslandChange s).setSide = s.setSide ∧ (scIslandChange s).bsc = s.bsc := by
    unfold scIslandChange
    split
    · unfold scZero
      split <;> exact ⟨rfl, rfl⟩
    next hdark => exact absurd hdark h
    · exact ⟨rfl, rfl⟩
  exact (setSide_of_offSet (dsIslandChange_offSet (scIslandChange s) (by rw [hsolar.2]; exact h))).trans hsolar.1

/-- The state that an entry to DEAD-WAIT sets up: the swap, the restore qualification and the overload timer go (R146, R147, R153, R158). -/
def State.deadWaiting (s : State) (o : Origin) : State :=
  { s with
    fl := { s.fl with swap := none, qualTimer := .stopped, qualified := false, overload := .stopped }
    bsc := { s.bsc with
      island := some .deadWait, origin := o, recover := .stopped, dead := .running s.tb (s.par.black.deadTime * 10000) } }

theorem bscEnterDeadWait_setSide (o : Origin) (s : State) : (bscEnterDeadWait o s).setSide = (s.deadWaiting o).setSide := by
  have hu : bscEnterDeadWait o s = dsIslandChange (scIslandChange (flIslandChange (State.setIsland
      { (s.cancel .recover).start .dead (ms s.par.black.deadTime) with
        bsc := { ((s.cancel .recover).start .dead (ms s.par.black.deadTime)).bsc with origin := o } } .deadWait))) := rfl
  rw [hu, flIslandChange_of_deadWait (by exact rfl)]
  exact (laterIslandReaders_setSide (by nofun)).trans rfl

theorem bscEnterDeadWait_leaves (o : Origin) (s : State) :
    let u := bscEnterDeadWait o s
    u.bsc.island = some .deadWait ∧
    u.fl = { s.fl with swap := none, qualTimer := .stopped, qualified := false, overload := .stopped } ∧
    ∀ p, u.portSide p = s.portSide p := by
  have h := bscEnterDeadWait_setSide o s
  exact ⟨setSide_island h, ladderSide_fl (setSide_ladder h), fun p => ladderSide_port (setSide_ladder h) p⟩

theorem bscHoldLive_leaves (s : State) : (bscHoldLive s).ladderSide = s.ladderSide ∧ (bscHoldLive s).bsc.island = s.bsc.island := by
  have hside := bscHoldLive_offSet s
  exact ⟨ladderSide_of_offSet hside, offSet_island hside⟩

/-- LIVE leaves the ladder (R163). -/
theorem bscEnterLive_leaves (s : State) :
    (bscEnterLive s).ladderSide = s.ladderSide ∧ (bscEnterLive s).bsc.island = some .live := by
  have hside := dsIslandChange_offSet ((clearPreDark (s.cancel .recover)).setIsland .live) nofun
  obtain ⟨hhold, hisland⟩ := bscHoldLive_leaves (dsIslandChange ((clearPreDark (s.cancel .recover)).setIsland .live))
  exact ⟨ladderSide_of_offIsland (bscEnterLive_offIsland s), hisland.trans (offSet_island hside)⟩

/-- The look at the ports leaves the ladder, and a live island live. -/
theorem bscLook_leaves (s : State) : (bscLook s).ladderSide = s.ladderSide ∧ (s.islandUp = true → (bscLook s).islandUp = true) := by
  refine ⟨ladderSide_of_offIsland (bscLook_offIsland s), fun hup => ?_⟩
  unfold bscLook
  split
  · rw [islandUp_iff]
    exact .inl (bscEnterLive_leaves s).2
  · exact hup

/-- The state that an entry to RECOVER sets up: the swap goes (R153, R162). -/
def State.recovers (s : State) : State :=
  { s with
    fl := { s.fl with swap := none }
    bsc := { s.bsc with island := some .recover, recover := .running s.tb (s.par.restore.recoverTimeout * 600000000) } }

theorem bscEnterRecover_eq (s : State) : ∃ x, x.setSide = s.recovers.setSide ∧ bscEnterRecover s = bscLook x := by
  have hreport : reportIsland ((s.start .recover (minutes s.par.restore.recoverTimeout)).setIsland .recover) =
      dsIslandChange (scIslandChange (flAbandonSwap ((s.start .recover (minutes s.par.restore.recoverTimeout)).setIsland .recover))) :=
    congrArg (fun x => dsIslandChange (scIslandChange x)) (flIslandChange_of_recover rfl)
  refine ⟨_, ?_, congrArg (fun x => bscLook (bscHoldLive x)) hreport⟩
  exact ((setSide_of_offSet (bscHoldLive_offSet _)).trans (laterIslandReaders_setSide (by nofun))).trans rfl

theorem bscEnterRecover_leaves (s : State) :
    let u := bscEnterRecover s
    u.islandUp = true ∧ u.fl = { s.fl with swap := none } ∧ ∀ p, u.portSide p = s.portSide p := by
  obtain ⟨x, hx, hu⟩ := bscEnterRecover_eq s
  obtain ⟨hlook, hup⟩ := bscLook_leaves x
  have hall := hlook.trans (setSide_ladder hx)
  dsimp only
  rw [hu]
  exact ⟨hup ((islandUp_iff _).2 (.inr (setSide_island hx))), ladderSide_fl hall, fun p => ladderSide_port hall p⟩

/-- What a followed bus condition may make of the ladder: nothing while the island stays up, and the loss of the swap and of the
qualification at DEAD-WAIT. -/
structure State.Followed (s u : State) : Prop where
  side : ∀ p, u.portSide p = s.portSide p
  stages : u.fl.stages = s.fl.stages
  swap : s.fl.swap = none → u.fl.swap = none
  up : s.islandUp = true → u.islandUp = true → u.fl = s.fl
  down : s.islandUp = true → u.bsc.island = some .deadWait → u.fl.qualTimer = .stopped ∧ u.fl.qualified = false

theorem State.Followed.refl (s : State) : s.Followed s where
  side _ := rfl
  stages := rfl
  swap := id
  up _ _ := rfl
  down hup hdown := by simp [State.islandUp, hdown] at hup

theorem bscEnterDeadWait_followed (o : Origin) (s : State) : s.Followed (bscEnterDeadWait o s) := by
  obtain ⟨hdown, hfl, hside⟩ := bscEnterDeadWait_leaves o s
  exact ⟨hside, by rw [hfl], fun _ => by rw [hfl], fun _ hup => by simp [State.islandUp, hdown] at hup,
    fun _ _ => by rw [hfl]; exact ⟨rfl, rfl⟩⟩

/-- What comes of a dead island leaves the ladder but for its swap. -/
theorem State.Followed.of_dead (hdead : s.islandUp = false) (hside : ∀ p, u.portSide p = s.portSide p)
    (hfl : u.fl = s.fl ∨ u.fl = { s.fl with swap := none }) : s.Followed u := by
  have hnot (h : s.islandUp = true) : False := Bool.false_ne_true (hdead.symm.trans h)
  obtain hfl | hfl := hfl
  · exact ⟨hside, by rw [hfl], fun h => by rw [hfl, h], fun h => (hnot h).elim, fun h => (hnot h).elim⟩
  · exact ⟨hside, by rw [hfl], fun _ => by rw [hfl], fun h => (hnot h).elim, fun h => (hnot h).elim⟩

theorem bscFollow_followed (c : Condition) (s : State) : s.Followed (bscFollow c s) := by
  have hdown {i : Island} (h : s.bsc.island = some i) (hi : i ≠ .live ∧ i ≠ .recover) : s.islandUp = false := by
    simp [State.islandUp, h, hi]
  have hrecover {x : State} (hx : x.ladderSide = s.ladderSide) (hdead : s.islandUp = false) : s.Followed (bscEnterRecover x) := by
    obtain ⟨-, hfl, hside⟩ := bscEnterRecover_leaves x
    exact .of_dead hdead (fun p => (hside p).trans (ladderSide_port hx p)) (.inr (hfl.trans (by rw [ladderSide_fl hx])))
  cases hisland : s.bsc.island with
  | none =>
    unfold bscFollow
    rw [hisland]
    exact .refl s
  | some i =>
    cases i with
    | live =>
      rw [bscFollow_of_live hisland]
      split
      · exact bscEnterDeadWait_followed .live s
      · exact .refl s
    | recover =>
      rw [bscFollow_of_recover hisland]
      split
      · exact bscEnterDeadWait_followed .recover s
      · exact .refl s
    | dark =>
      rw [bscFollow_of_dark hisland]
      split
      · exact hrecover rfl (hdown hisland ⟨nofun, nofun⟩)
      · exact .refl s
    | deadWait =>
      obtain ⟨hother, hlive, hrecovers⟩ := bscFollow_of_deadWait (c := c) hisland
      by_cases hc : c = .live
      · subst hc
        cases horigin : s.bsc.origin with
        | live =>
          have hside := (bscEnterLive_leaves (s.cancel .dead)).1
          rw [hlive horigin]
          exact .of_dead (hdown hisland ⟨nofun, nofun⟩) (fun p => (ladderSide_port hside p :)) (.inl (ladderSide_fl hside :))
        | recover =>
          rw [hrecovers horigin]
          exact hrecover rfl (hdown hisland ⟨nofun, nofun⟩)
      · rw [hother hc]
        exact .refl s

/-- A record after reconstruction is followed. -/
theorem bscRecord_followed (hreconstructed : s.bsc.reconstructed = true) (c : Condition) : s.Followed (bscRecord c s) := by
  have hlive : (bscBusLive c s).offSet = s.offSet := by
    unfold bscBusLive
    split
    · unfold dsLostOrLive
      split
      · exact (dsEnterSync_offSet _).trans (sessionEnd_offSet s)
      · exact sessionEnd_offSet s
    · rfl
  have hside := ladderSide_of_offSet hlive
  have hup : (bscBusLive c s).islandUp = s.islandUp := by rw [State.islandUp, offSet_island hlive, ← State.islandUp]
  have hfl : (bscBusLive c s).fl = s.fl := ladderSide_fl hside
  obtain ⟨hports, hstages, hswap, hsame, hdown⟩ := bscFollow_followed c (bscBusLive c s)
  rw [hfl] at hstages hswap hsame
  rw [hup] at hsame hdown
  rw [show bscRecord c s = bscFollow c (bscBusLive c s) from if_pos hreconstructed]
  exact ⟨fun p => (hports p).trans (ladderSide_port hside p), hstages, hswap, hsame, hdown⟩
end

section
variable {s u v : State} {p k j : Port} {r : PortRecord} {f : Option Nat} {l : List Port}

/-! ### The under-frequency stages on a record (R142, R143) -/

/-- A stage's record after a record's f, and whether it trips. -/
def State.stageEval (s : State) (f : Option Nat) (k : Port) : Stage × Bool :=
  (s.fl.stages.get k).eval f (s.stagePickup k) (s.stagePickup k + (s.par.stage.get k).hysteresis) (s.par.stage.get k).count

/-- A stage's new record written. -/
def State.withStage (s : State) (k : Port) (x : Stage) : State := { s with fl := { s.fl with stages := s.fl.stages.set k x } }

theorem flStage_eq (f : Option Nat) (s : State) (k : Port) : flStage f s k =
    if (s.stageEval f k).2 = true then flTripAll (.shed .frequency) ((s.withStage k (s.stageEval f k).1).stagePorts k)
      (flAbandonSwap (s.withStage k (s.stageEval f k).1))
    else s.withStage k (s.stageEval f k).1 := rfl

theorem flStage_stages (f : Option Nat) (s : State) (k : Port) :
    (flStage f s k).fl.stages = s.fl.stages.set k (s.stageEval f k).1 := by
  rw [flStage_eq]
  split
  · exact congrArg Prod.fst (flTripAll_aside _ _ _)
  · rfl

theorem flStage_qual (f : Option Nat) (s : State) (k : Port) :
    (flStage f s k).fl.qualTimer = s.fl.qualTimer ∧ (flStage f s k).fl.qualified = s.fl.qualified := by
  rw [flStage_eq]
  split
  · have haside := flTripAll_aside (.shed .frequency) ((s.withStage k (s.stageEval f k).1).stagePorts k)
      (flAbandonSwap (s.withStage k (s.stageEval f k).1))
    exact ⟨congrArg (fun y => y.2.1) haside, congrArg (fun y => y.2.2.1) haside⟩
  · exact ⟨rfl, rfl⟩

theorem flStage_par (f : Option Nat) (s : State) (k : Port) : (flStage f s k).par = s.par := by
  rw [State.par, kept_cr (flStage_kept s f k), ← State.par]

/-- One stage leaves what another makes of the record. -/
theorem flStage_stageEval_other (h : k ≠ j) : (flStage f s j).stageEval f k = s.stageEval f k := by
  have hget : (flStage f s j).fl.stages.get k = s.fl.stages.get k := by rw [flStage_stages, Quad.get_set_other _ _ h]
  simp only [State.stageEval, State.stagePickup, State.fNom, hget, flStage_par]

theorem mem_stagePorts : p ∈ s.stagePorts k ↔ (s.par.port.get p).ufStage = k.num ∧ s.isClosedOrClosing p = true := by
  simp [State.stagePorts, Port.mem_all]

theorem flStage_portSide_other (h : (s.par.port.get p).ufStage = k.num → (s.stageEval f k).2 = false) :
    (flStage f s k).portSide p = s.portSide p := by
  rw [flStage_eq]
  split
  next htrips =>
    exact flTripAll_portSide_other (s := flAbandonSwap (s.withStage k (s.stageEval f k).1)) nofun fun hp =>
      Bool.false_ne_true ((h (mem_stagePorts.1 hp).1).symm.trans htrips)
  · rfl

theorem flStage_portSide_opening (h : s.portState p = some .opening) : (flStage f s k).portSide p = s.portSide p := by
  rw [flStage_eq]
  split
  · exact flTripAll_portSide_opening (s := flAbandonSwap (s.withStage k (s.stageEval f k).1)) nofun h
  · rfl

/-- A stage that trips takes its ports (R142). -/
theorem flStage_trips (htrips : (s.stageEval f k).2 = true) (hstage : (s.par.port.get p).ufStage = k.num) (h : s.tripReady p r) :
    (flStage f s k).tripped p (.shed .frequency) := by
  rw [flStage_eq, if_pos htrips]
  refine flTripAll_trips (s := flAbandonSwap (s.withStage k (s.stageEval f k).1)) nofun (r := r) h (mem_stagePorts.2 ⟨hstage, ?_⟩)
  obtain ⟨hport, ⟨hdraws, -⟩, -⟩ := h
  have hport' : (s.withStage k (s.stageEval f k).1).port p = some r := hport
  rw [State.isClosedOrClosing, State.portState, hport']
  obtain hst | hst := hdraws <;> simp [hst]

theorem flStage_swap (h : s.fl.swap = none ∨ (s.stageEval f k).2 = true) : (flStage f s k).fl.swap = none := by
  rw [flStage_eq]
  split
  · exact flTripAll_swap (s := flAbandonSwap (s.withStage k (s.stageEval f k).1)) rfl _ _
  next hnot => exact h.resolve_right hnot

/-! The stages in turn. -/

theorem stages_get (hl : l.Nodup) : (l.foldl (flStage f) s).fl.stages.get k =
    if k ∈ l then (s.stageEval f k).1 else s.fl.stages.get k := by
  induction l generalizing s with
  | nil => rfl
  | cons j l ih =>
    obtain ⟨hj, hl⟩ := List.nodup_cons.1 hl
    rw [List.foldl_cons, ih hl]
    by_cases hk : k = j
    · subst hk
      rw [if_neg hj, if_pos List.mem_cons_self, flStage_stages, Quad.get_set_same]
    · rw [flStage_stageEval_other hk, flStage_stages, Quad.get_set_other _ _ hk]
      exact if_congr (by simp [hk]) rfl rfl

theorem stages_portSide_opening (h : s.portState p = some .opening) : (l.foldl (flStage f) s).portSide p = s.portSide p := by
  induction l generalizing s with
  | nil => rfl
  | cons j l ih =>
    have hside := flStage_portSide_opening (f := f) (k := j) h
    exact (ih (by rwa [State.portState, portSide_port hside])).trans hside

theorem stages_portSide_other (hl : l.Nodup)
    (h : ∀ k ∈ l, (s.par.port.get p).ufStage = k.num → (s.stageEval f k).2 = false) :
    (l.foldl (flStage f) s).portSide p = s.portSide p := by
  induction l generalizing s with
  | nil => rfl
  | cons j l ih =>
    obtain ⟨hj, hl⟩ := List.nodup_cons.1 hl
    refine (ih hl fun k hk hstage => ?_).trans (flStage_portSide_other (h j List.mem_cons_self))
    rw [flStage_par] at hstage
    rw [flStage_stageEval_other (by rintro rfl; exact hj hk)]
    exact h k (List.mem_cons_of_mem _ hk) hstage

theorem stages_trip (hl : l.Nodup) (hk : k ∈ l) (htrips : (s.stageEval f k).2 = true)
    (hstage : (s.par.port.get p).ufStage = k.num) (h : s.tripReady p r) :
    (l.foldl (flStage f) s).tripped p (.shed .frequency) := by
  induction l generalizing s with
  | nil => nomatch hk
  | cons j l ih =>
    obtain ⟨hj, hl⟩ := List.nodup_cons.1 hl
    by_cases hkj : k = j
    · subst hkj
      have htripped := flStage_trips htrips hstage h
      exact State.tripped_of_portSide (stages_portSide_opening (s := flStage f s k) htripped.1) htripped
    · have hside : (flStage f s j).portSide p = s.portSide p :=
        flStage_portSide_other fun hj => absurd (Port.num_injective (hstage.symm.trans hj)) hkj
      refine ih hl ((List.mem_cons.1 hk).resolve_left hkj) ?_ ?_
        (State.tripReady_of_portSide hside (kept_inputs (flStage_kept s f j)) h)
      · rwa [flStage_stageEval_other hkj]
      · rwa [flStage_par]

theorem stages_swap (hl : l.Nodup) (h : s.fl.swap = none ∨ ∃ k ∈ l, (s.stageEval f k).2 = true) :
    (l.foldl (flStage f) s).fl.swap = none := by
  induction l generalizing s with
  | nil => exact h.resolve_right fun ⟨k, hk, _⟩ => nomatch hk
  | cons j l ih =>
    obtain ⟨hj, hl⟩ := List.nodup_cons.1 hl
    refine ih hl ?_
    obtain hnone | ⟨k, hk, htrips⟩ := h
    · exact .inl (flStage_swap (.inl hnone))
    · by_cases hkj : k = j
      · subst hkj
        exact .inl (flStage_swap (.inr htrips))
      · exact .inr ⟨k, (List.mem_cons.1 hk).resolve_left hkj, by rwa [flStage_stageEval_other hkj]⟩

theorem stages_qual (l : List Port) (s : State) : (l.foldl (flStage f) s).fl.qualTimer = s.fl.qualTimer ∧
    (l.foldl (flStage f) s).fl.qualified = s.fl.qualified := by
  induction l generalizing s with
  | nil => exact ⟨rfl, rfl⟩
  | cons j l ih =>
    obtain ⟨htimer, hflag⟩ := flStage_qual f s j
    obtain ⟨htimer', hflag'⟩ := ih (flStage f s j)
    exact ⟨htimer'.trans htimer, hflag'.trans hflag⟩
end

section
variable {s u v : State} {p k : Port} {r : PortRecord} {f : Option Nat} {t : Tick}

/-- A live island stays up while the ladder works. -/
theorem islandUp_keeps : LadderKeeps fun u => u.islandUp = true where
  ladder _ hs := hs
  breaker hsame hs := by
    obtain ⟨-, -, tac, rfl, -⟩ := hsame
    exact hs
  entered _ _ _ _ hs := hs
  looked {s} hs := (bscLook_leaves s).2 hs

theorem stages_islandUp (l : List Port) (h : s.islandUp = true) : (l.foldl (flStage f) s).islandUp = true :=
  foldl_keeps (P := fun u => u.islandUp = true) (f := flStage f) (fun s k hs => by
    rw [flStage_eq]
    split
    · exact flTripAll_keeps (s := flAbandonSwap (s.withStage k (s.stageEval f k).1)) islandUp_keeps _ (fun hd => by cases hd) _ hs
    · exact hs) l h

theorem stages_kept (l : List Port) (s : State) : (l.foldl (flStage f) s).kept = s.kept :=
  foldl_keeps (P := fun u => u.kept = s.kept) (fun s k hs => (flStage_kept s f k).trans hs) l rfl

theorem Port.all_nodup : Port.all.Nodup := by decide

theorem State.feeders_iff : s.feeders = true ↔ s.cr.params.isSome = true ∧ 1 ≤ s.par.station.feederCount := by
  simp [State.feeders, State.started]

/-- Nothing that the ladder does takes the reconstruction back. -/
theorem reconstructed_keeps : LadderKeeps fun u => u.bsc.reconstructed = true where
  ladder _ hs := hs
  breaker hsame hs := by
    obtain ⟨-, -, tac, rfl, -⟩ := hsame
    exact hs
  entered _ _ _ _ hs := hs
  looked {s} hs := by
    have hlive := (bscHoldLive_offSet (dsIslandChange ((clearPreDark (s.cancel .recover)).setIsland .live))).trans
      (dsIslandChange_offSet ((clearPreDark (s.cancel .recover)).setIsland .live) nofun)
    unfold bscLook
    split
    · rw [bscEnterLive, offSet_bsc hlive]
      exact hs
    · exact hs

/-- The ladder on a record, after reconstruction and in operation: its stages, its trips and the restore qualification. -/
theorem exec_closes_ladder {c : Instr} (hc : s.closesCycle c t) (hparams : s.cr.params.isSome = true)
    (hports : 1 ≤ s.par.station.feederCount) (hop : s.operating = true) (hreconstructed : s.bsc.reconstructed = true) :
    ∃ u r m hi, exec c s = .next u ∧ u.mu.latest = some r ∧
      (flQualify r.f (Port.all.foldl (flStage r.f) (s.atRecord t m hi))).Followed u := by
  obtain ⟨m, hi, r, hr, hexec⟩ := exec_closes hc
  have hrecord : flRecord r.f (s.atRecord t m hi) = flQualify r.f (Port.all.foldl (flStage r.f) (s.atRecord t m hi)) := by
    rw [flRecord, if_pos ((State.feeders_iff (s := s.atRecord t m hi)).2 ⟨hparams, hports⟩),
      if_pos (show (s.atRecord t m hi).operating = true from hop)]
  have hkept : (flRecord r.f (s.atRecord t m hi)).kept = (s.atRecord t m hi).kept := flRecord_kept _ _
  have hrec : (flRecord r.f (s.atRecord t m hi)).bsc.reconstructed = true := flRecord_keeps reconstructed_keeps hreconstructed
  generalize flRecord r.f (s.atRecord t m hi) = w at hexec hkept hrec hrecord
  obtain ⟨hside, hstages, hswap, hup, hdown⟩ := bscRecord_followed hrec r.busCondition
  have hset := dsRecord_setSide r (bscRecord r.busCondition w)
  have hfl := ladderSide_fl (setSide_ladder hset)
  have hisland := setSide_island hset
  refine ⟨_, r, m, hi, hexec, ?_, hrecord ▸ ⟨fun p => (ladderSide_port (setSide_ladder hset) p).trans (hside p),
    by rw [hfl, hstages], fun h => by rw [hfl, hswap h], fun hw hu => ?_, fun hw hu => ?_⟩⟩
  · rw [kept_mu ((dsRecord_kept _ _).trans (bscRecord_kept _ _)), kept_mu hkept]
    exact hr
  · rw [hfl]
    exact hup hw (by rwa [State.islandUp, hisland, ← State.islandUp] at hu)
  · rw [hfl]
    exact hdown hw (hisland ▸ hu)

/-- The under-frequency stage on a record's f (R142). -/
theorem stageEval_spec (s : State) (f : Option Nat) (k : Port) :
    let x := s.fl.stages.get k
    let pickup : Int := s.par.station.nominalHz * 1000 - (s.par.stage.get k).threshold
    let below : Prop := ∃ v, f = some v ∧ (v : Int) < pickup
    (f = none → s.stageEval f k = (x, false)) ∧
    (x.latch = true → ∀ v, f = some v → s.stageEval f k =
      (if pickup + (s.par.stage.get k).hysteresis ≤ v then ⟨0, false⟩ else x, false)) ∧
    (x.latch = false → ∀ v, f = some v → pickup ≤ v → s.stageEval f k = (⟨0, false⟩, false)) ∧
    (x.latch = false → below → x.count + 1 < (s.par.stage.get k).count → s.stageEval f k = (⟨x.count + 1, false⟩, false)) ∧
    (x.latch = false → below → (s.par.stage.get k).count ≤ x.count + 1 → s.stageEval f k = (⟨0, true⟩, true)) := by
  intro x pickup below
  have hpickup : s.stagePickup k = pickup := by simp [State.stagePickup, State.fNom, pickup]
  have heval : s.stageEval f k = x.eval f pickup (pickup + (s.par.stage.get k).hysteresis) (s.par.stage.get k).count := by
    rw [State.stageEval, hpickup]
  rw [heval]
  clear_value x pickup
  refine ⟨?_, ?_, ?_, ?_, ?_⟩
  · rintro rfl
    rfl
  · rintro hlatch v rfl
    simp only [Stage.eval, hlatch, if_true]
    split <;> rfl
  · rintro hlatch v rfl hv
    simp only [Stage.eval, hlatch, Bool.false_eq_true, if_false, if_neg (not_lt.2 hv)]
  · rintro hlatch ⟨v, rfl, hv⟩ hcount
    simp only [Stage.eval, hlatch, Bool.false_eq_true, if_false, if_pos hv, if_neg (not_le.2 hcount)]
  · rintro hlatch ⟨v, rfl, hv⟩ hcount
    simp only [Stage.eval, hlatch, Bool.false_eq_true, if_false, if_pos hv, if_pos hcount]

/-- A stage trips on a record exactly at its count below the pickup. -/
theorem stageEval_trips (s : State) (f : Option Nat) (k : Port) : (s.stageEval f k).2 = true ↔
    (s.fl.stages.get k).latch = false ∧
      (∃ v, f = some v ∧ (v : Int) < s.par.station.nominalHz * 1000 - (s.par.stage.get k).threshold) ∧
      (s.par.stage.get k).count ≤ (s.fl.stages.get k).count + 1 := by
  obtain ⟨hnone, hlatched, hhigh, hlow, htrip⟩ := stageEval_spec s f k
  refine ⟨fun h => ?_, fun ⟨hlatch, hbelow, hcount⟩ => by rw [htrip hlatch hbelow hcount]⟩
  cases f with
  | none => rw [hnone rfl] at h; cases h
  | some v =>
    cases hlatch : (s.fl.stages.get k).latch with
    | true => rw [hlatched hlatch v rfl] at h; cases h
    | false =>
      refine ⟨rfl, ⟨v, rfl, ?_⟩, ?_⟩
      · by_contra hv
        rw [hhigh hlatch v rfl (not_lt.1 hv)] at h
        cases h
      · by_contra hcount
        by_cases hv : (v : Int) < s.par.station.nominalHz * 1000 - (s.par.stage.get k).threshold
        · rw [hlow hlatch ⟨v, rfl, hv⟩ (not_le.1 hcount)] at h
          cases h
        · rw [hhigh hlatch v rfl (not_lt.1 hv)] at h
          cases h

/-- Settles O41: the stages, their trips and the restore qualification on each record. -/
theorem stagesCountAndTrip : Obligations.StagesCountAndTrip := by
  intro c t s hc hparams hports hop hreconstructed
  obtain ⟨u, r, m, hi, hexec, hr, hside, hstages, hswap, hup, hdown⟩ := exec_closes_ladder hc hparams hports hop hreconstructed
  intro pickup below trips
  have htrips (k : Port) : (s.stageEval r.f k).2 = true ↔ trips k r.f := stageEval_trips s r.f k
  have hfold := stages_kept (f := r.f) Port.all (s.atRecord t m hi)
  have hget (k : Port) : (Port.all.foldl (flStage r.f) (s.atRecord t m hi)).fl.stages.get k = (s.stageEval r.f k).1 :=
    (stages_get (s := s.atRecord t m hi) Port.all_nodup).trans (if_pos (Port.mem_all k))
  have hother (p : Port) (h : ∀ k, (s.par.port.get p).ufStage = k.num → ¬ trips k r.f) :
      (Port.all.foldl (flStage r.f) (s.atRecord t m hi)).portSide p = s.portSide p :=
    stages_portSide_other (s := s.atRecord t m hi) Port.all_nodup fun k _ hk =>
      Bool.eq_false_iff.2 fun h' => h k (show (s.par.port.get p).ufStage = k.num from hk) ((htrips k).1 h')
  have hswapped (h : ∃ k, trips k r.f) : (Port.all.foldl (flStage r.f) (s.atRecord t m hi)).fl.swap = none := by
    obtain ⟨k, hk⟩ := h
    exact stages_swap (s := s.atRecord t m hi) Port.all_nodup (.inr ⟨k, Port.mem_all k, (htrips k).2 hk⟩)
  have htrip {k p : Port} {x : PortRecord} (hk : trips k r.f) (hp : (s.par.port.get p).ufStage = k.num) (hx : s.tripReady p x) :
      (Port.all.foldl (flStage r.f) (s.atRecord t m hi)).tripped p (.shed .frequency) :=
    stages_trip (s := s.atRecord t m hi) Port.all_nodup (Port.mem_all k) ((htrips k).2 hk) hp hx
  have hlive (h : s.islandUp = true) : (Port.all.foldl (flStage r.f) (s.atRecord t m hi)).islandUp = true :=
    stages_islandUp (s := s.atRecord t m hi) Port.all h
  obtain ⟨htimer, hflag⟩ := stages_qual (f := r.f) Port.all (s.atRecord t m hi)
  generalize Port.all.foldl (flStage r.f) (s.atRecord t m hi) = v at *
  have hcr : v.cr = s.cr := (kept_cr hfold :)
  have htb : v.tb = t := (kept_tb hfold :)
  have hqual := flQualify_eq r.f v
  obtain ⟨x, b, hladder⟩ := flQualify_ladder r.f v
  have hqside (p : Port) : (flQualify r.f v).portSide p = v.portSide p := by rw [hladder]; rfl
  have hqstages : (flQualify r.f v).fl.stages = v.fl.stages := by rw [hladder]
  have hqswap : (flQualify r.f v).fl.swap = v.fl.swap := by rw [hladder]
  have hqup : (flQualify r.f v).islandUp = v.islandUp := by rw [hladder]; rfl
  have hstage (k : Port) : u.fl.stages.get k = (s.stageEval r.f k).1 := by rw [hstages, hqstages, hget]
  refine ⟨u, r, hexec, hr, fun k => ?_, fun k p x hk hp hx hdraws hheld hidle hlocal hlevel => ?_, fun p h => ?_, fun h => ?_, ?_⟩
  · obtain ⟨hnone, hlatched, hhigh, hlow, htripped⟩ := stageEval_spec s r.f k
    rw [hstage]
    exact ⟨fun h => by rw [hnone h], fun hl v hv => by rw [hlatched hl v hv], fun hl v hv hp => by rw [hhigh hl v hv hp],
      fun hl hb hcount => by rw [hlow hl hb hcount], fun ⟨hl, hb, hcount⟩ => by rw [htripped hl hb hcount]⟩
  · exact State.tripped_of_portSide ((hside p).trans (hqside p)) (htrip hk hp ⟨hx, ⟨hdraws, hheld⟩, hlocal, hlevel, hidle⟩)
  · exact portSide_port (((hside p).trans (hqside p)).trans (hother p h))
  · exact hswap (hqswap.trans (hswapped h))
  · intro healthy
    have hpar : v.par = s.par := by rw [State.par, hcr, ← State.par]
    have hhealthy : (∃ n, r.f = some n ∧ (v.fNom : Int) - s.par.restore.band ≤ n) ↔ healthy := by
      simp [healthy, State.fNom, hpar]
    refine ⟨fun hsu huu => ?_, fun hsu => hdown (hqup.trans (hlive hsu))⟩
    have hop' : v.operating = true := by rwa [State.operating, hcr, ← State.operating]
    rw [if_pos ⟨hop', hlive hsu⟩, hpar, hcr, htb] at hqual
    rw [hup (hqup.trans (hlive hsu)) huu, hqual]
    refine ⟨fun h htimer' hflag' => ?_, fun h hnot => ?_, fun h => ?_⟩
    · rw [if_pos (hhealthy.2 h), if_pos ⟨htimer.trans htimer', hflag.trans hflag'⟩]
      exact ⟨hflag.trans hflag', rfl⟩
    · rw [if_pos (hhealthy.2 h), if_neg]
      · exact ⟨htimer, hflag⟩
      · rintro ⟨htimer', hflag'⟩
        rw [htimer] at htimer'
        rw [hflag] at hflag'
        obtain hrun | hset := hnot
        · rw [show s.fl.qualTimer = .stopped from htimer'] at hrun
          cases hrun
        · exact Bool.false_ne_true (hflag'.symm.trans hset)
    · rw [if_neg (mt hhealthy.1 h)]
      exact ⟨rfl, rfl⟩
end

end Sys2Proof.Machine
end

section
/-! SUPPORT. The qualified positions of the feeder breakers. -/

namespace Sys2Proof.Machine

section
variable {s : State} {p : Port} {r : PortRecord}

/-! ### The qualified positions of a feeder breaker (R139, R140) -/

/-- A port in a state with a cause, entered now, with no window left and every other port as it was. -/
def State.Becomes (s u : State) (p : Port) (st : PortState) (cause : Option ShedCause) : Prop :=
  ∃ r', u.port p = some r' ∧ r'.state = st ∧ r'.shedCause = cause ∧ r'.destination = none ∧ r'.lastChange = s.tb ∧
    u.ret.ports.get p = some (st, cause) ∧ u.window (.feeder p) = .closedOut ∧
    (u.tac.alarm.portFaulted.get p = true ↔ st = .faulted) ∧ ∀ q, q ≠ p → u.port q = s.port q

theorem flEnter_becomes (hport : s.port p = some r) (hwindow : s.window (.feeder p) = .closedOut) (st : PortState)
    (cause : Option ShedCause) : s.Becomes (flEnter p st none cause s) p st cause := by
  refine ⟨r.entered st none cause s.tb (s.ripenessOf p st cause), ?_, rfl, rfl, rfl, rfl, ?_, ?_, ?_, fun q hq => ?_⟩
  · rw [flEnter_port_same, hport]
    rfl
  · exact flEnter_retained ..
  · rw [flEnter_window, hwindow]
  · rw [flEnter_portFaulted, beq_iff_eq]
  · exact flEnter_port_other hq st none cause s

theorem flOpenConfirmed_of_no_swap {cause : ShedCause} (hdest : (s.port p).bind (·.destination) = some (.shed cause)) (h : s.fl.swap = none) :
    flOpenConfirmed p s = flEnter p .shed none (some cause) s := by
  have hswap : (flEnter p .shed none (some cause) s).fl.swap = none := by rw [flEnter_swap, h, Option.bind_none]
  unfold flOpenConfirmed
  rw [hdest]
  dsimp only
  rw [hswap]

theorem flOpenConfirmed_black (hdest : (s.port p).bind (·.destination) = some .blackOpen) :
    flOpenConfirmed p s = flEnter p .blackOpen none none s := by
  unfold flOpenConfirmed
  rw [hdest]

theorem breakerQualified_feeder_confirms {x : Bool} {y : Timer} (h : s.window (.feeder p) = .watching .fl x y) :
    breakerQualified (.feeder p) x s = flConfirmed p (s.putWindow (.feeder p) .closedOut) := by
  unfold breakerQualified
  rw [h]
  exact if_pos rfl

theorem breakerQualified_feeder_changed (h : s.window (.feeder p) = .closedOut) (x : Bool) :
    breakerQualified (.feeder p) x s = flBreakerChange p x s := by
  unfold breakerQualified
  rw [h]

theorem exec_feederQualified {level : Bool} (h : s.qualifies (.feederCb p) level) :
    exec (.inputQualified (.feederCb p)) s = .next (breakerQualified (.feeder p) level (s.qualify (.feederCb p) level)) :=
  exec_inputQualified h

/-- A confirmed window of a port whose breaker has reached the level that it waits for (R139). -/
theorem exec_feederConfirmed {level : Bool} {x : Timer} (h : s.qualifies (.feederCb p) level) (hport : s.port p = some r)
    (hwindow : s.window (.feeder p) = .watching .fl level x) {st : PortState} {cause : Option ShedCause}
    (hconfirmed : ∀ v : State, v.port p = some r → v.fl.swap = s.fl.swap → flConfirmed p v = flEnter p st none cause v) :
    ∃ u, exec (.inputQualified (.feederCb p)) s = .next u ∧ s.Becomes u p st cause := by
  refine ⟨_, (exec_feederQualified h).trans (congrArg _ (breakerQualified_feeder_confirms
    (s := s.qualify (.feederCb p) level) hwindow)), ?_⟩
  rw [hconfirmed ((s.qualify (.feederCb p) level).putWindow (.feeder p) .closedOut) hport rfl]
  exact flEnter_becomes (s := (s.qualify (.feederCb p) level).putWindow (.feeder p) .closedOut) hport (State.window_putWindow_same ..) st cause

/-- A change of a port's breaker that no window awaits (R140). -/
theorem exec_feederMoved {level : Bool} (h : s.qualifies (.feederCb p) level) (hport : s.port p = some r)
    (hwindow : s.window (.feeder p) = .closedOut) {st : PortState}
    (hchange : ∀ v : State, v.port p = some r → flBreakerChange p level v = flEnter p st none none v) :
    ∃ u, exec (.inputQualified (.feederCb p)) s = .next u ∧ s.Becomes u p st none := by
  refine ⟨_, (exec_feederQualified h).trans (congrArg _ (breakerQualified_feeder_changed
    (s := s.qualify (.feederCb p) level) hwindow _)), ?_⟩
  rw [hchange (s.qualify (.feederCb p) level) hport]
  exact flEnter_becomes (s := s.qualify (.feederCb p) level) hport hwindow st none

theorem flConfirmed_closing (hport : s.port p = some r) (h : r.state = .closing) : flConfirmed p s = flEnter p .closed none none s := by
  simp only [flConfirmed, State.portState, hport, Option.map_some, h, flCloseConfirmed]

theorem flConfirmed_opening (hport : s.port p = some r) (h : r.state = .opening) : flConfirmed p s = flOpenConfirmed p s := by
  simp only [flConfirmed, State.portState, hport, Option.map_some, h]

theorem flBreakerChange_closed (hport : s.port p = some r) (h : r.state = .closed) :
    flBreakerChange p false s = flEnter p .faulted none none s := by
  simp only [flBreakerChange, State.portState, hport, Option.map_some, h]

theorem flBreakerChange_open (hport : s.port p = some r) (h : r.state = .shed ∨ r.state = .blackOpen) :
    flBreakerChange p true s = flEnter p .closed none none s := by
  obtain h | h := h <;> simp only [flBreakerChange, State.portState, hport, Option.map_some, h]

/-- Settles O42. -/
theorem breakerPositionsMovePorts : Obligations.BreakerPositionsMovePorts := by
  intro p r level x s hphase hport hswap hdue hsample becomes
  have hqual : s.qualifies (.feederCb p) level := ⟨by simp [State.runs, hphase], hdue, hsample⟩
  have hbecomes {st : PortState} {cause : Option ShedCause}
      (h : ∃ u, exec (.inputQualified (.feederCb p)) s = .next u ∧ s.Becomes u p st cause) : becomes st cause := by
    obtain ⟨u, hu, r', h⟩ := h
    exact ⟨u, r', hu, h⟩
  have hdest {v : State} (hv : v.port p = some r) : (v.port p).bind (·.destination) = r.destination := by rw [hv]; rfl
  refine ⟨fun hw hl hst => hbecomes ?_, fun cause hw hl hst hd => hbecomes ?_, fun hw hl hst hd => hbecomes ?_,
    fun hw hl hst => hbecomes ?_, fun hw hl hst => hbecomes ?_⟩ <;> subst hl
  · exact exec_feederConfirmed hqual hport hw fun v hv _ => flConfirmed_closing hv hst
  · exact exec_feederConfirmed hqual hport hw fun v hv hsw => by
      rw [flConfirmed_opening hv hst, flOpenConfirmed_of_no_swap ((hdest hv).trans hd) (hsw.trans hswap)]
  · exact exec_feederConfirmed hqual hport hw fun v hv _ => by rw [flConfirmed_opening hv hst, flOpenConfirmed_black ((hdest hv).trans hd)]
  · exact exec_feederMoved hqual hport hw fun v hv => flBreakerChange_closed hv hst
  · exact exec_feederMoved hqual hport hw fun v hv => flBreakerChange_open hv hst
end

end Sys2Proof.Machine
end

section
/-! SUPPORT. The restore step and the rotation swap. -/

namespace Sys2Proof.Machine

section
variable {s u v : State} {p q : Port} {r : PortRecord}

/-! ### The close of a port (R138) -/

theorem State.operating_iff : s.operating = true ↔ s.cr.mode = .coordinated ∨ s.cr.mode = .autonomous := by simp [State.operating]

theorem State.closeInFlight_iff :
    s.closeInFlight = false ↔ ∀ q x, s.port q = some x → x.state ≠ .closing ∧ x.closeActive = false := by
  refine ⟨fun h q x hx => ?_, fun h => List.any_eq_false.2 fun q _ => ?_⟩
  · have hnot := State.closeInFlight_eq_false h q
    exact ⟨fun hst => hnot ⟨x, hx, .inl hst⟩, Bool.eq_false_iff.2 fun hactive => hnot ⟨x, hx, .inr hactive⟩⟩
  · cases hx : s.port q with
    | none => simp
    | some x =>
      obtain ⟨hst, hactive⟩ := h q x hx
      simp [hst, hactive]

theorem State.closeInFlight_of_active (hport : s.port p = some r) (h : r.closeActive = true) : s.closeInFlight = true := by
  rw [← Bool.not_eq_false, State.closeInFlight_iff]
  intro hnone
  rw [(hnone p r hport).2] at h
  cases h

theorem State.mayClose_iff : s.mayClose p = true ↔ s.operating = true ∧ s.islandUp = true ∧ s.closeInFlight = false ∧
    ∃ x, s.port p = some x ∧ (x.state = .shed ∨ x.state = .blackOpen) ∧ x.localHeld = false := by
  unfold State.mayClose
  cases s.port p <;> simp [and_assoc]

/-- A port whose channels are IDLE and whose LOCAL is not asserted. -/
def State.quiet (s : State) (p : Port) : Prop :=
  s.level (.feederLocal p) ≠ .asserted ∧ s.pulse (.feederClose p) = .idle ∧ s.pulse (.feederTrip p) = .idle

theorem Pulse.isActive_eq_false_iff {x : Pulse} : x.isActive = false ↔ x = .idle := by cases x <;> simp [Pulse.isActive]

theorem localRefuses_feeder_eq_false : s.localRefuses (.feeder p) = false ↔ s.level (.feederLocal p) ≠ .asserted := by
  rw [← Bool.not_eq_true, localRefuses_feeder]

/-- A close of a port that is not quiet is IGNORED or REFUSED (R22, R25). -/
theorem requestClose_feeder_of_not_quiet (h : ¬ s.quiet p) (r : Requester) (w : Nat) (confirm : Bool) :
    ∃ a, s.requestClose (.feeder p) r w confirm = (⟨a, false, false⟩, s) ∧ a ≠ .started := by
  by_cases hlocal : s.level (.feederLocal p) = .asserted
  · exact ⟨_, (State.requests_of_localRefuses (localRefuses_feeder.2 hlocal) r w confirm).1, nofun⟩
  · cases hclose : (s.pulse (.feederClose p)).isActive with
    | true => exact ⟨_, State.requestClose_of_close_active (localRefuses_feeder_eq_false.2 hlocal) hclose r w confirm, nofun⟩
    | false =>
      cases htrip : (s.pulse (.feederTrip p)).isActive with
      | true => exact ⟨_, State.requestClose_of_trip_active (localRefuses_feeder_eq_false.2 hlocal) hclose htrip r w confirm, nofun⟩
      | false => exact absurd ⟨hlocal, Pulse.isActive_eq_false_iff.1 hclose, Pulse.isActive_eq_false_iff.1 htrip⟩ h

/-- A close of a quiet port whose breaker is not yet closed is STARTED (R22, R26). -/
theorem requestClose_feeder_of_quiet (h : s.quiet p) (hlevel : s.level (.feederCb p) ≠ .asserted) (w : Nat) :
    ∃ v, s.requestClose (.feeder p) .fl w true = (⟨.started, false, false⟩, v) ∧ s.SameButBreaker (.feeder p) v ∧
      v.portSide p = (s.port p, .active .fl (.running s.tb (pulseTicks w)), .idle,
        .watching .fl true (.running s.tb (s.par.diesel.confirmTime * 10000))) := by
  obtain ⟨hlocal, hclose, htrip⟩ := h
  have hlocal := localRefuses_feeder_eq_false.2 hlocal
  have hidle : (s.pulse (closeChannel (.feeder p))).isActive = false := Pulse.isActive_eq_false_iff.2 hclose
  have hidle' : (s.pulse (tripChannel (.feeder p))).isActive = false := Pulse.isActive_eq_false_iff.2 htrip
  have heq := State.requestClose_of_idle hlocal hidle hidle' .fl w true
  obtain ⟨hconfirmed, hwindow⟩ := (State.windowOpened_requestClose hlocal hidle hidle' .fl w).2 hlevel
  have hsame : s.SameButBreaker (.feeder p)
      ((s.beginPulse (.feederClose p) .fl w).openWindowIf true (.feeder p) .fl true).2 :=
    (State.SameButBreaker.refl _ s).request (.inl rfl) .fl w true true
  have hpulse : ((s.beginPulse (.feederClose p) .fl w).openWindowIf true (.feeder p) .fl true).2.pulse (.feederClose p) =
      .active .fl (.running s.tb (pulseTicks w)) := by
    rw [State.pulse_openWindowIf, State.pulse_beginPulse_same _ _ _ (c := .feederClose p) (by nofun)]
    rfl
  have hpulse' : ((s.beginPulse (.feederClose p) .fl w).openWindowIf true (.feeder p) .fl true).2.pulse (.feederTrip p) = .idle := by
    rw [State.pulse_openWindowIf, State.pulse_beginPulse_other _ _ _ (c := .feederClose p) (d := .feederTrip p) (by nofun), htrip]
  rw [heq] at hconfirmed hwindow ⊢
  refine ⟨_, congrArg (fun x => ((⟨.started, false, x⟩ : PulseReply), _)) hconfirmed, hsame, ?_⟩
  exact congrArg₂ Prod.mk (sameButBreaker_port hsame p) (congrArg₂ Prod.mk hpulse (congrArg₂ Prod.mk hpulse' hwindow))

/-- The record of a port whose close has begun. -/
def State.closingRecord (s : State) (r : PortRecord) : PortRecord :=
  { r with
    state := .closing, destination := none, shedCause := none, lastChange := s.tb, closeActive := true, ripe := false
    ripeness := .stopped }

theorem flClose_of_not_quiet (h : ¬ s.quiet p) : flClose p s = (false, s) := by
  obtain ⟨a, hclose, ha⟩ := requestClose_feeder_of_not_quiet h .fl (s.par.port.get p).pulseWidth true
  unfold flClose
  split
  · rw [hclose]
    cases a with
    | started => exact absurd rfl ha
    | ignored => rfl
    | refused => rfl
  · rfl

theorem flClose_of_not_mayClose (h : s.mayClose p = false) : flClose p s = (false, s) := if_neg (by simp [h])

/-- A close that is taken: the port is CLOSING, and waits for its breaker (R138). -/
theorem flClose_of_quiet (hmay : s.mayClose p = true) (hport : s.port p = some r) (h : s.quiet p)
    (hlevel : s.level (.feederCb p) ≠ .asserted) : ∃ v, flClose p s = (true, v) ∧
      v.portSide p = (some (s.closingRecord r), .active .fl (.running s.tb (pulseTicks (s.par.port.get p).pulseWidth)), .idle,
        .watching .fl true (.running s.tb (s.par.diesel.confirmTime * 10000))) ∧
      (∀ q, q ≠ p → v.portSide q = s.portSide q) ∧ v.kept = s.kept ∧ v.fl.swap = s.fl.swap.bind (·.onChange p .closing) ∧
      (s.bsc.island = some .live → v.bsc.island = some .live) := by
  obtain ⟨w, hw, hsame, hside⟩ := requestClose_feeder_of_quiet h hlevel (s.par.port.get p).pulseWidth
  have heq : flClose p s = (true, flEnter p .closing none none (w.modifyPort p fun r => { r with closeActive := true })) := by
    unfold flClose
    rw [if_pos hmay, hw]
    rfl
  have hother (q : Port) (hq : q ≠ p) := flClose_portSide hq s
  have hkept : (flClose p s).2.kept = s.kept := flClose_kept s p
  rw [heq] at hother hkept ⊢
  refine ⟨_, rfl, ?_, hother, hkept, ?_, fun hlive => ?_⟩
  · have hport' : w.port p = some r := (sameButBreaker_port hsame p).trans hport
    rw [flEnter_portSide_same, State.ripenessOf_eq_stopped _ rfl, State.portSide_modifyPort_same, State.port_modifyPort_same, hport',
      hside, show (w.modifyPort p _).tb = s.tb from hsame.tb]
    rfl
  · rw [flEnter_swap]
    exact (congrArg (fun x : Fl => x.swap.bind (·.onChange p .closing)) hsame.fl :)
  · have hisland : w.bsc.island = some .live := by
      obtain ⟨-, -, tac, rfl, -⟩ := hsame
      exact hlive
    rw [flEnter_eq, bscLook_of_not_recover]
    · exact hisland
    · rw [show (portEntered p .closing none none (w.modifyPort p fun r => { r with closeActive := true })).bsc.island = _ from hisland]
      nofun

/-- A started close leaves its port with the close active, whether or not it is confirmed at once (R138, R139). -/
theorem flClose_started (h : (flClose p s).1 = true) : s.mayClose p = true ∧ (flClose p s).2.closeInFlight = true ∧
    (s.fl.swap = none → (flClose p s).2.fl.swap = none) := by
  cases hmay : s.mayClose p with
  | false =>
    rw [flClose_of_not_mayClose hmay] at h
    cases h
  | true =>
    obtain ⟨-, -, -, r, hport, -⟩ := State.mayClose_iff.1 hmay
    refine ⟨rfl, ?_⟩
    have hclosing {w : State} (hsame : s.SameButBreaker (.feeder p) w) (confirmed : Bool) :
        let x := flEnter p .closing none none (w.modifyPort p fun r => { r with closeActive := true })
        let z := if confirmed then flCloseConfirmed p x else x
        z.closeInFlight = true ∧ (s.fl.swap = none → z.fl.swap = none) := by
      have hport' : (w.modifyPort p fun r => { r with closeActive := true }).port p = some { r with closeActive := true } := by
        rw [State.port_modifyPort_same, sameButBreaker_port hsame, hport]
        rfl
      have hswap (hnone : s.fl.swap = none) : (w.modifyPort p fun r => { r with closeActive := true }).fl.swap = none :=
        (congrArg Fl.swap hsame.fl).trans hnone
      generalize w.modifyPort p (fun r => { r with closeActive := true }) = w at hport' hswap
      cases confirmed with
      | false =>
        refine ⟨State.closeInFlight_of_active (p := p) (flEnter_port_same ..|>.trans (congrArg _ hport')) rfl, fun hnone => ?_⟩
        exact (flEnter_swap ..).trans (by rw [hswap hnone]; rfl)
      | true =>
        refine ⟨State.closeInFlight_of_active (p := p)
          (flEnter_port_same ..|>.trans (congrArg _ (flEnter_port_same ..|>.trans (congrArg _ hport')))) rfl, fun hnone => ?_⟩
        refine (flEnter_swap ..).trans ?_
        rw [flEnter_swap, hswap hnone]
        rfl
    unfold flClose at h ⊢
    rw [if_pos hmay] at h ⊢
    split at h
    next cut confirmed w hw =>
      exact hclosing (sameButBreaker_of_requestClose hw) confirmed
    next w hw => cases h

/-- The announced step: the frame of the STEP notice and the dwell of the island state (R148, R149). -/
theorem flAnnounceStep_leaves (p : Port) (s : State) :
    let u := flAnnounceStep p s
    (s.ilc.transmitter.enabled = true →
      u.ilc.slots.step.frame = some (stepPayload p.num (s.par.port.get p).shedRank (s.coldLoadKw p))) ∧
    u.fl = { s.fl with spacing := .running s.tb (10000000 *
      (if s.bsc.island = some .recover then s.par.restore.blackStepDwell else s.par.restore.stepDwell)) } ∧
    u.bsc = s.bsc ∧ ∀ q, u.portSide q = s.portSide q := by
  have hside (q : Port) : (flAnnounceStep p s).portSide q = s.portSide q := flAnnounceStep_portSide p q s
  unfold flAnnounceStep at hside ⊢
  obtain ⟨hon, h⟩ | ⟨hoff, h⟩ := s.placeFrame_cases .step (stepPayload p.num (s.par.port.get p).shedRank (s.coldLoadKw p)) <;>
    rw [h] at hside ⊢
  · exact ⟨fun _ => rfl, congrArg (fun d => { s.fl with spacing := .running s.tb d }) (Nat.mul_comm ..), rfl, hside⟩
  · exact ⟨fun hon => by simp [hoff] at hon, congrArg (fun d => { s.fl with spacing := .running s.tb d }) (Nat.mul_comm ..), rfl, hside⟩
end

section
variable {s u v : State} {p q o c : Port} {r : PortRecord}

/-! ### The loads and the overload timer at new figures (R137, R146) -/

/-- The record of a port with its load set where the port is CLOSED. -/
def PortRecord.loaded (r : PortRecord) (n : Nat) : PortRecord := if r.state = .closed then { r with load := n } else r

theorem PortRecord.loaded_state (r : PortRecord) (n : Nat) : (r.loaded n).state = r.state ∧ (r.loaded n).closeActive = r.closeActive ∧
    (r.loaded n).localHeld = r.localHeld ∧ (r.loaded n).ripe = r.ripe ∧ (r.loaded n).tripOwed = r.tripOwed ∧
    (r.state ≠ .closed → r.loaded n = r) := by
  unfold PortRecord.loaded
  split
  next h => exact ⟨rfl, rfl, rfl, rfl, rfl, fun hn => absurd h hn⟩
  · exact ⟨rfl, rfl, rfl, rfl, rfl, fun _ => rfl⟩

/-- The ports of a state but for the loads of the CLOSED ones. -/
def State.Loaded (s y : State) : Prop := ∀ q, ∃ n, y.port q = (s.port q).map (·.loaded n)

theorem flRecordLoads_fold {l : List Port} (hl : l.Nodup) (s : State) :
    ∃ ports, l.foldl (fun s p => s.modifyPort p fun r => if r.state = .closed then { r with load := clamp16 (s.mu.mean.feeder.get p) } else r) s =
        { s with fl := { s.fl with ports := ports } } ∧ (∀ q, q ∉ l → ports.get q = s.port q) ∧
      ∀ q, q ∈ l → ∃ n, ports.get q = (s.port q).map (·.loaded n) := by
  induction l generalizing s with
  | nil => exact ⟨s.fl.ports, rfl, fun _ _ => rfl, nofun⟩
  | cons p l ih =>
    obtain ⟨hp, hl⟩ := List.nodup_cons.1 hl
    obtain ⟨ports, hfold, hout, hin⟩ := ih hl (s.modifyPort p (·.loaded (clamp16 (s.mu.mean.feeder.get p))))
    refine ⟨ports, hfold, fun q hq => ?_, fun q hq => ?_⟩
    · obtain ⟨hne, hq⟩ := not_or.1 (mt List.mem_cons.2 hq)
      exact (hout q hq).trans (State.port_modifyPort_other hne _)
    · by_cases hqp : q = p
      · subst hqp
        exact ⟨_, (hout q hp).trans (State.port_modifyPort_same q _)⟩
      · obtain ⟨n, hn⟩ := hin q ((List.mem_cons.1 hq).resolve_left hqp)
        exact ⟨n, by rw [hn, State.port_modifyPort_other hqp]⟩

/-- What the ladder does before it judges a step (R137, R146). -/
theorem flJudgeOverload_loaded (s : State) : s.Loaded (flJudgeOverload (flRecordLoads s)) ∧ ∃ ports overload,
    flJudgeOverload (flRecordLoads s) = { s with fl := { s.fl with ports := ports, overload := overload } } := by
  obtain ⟨ports, hfold, -, hin⟩ := flRecordLoads_fold Port.all_nodup s
  have hports (q : Port) : ∃ n, ports.get q = (s.port q).map (·.loaded n) := hin q (Port.mem_all q)
  rw [show flRecordLoads s = _ from hfold]
  unfold flJudgeOverload
  split
  · split
    · split
      · exact ⟨hports, ports, _, rfl⟩
      · exact ⟨hports, ports, _, rfl⟩
    · exact ⟨hports, ports, _, rfl⟩
  · exact ⟨hports, ports, _, rfl⟩

/-- What is read of a port beside its load stands. -/
theorem State.Loaded.map (h : s.Loaded u) {α : Type} {f : PortRecord → α} (hf : ∀ r n, f (r.loaded n) = f r) (q : Port) :
    (u.port q).map f = (s.port q).map f := by
  obtain ⟨n, hn⟩ := h q
  rw [hn, Option.map_map]
  exact Option.map_congr fun r _ => hf r n

theorem State.Loaded.portState (h : s.Loaded u) (q : Port) : u.portState q = s.portState q :=
  h.map (fun r n => (r.loaded_state n).1) q

theorem State.Loaded.port_of_not_closed (h : s.Loaded u) (hport : s.port p = some r) (hr : r.state ≠ .closed) : u.port p = some r := by
  obtain ⟨n, hn⟩ := h p
  obtain ⟨-, -, -, -, -, hsame⟩ := r.loaded_state n
  rw [hn, hport, Option.map_some, hsame hr]

theorem State.Loaded.closeInFlight (h : s.Loaded u) : u.closeInFlight = s.closeInFlight := by
  unfold State.closeInFlight
  refine congrArg (Port.all.any ·) (funext fun q => congrArg (·.getD false) (h.map (fun r n => ?_) q))
  rw [(r.loaded_state n).1, (r.loaded_state n).2.1]

/-! ### The restore step and the start of a swap (R149, R152) -/

theorem Port.ofNum_eq_some {n : Nat} : Port.ofNum n = some p ↔ n = p.num := by
  refine ⟨fun h => ?_, fun h => by subst h; cases p <;> rfl⟩
  unfold Port.ofNum at h
  split at h <;> cases h <;> rfl

theorem State.ownCandidate_eq_some : s.ownCandidate = some p ↔
    ∃ x, s.be.figures.candidate = some x ∧ x.address = s.address ∧ x.port = p.num := by
  unfold State.ownCandidate
  rw [Option.bind_eq_some_iff]
  refine exists_congr fun x => and_congr_right fun _ => ?_
  split
  next h => simp [h, Port.ofNum_eq_some]
  next h => simp [h]

theorem State.latched_eq_false : s.latched = false ↔ ∀ k, (s.fl.stages.get k).latch = false := by
  unfold State.latched Quad.toList
  refine ⟨fun h k => ?_, fun h => ?_⟩
  · simp only [List.any_cons, List.any_nil, Bool.or_eq_false_iff] at h
    obtain ⟨h1, h2, h3, h4, -⟩ := h
    cases k <;> assumption
  · simp only [List.any_cons, List.any_nil, Bool.or_eq_false_iff]
    exact ⟨h .f1, h .f2, h .f3, h .f4, trivial⟩

/-- The conditions of a restore step for an own port (R149). -/
def State.stepsTo (s : State) (p : Port) : Prop :=
  s.ownCandidate = some p ∧ s.restoreReady = true ∧ (s.cr.mode = .coordinated → s.be.figures.candidateFits = true) ∧ s.mayClose p = true

theorem flRestore_of_stepsTo (h : s.stepsTo p) :
    flRestore s = if (flClose p s).1 then flAnnounceStep p (flClose p s).2 else (flClose p s).2 := by
  obtain ⟨hcandidate, hready, hfits, -⟩ := h
  unfold flRestore
  rw [hcandidate]
  dsimp only
  rw [if_pos]
  · split
    next hv => rw [hv]; rfl
    next hv => rw [hv]; rfl
  · by_cases hmode : s.cr.mode = .coordinated
    · simp [hready, hfits hmode]
    · simp [hready, hmode]

theorem flRestore_of_not_stepsTo (h : ∀ p, ¬ s.stepsTo p) : flRestore s = s := by
  unfold flRestore
  split
  next p hcandidate =>
    split
    next hcond =>
      simp only [Bool.and_eq_true, Bool.or_eq_true, bne_iff_ne] at hcond
      obtain ⟨hready, hfits⟩ := hcond
      cases hmay : s.mayClose p with
      | true => exact absurd ⟨hcandidate, hready, fun hmode => hfits.resolve_left (not_not.2 hmode), hmay⟩ (h p)
      | false => rw [flClose_of_not_mayClose hmay]
    · rfl
  · rfl

/-- The conditions of a swap (R152). -/
def State.swaps (s : State) (o c : Port) : Prop :=
  s.oldestRotating .shed = some c ∧ s.oldestRotating .closed = some o ∧ s.fl.swap = none ∧ s.cr.mode = .coordinated ∧
    s.bsc.island = some .live ∧ s.latched = false ∧ s.fl.qualified = true ∧ s.fl.spacing = .stopped ∧ s.closeInFlight = false ∧
    s.be.figures.candidateFits = false ∧ s.isRipe c = true ∧ (s.port c).map (·.localHeld) = some false ∧ s.isRipe o = true

theorem Timer.isRunning_eq_false {x : Timer} : x.isRunning = false ↔ x = .stopped := by cases x <;> simp [Timer.isRunning]

/-- The state in which a swap requests its trip (R152). -/
def State.swapping (s : State) (o c : Port) : State := { s with fl := { s.fl with swap := some ⟨o, c, .opening⟩ } }

theorem flStartSwap_of_swaps (h : s.swaps o c) :
    flStartSwap s = if (flTrip o (.shed .rotation) (s.swapping o c)).1 then (flTrip o (.shed .rotation) (s.swapping o c)).2
      else flAbandonSwap (flTrip o (.shed .rotation) (s.swapping o c)).2 := by
  obtain ⟨hc, ho, hswap, hmode, hisland, hlatch, hqualified, hspacing, hclose, hfits, hripe, hlocal, hripe'⟩ := h
  unfold flStartSwap State.swapping
  rw [hc, ho]
  dsimp only
  rw [if_pos]
  · split
    next hv => rw [hv]; rfl
    next hv => rw [hv]; rfl
  · simp [hswap, hmode, hisland, hlatch, hqualified, hspacing, hclose, hfits, hripe, hlocal, hripe', Timer.isRunning]

theorem flStartSwap_of_not_swaps (h : ∀ o c, ¬ s.swaps o c) : flStartSwap s = s := by
  unfold flStartSwap
  split
  next c o hc ho =>
    refine if_neg fun hcond => h o c ?_
    simp only [Bool.and_eq_true, Option.isNone_iff_eq_none, decide_eq_true_eq, Bool.not_eq_true'] at hcond
    obtain ⟨⟨⟨⟨⟨⟨⟨⟨⟨⟨hswap, hmode⟩, hisland⟩, hlatch⟩, hqualified⟩, hspacing⟩, hclose⟩, hfits⟩, hripe⟩, hlocal⟩, hripe'⟩ := hcond
    refine ⟨hc, ho, hswap, hmode, hisland, hlatch, hqualified, Timer.isRunning_eq_false.1 hspacing, hclose, hfits, hripe, ?_, hripe'⟩
    cases hx : (s.port c).map (·.localHeld) with
    | none => simp [hx] at hlocal
    | some b => simpa [hx] using hlocal
  · rfl
end

section
variable {s u v : State} {p q o c : Port} {r : PortRecord} {t : Tick}

/-! ### The ladder at new figures -/

/-- A state in which the ladder is about to judge its step at figures that have just been computed in another. -/
structure State.JudgedFrom (s y : State) (t : Tick) : Prop where
  loaded : s.Loaded y
  ladder : y.fl = { s.fl with ports := y.fl.ports, overload := y.fl.overload }
  cr : y.cr = s.cr
  island : y.bsc.island = s.bsc.island
  breaker : ∀ q, (y.portSide q).2 = (s.portSide q).2
  step : y.ilc.slots.step = s.ilc.slots.step
  tb : y.tb = t
  address : y.address = s.address
  inputs : y.tac.inputs = s.tac.inputs
  transmitter : y.ilc.transmitter = s.ilc.transmitter

/-- The end of a period reaches the ladder's step by way of the readers before it and of its own loads (R89). -/
theorem exec_balance_steps (hdue : s.due .balance t) (hparams : s.cr.params.isSome = true) (hports : 1 ≤ s.par.station.feederCount) :
    ∃ y, exec .balancePeriodExpiry s = .next (flStartSwap (flRestore y)) ∧ s.JudgedFrom y t ∧
      (flStartSwap (flRestore y)).be = y.be := by
  have hbeside := firstReaders_besideDiesel (s.computed t)
  have hkept : (scFigures (dsFigures (s.computed t))).kept = (s.computed t).kept := by simp
  obtain ⟨hloaded, ports, overload, heq⟩ := flJudgeOverload_loaded (scFigures (dsFigures (s.computed t)))
  have hfigures := readers_kept (s.computed t)
  have hexec := exec_balance hdue
  generalize scFigures (dsFigures (s.computed t)) = w at hbeside hkept hloaded heq hfigures hexec
  have hfl : w.fl = s.fl := (congrArg Prod.fst hbeside :)
  have hcr : w.cr = s.cr := (congrArg (fun x => x.2.1) hbeside :)
  have hside : w.portSide = s.portSide := (congrArg (fun x => x.2.2.2.1) hbeside :)
  have hfeeders : w.feeders = true := by
    simp only [State.feeders, State.started, State.par, hcr, Bool.and_eq_true, decide_eq_true_eq]
    exact ⟨hparams, hports⟩
  rw [flFigures, if_pos hfeeders] at hfigures hexec
  have hbe : (flJudgeOverload (flRecordLoads w)).be = w.be := by rw [heq]
  refine ⟨_, hexec, ?_, (kept_be hfigures).trans ((kept_be hkept).symm.trans hbe.symm)⟩
  rw [heq] at hloaded ⊢
  exact {
    loaded := fun q => by
      obtain ⟨n, hn⟩ := hloaded q
      exact ⟨n, hn.trans (congrArg (fun x : Fl => (x.ports.get q).map (·.loaded n)) hfl)⟩
    ladder := by rw [hfl]
    cr := hcr
    island := (congrArg (fun x => x.2.2.1) hbeside :)
    breaker := fun q => (congrArg (fun x => (x q).2) hside :)
    step := (congrArg (fun x => x.2.2.2.2) hbeside :)
    tb := (kept_tb hkept :)
    address := (kept_address hkept :)
    inputs := (kept_inputs hkept :)
    transmitter := (kept_transmitter hkept :) }

theorem State.JudgedFrom.pulse {y : State} (h : s.JudgedFrom y t) (q : Port) :
    y.pulse (.feederClose q) = s.pulse (.feederClose q) ∧ y.pulse (.feederTrip q) = s.pulse (.feederTrip q) :=
  ⟨congrArg Prod.fst (h.breaker q), congrArg (fun x => x.2.1) (h.breaker q)⟩

theorem State.JudgedFrom.level {y : State} (h : s.JudgedFrom y t) (i : InputLine) : y.level i = s.level i := State.level_eq h.inputs i

theorem State.JudgedFrom.quiet {y : State} (h : s.JudgedFrom y t) : y.quiet p ↔ s.quiet p := by
  obtain ⟨hclose, htrip⟩ := h.pulse p
  unfold State.quiet
  rw [h.level, hclose, htrip]

/-- The conditions that the statement of the restore step names, read at the figures (R149). -/
theorem State.JudgedFrom.stepsTo_iff {y : State} (h : s.JudgedFrom y t) : y.stepsTo p ↔
    (s.bsc.island = some .live ∨ s.bsc.island = some .recover) ∧ (s.cr.mode = .coordinated ∨ s.cr.mode = .autonomous) ∧
      (∀ k, (s.fl.stages.get k).latch = false) ∧ s.fl.qualified = true ∧ s.fl.spacing = .stopped ∧
      (∀ q x, s.port q = some x → x.state ≠ .closing ∧ x.closeActive = false) ∧ s.fl.swap = none ∧
      (∃ c, y.be.figures.candidate = some c ∧ c.address = s.address ∧ c.port = p.num) ∧
      (∃ x, s.port p = some x ∧ (x.state = .shed ∨ x.state = .blackOpen) ∧ x.localHeld = false) ∧
      (s.cr.mode = .coordinated → y.be.figures.candidateFits = true) := by
  have hup : y.islandUp = s.islandUp := by simp only [State.islandUp, h.island]
  have hop : y.operating = s.operating := by simp only [State.operating, h.cr]
  have hlatch : y.latched = s.latched := by unfold State.latched; rw [h.ladder]
  have hstate : (∃ x, y.port p = some x ∧ (x.state = .shed ∨ x.state = .blackOpen) ∧ x.localHeld = false) ↔
      ∃ x, s.port p = some x ∧ (x.state = .shed ∨ x.state = .blackOpen) ∧ x.localHeld = false := by
    obtain ⟨n, hn⟩ := h.loaded p
    rw [hn]
    cases s.port p with
    | none => simp
    | some x =>
      obtain ⟨hst, -, hlocal, -⟩ := x.loaded_state n
      simp [hst, hlocal]
  unfold State.stepsTo State.restoreReady
  rw [State.ownCandidate_eq_some, h.address, State.mayClose_iff, hstate, hup, hop, hlatch, h.loaded.closeInFlight, h.cr, h.ladder]
  simp only [Bool.and_eq_true, Bool.not_eq_true', Option.isNone_iff_eq_none, islandUp_iff, State.operating_iff, State.latched_eq_false,
    Timer.isRunning_eq_false, State.closeInFlight_iff]
  constructor
  · rintro ⟨hcandidate, ⟨⟨⟨⟨⟨⟨hup, hop⟩, hlatch⟩, hqualified⟩, hspacing⟩, hclose⟩, hswap⟩, hfits, -, -, -, hport⟩
    exact ⟨hup, hop, hlatch, hqualified, hspacing, hclose, hswap, hcandidate, hport, hfits⟩
  · rintro ⟨hup, hop, hlatch, hqualified, hspacing, hclose, hswap, hcandidate, hport, hfits⟩
    exact ⟨hcandidate, ⟨⟨⟨⟨⟨⟨hup, hop⟩, hlatch⟩, hqualified⟩, hspacing⟩, hclose⟩, hswap⟩, hfits, hop, hup, hclose, hport⟩

/-- The conditions that the statement of the swap names, read at the figures (R152). -/
theorem State.JudgedFrom.swaps_iff {y : State} (h : s.JudgedFrom y t) : y.swaps o c ↔
    s.fl.swap = none ∧ s.cr.mode = .coordinated ∧ s.bsc.island = some .live ∧ (∀ k, (s.fl.stages.get k).latch = false) ∧
      s.fl.qualified = true ∧ s.fl.spacing = .stopped ∧
      (∀ q x, s.port q = some x → x.state ≠ .closing ∧ x.closeActive = false) ∧ y.be.figures.candidateFits = false ∧
      s.fl.queue.find? (fun p => s.portState p == some .shed) = some c ∧
      s.fl.queue.find? (fun p => s.portState p == some .closed) = some o ∧
      (∃ x, s.port c = some x ∧ x.ripe = true ∧ x.localHeld = false) ∧ ∃ x, s.port o = some x ∧ x.ripe = true := by
  have hlatch : y.latched = s.latched := by unfold State.latched; rw [h.ladder]
  have holdest (st : PortState) : y.oldestRotating st = s.fl.queue.find? fun p => s.portState p == some st := by
    unfold State.oldestRotating
    rw [h.ladder]
    exact congrArg (s.fl.queue.find? ·) (funext fun p => by rw [h.loaded.portState])
  have hripe (q : Port) : y.isRipe q = true ↔ ∃ x, s.port q = some x ∧ x.ripe = true := by
    unfold State.isRipe
    rw [h.loaded.map (fun r n => (r.loaded_state n).2.2.2.1) q]
    cases s.port q <;> simp
  have hlocal : (y.port c).map (·.localHeld) = some false ↔ ∃ x, s.port c = some x ∧ x.localHeld = false := by
    rw [h.loaded.map (fun r n => (r.loaded_state n).2.2.1) c]
    cases s.port c <;> simp
  have hshed : (∃ x, s.port c = some x ∧ x.ripe = true ∧ x.localHeld = false) ↔
      (∃ x, s.port c = some x ∧ x.ripe = true) ∧ ∃ x, s.port c = some x ∧ x.localHeld = false := by
    cases s.port c <;> simp
  unfold State.swaps
  rw [holdest, holdest, hripe, hripe, hlocal, hshed, hlatch, h.loaded.closeInFlight, h.cr, h.island, State.latched_eq_false,
    State.closeInFlight_iff, h.ladder]
  constructor
  · rintro ⟨hc, ho, hswap, hmode, hisland, hlatch, hqualified, hspacing, hclose, hfits, hripe, hlocal, hripe'⟩
    exact ⟨hswap, hmode, hisland, hlatch, hqualified, hspacing, hclose, hfits, hc, ho, ⟨hripe, hlocal⟩, hripe'⟩
  · rintro ⟨hswap, hmode, hisland, hlatch, hqualified, hspacing, hclose, hfits, hc, ho, ⟨hripe, hlocal⟩, hripe'⟩
    exact ⟨hc, ho, hswap, hmode, hisland, hlatch, hqualified, hspacing, hclose, hfits, hripe, hlocal, hripe'⟩
end

section
variable {s u v y : State} {p q o c : Port} {r : PortRecord} {t : Tick}

/-! ### What the restore step and the start of a swap leave -/

theorem flStartSwap_of_spacing (h : s.fl.spacing ≠ .stopped) : flStartSwap s = s :=
  flStartSwap_of_not_swaps fun _ _ ⟨_, _, _, _, _, _, _, hspacing, _⟩ => h hspacing

/-- A close that is not STARTED changes nothing. -/
theorem flClose_not_started (h : (flClose p s).1 = false) : (flClose p s).2 = s := by
  by_cases hquiet : s.quiet p
  · obtain ⟨hlocal, hclose, htrip⟩ := hquiet
    have hrequest := State.requestClose_of_idle (b := .feeder p) (localRefuses_feeder_eq_false.2 hlocal)
      (Pulse.isActive_eq_false_iff.2 hclose) (Pulse.isActive_eq_false_iff.2 htrip) .fl (s.par.port.get p).pulseWidth true
    cases hmay : s.mayClose p with
    | false => rw [flClose_of_not_mayClose hmay]
    | true =>
      rw [flClose, if_pos hmay, hrequest] at h
      cases h
  · rw [flClose_of_not_quiet hquiet]

/-- A restore step whose close is not STARTED changes nothing, and no swap starts where a step may be taken (R149, R152). -/
theorem flStartSwap_of_stepsTo (h : s.stepsTo p) (hclose : (flClose p s).1 = false) : flStartSwap (flRestore s) = s := by
  rw [flRestore_of_stepsTo h, if_neg (by simp [hclose]), flClose_not_started hclose]
  refine flStartSwap_of_not_swaps fun o c ⟨_, _, _, hmode, _, _, _, _, _, hfits, _⟩ => ?_
  obtain ⟨-, -, hfits', -⟩ := h
  rw [hfits' hmode] at hfits
  cases hfits

/-- A restore step whose close is STARTED is announced, and no swap starts (R149, R152). -/
theorem flStartSwap_of_closed (h : s.stepsTo p) (hclose : (flClose p s).1 = true) :
    flStartSwap (flRestore s) = flAnnounceStep p (flClose p s).2 := by
  rw [flRestore_of_stepsTo h, if_pos hclose]
  refine flStartSwap_of_spacing ?_
  obtain ⟨-, hfl, -⟩ := flAnnounceStep_leaves p (flClose p s).2
  rw [hfl]
  nofun

/-- Settles O43, the close of the restore step. -/
theorem stepsTo_closes (h : s.JudgedFrom y t) (hsteps : y.stepsTo p) (hport : s.port p = some r) (hquiet : s.quiet p)
    (hlevel : s.level (.feederCb p) ≠ .asserted) :
    let u := flStartSwap (flRestore y)
    u.portState p = some .closing ∧ (u.port p).map (·.closeActive) = some true ∧ (u.pulse (.feederClose p)).isActive = true ∧
      (u.window (.feeder p)).isWatching = true ∧
      u.fl.spacing = .running t (10000000 *
        (if u.bsc.island = some .recover then s.par.restore.blackStepDwell else s.par.restore.stepDwell)) ∧
      (s.ilc.transmitter.enabled = true → u.ilc.slots.step.frame =
        some (stepPayload p.num (s.par.port.get p).shedRank ((s.par.port.get p).coldLoad * r.load / 100 : Nat))) ∧
      ∀ q, q ≠ p → u.portState q = s.portState q ∧ u.pulse (.feederClose q) = s.pulse (.feederClose q) := by
  have hmay := hsteps.2.2.2
  obtain ⟨-, -, -, x, hx, hstate, -⟩ := State.mayClose_iff.1 hmay
  have hr : y.port p = some r := by
    obtain ⟨n, hn⟩ := h.loaded p
    rw [hn, hport, Option.map_some] at hx
    obtain ⟨hst, -⟩ := r.loaded_state n
    refine h.loaded.port_of_not_closed hport fun hclosed => ?_
    rw [← Option.some.inj hx, hst, hclosed] at hstate
    simp at hstate
  obtain ⟨v, hclose, hside, hother, hkept, -⟩ := flClose_of_quiet hmay hr (h.quiet.2 hquiet) (by rwa [h.level])
  obtain ⟨hframe, hfl, hbsc, hannounced⟩ := flAnnounceStep_leaves p v
  have hvport : v.port p = some (y.closingRecord r) := congrArg Prod.fst hside
  have hpar : v.par = s.par := by unfold State.par; rw [kept_cr hkept, h.cr]
  have hu := flStartSwap_of_closed hsteps (by rw [hclose])
  rw [hclose] at hu
  dsimp only at hu ⊢
  rw [hu, hfl, hbsc, kept_tb hkept, h.tb, hpar, State.portState, portSide_port (hannounced p), portSide_close (hannounced p), hvport]
  refine ⟨rfl, rfl, ?_, ?_, rfl, fun hon => ?_, fun q hq => ⟨?_, ?_⟩⟩
  · rw [show v.pulse (.feederClose p) = _ from congrArg (fun x => x.2.1) hside]
    rfl
  · rw [show (flAnnounceStep p v).window (.feeder p) = _ from congrArg (fun x => x.2.2.2) ((hannounced p).trans hside)]
    rfl
  · rw [hframe (by rw [kept_transmitter hkept, h.transmitter, hon]), State.coldLoadKw, hpar, hvport]
    rfl
  · rw [State.portState, portSide_port ((hannounced q).trans (hother q hq))]
    exact h.loaded.portState q
  · rw [portSide_close ((hannounced q).trans (hother q hq))]
    exact (h.pulse q).1

/-- Settles O43, the close of the restore step that is IGNORED or REFUSED. -/
theorem stepsTo_not_quiet (h : s.JudgedFrom y t) (hsteps : y.stepsTo p) (hspacing : s.fl.spacing = .stopped) (hquiet : ¬ s.quiet p) :
    let u := flStartSwap (flRestore y)
    u.fl.spacing = .stopped ∧ u.ilc.slots.step = s.ilc.slots.step ∧
      ∀ q, u.portState q = s.portState q ∧ u.pulse (.feederClose q) = s.pulse (.feederClose q) := by
  dsimp only
  rw [flStartSwap_of_stepsTo hsteps (by rw [flClose_of_not_quiet (mt h.quiet.1 hquiet)])]
  exact ⟨by rw [h.ladder, hspacing], h.step, fun q => ⟨h.loaded.portState q, (h.pulse q).1⟩⟩

/-! ### The trip of a swap -/

/-- A trip is not requested or refused, owed, or begun (R138). -/
theorem flTrip_cases (hport : s.port p = some r) (dest : Destination) :
    ((¬ r.trippable ∨ s.level (.feederLocal p) = .asserted) ∧ flTrip p dest s = (false, s)) ∨
    ((s.pulse (.feederTrip p)).isActive = true ∧ flTrip p dest s = (false, s.modifyPort p fun r => { r with tripOwed := some dest })) ∨
    (r.trippable ∧ s.level (.feederLocal p) ≠ .asserted ∧ (s.pulse (.feederTrip p)).isActive = false ∧ flTrip p dest s =
      (true, if s.level (.feederCb p) = .released then flOpenConfirmed p (openingOf p dest s) else openingOf p dest s)) := by
  by_cases hr : r.trippable
  · by_cases hlocal : s.level (.feederLocal p) = .asserted
    · refine .inl ⟨.inr hlocal, ?_⟩
      unfold flTrip
      rw [if_pos ((flTrip_condition hport).2 hr), (State.requests_of_localRefuses (localRefuses_feeder.2 hlocal) _ _ _).2]
    · cases hactive : (s.pulse (.feederTrip p)).isActive with
      | true => exact .inr (.inl ⟨rfl, flTrip_of_active hport hr hlocal hactive dest⟩)
      | false => exact .inr (.inr ⟨hr, hlocal, rfl, flTrip_of_idle hport hr hlocal hactive dest⟩)
  · exact .inl ⟨.inl hr, flTrip_of_not_trippable hport hr dest⟩

theorem portState_modifyPort {g : PortRecord → PortRecord} (hg : ∀ r, (g r).state = r.state) (s : State) (p q : Port) :
    (s.modifyPort p g).portState q = s.portState q := by
  unfold State.portState
  by_cases hq : q = p
  · rw [hq, State.port_modifyPort_same, Option.map_map]
    exact Option.map_congr fun r _ => hg r
  · rw [State.port_modifyPort_other hq]

theorem swaps_ports (h : s.swaps o c) : s.portState o = some .closed ∧ s.portState c = some .shed ∧ o ≠ c := by
  obtain ⟨hc, ho, -⟩ := h
  have hclosed : s.portState o = some .closed := by simpa using List.find?_some ho
  have hshed : s.portState c = some .shed := by simpa using List.find?_some hc
  refine ⟨hclosed, hshed, ?_⟩
  rintro rfl
  rw [hclosed] at hshed
  cases hshed

/-- A swap that starts only trips (R152): no close begins, and no port becomes CLOSING. -/
theorem flStartSwap_closes_none (hlevel : ∀ q, s.portState q = some .closed → s.level (.feederCb q) ≠ .released) (p : Port) :
    ((s.pulse (.feederClose p)).isActive = false → ((flStartSwap s).pulse (.feederClose p)).isActive = false) ∧
      ((flStartSwap s).portState p = some .closing → s.portState p = some .closing) := by
  by_cases hswaps : ∃ o c, s.swaps o c
  · obtain ⟨o, c, hswaps⟩ := hswaps
    obtain ⟨hclosed, -⟩ := swaps_ports hswaps
    obtain ⟨r, hport, hr⟩ := Option.map_eq_some_iff.1 (show (s.port o).map (·.state) = some .closed from hclosed)
    have heq := flStartSwap_of_swaps hswaps
    obtain ⟨-, htrip⟩ | ⟨-, htrip⟩ | ⟨-, hlocal, hidle, htrip⟩ :=
      flTrip_cases (s := s.swapping o c) (p := o) hport (.shed .rotation)
    · rw [show flStartSwap s = flAbandonSwap (s.swapping o c) by rw [heq, htrip, if_neg nofun]]
      exact ⟨id, id⟩
    · rw [show flStartSwap s = flAbandonSwap ((s.swapping o c).modifyPort o fun r => { r with tripOwed := some (.shed .rotation) }) by
        rw [heq, htrip, if_neg nofun]]
      exact ⟨id, fun hclosing => (portState_modifyPort
        (g := fun r => { r with tripOwed := some (.shed .rotation) }) (fun _ => rfl) (s.swapping o c) o p).symm.trans hclosing⟩
    · rw [show flStartSwap s = openingOf o (.shed .rotation) (s.swapping o c) by
        rw [heq, htrip, if_pos rfl]; exact if_neg (hlevel o hclosed)]
      by_cases hp : p = o
      · subst hp
        have hside := openingOf_portSide (s := s.swapping p c) hport hlocal hidle (.shed .rotation)
        refine ⟨fun _ => ?_, fun hclosing => ?_⟩
        · rw [show (openingOf p _ _).pulse (.feederClose p) = .idle from congrArg (fun x => x.2.1) hside]
          rfl
        · rw [State.portState, show (openingOf p _ _).port p = _ from congrArg Prod.fst hside] at hclosing
          cases hclosing
      · have hside := openingOf_portSide_other hp (.shed .rotation) (s.swapping o c)
        rw [State.portState, portSide_port hside, portSide_close hside]
        exact ⟨id, id⟩
  · rw [flStartSwap_of_not_swaps fun o c h => hswaps ⟨o, c, h⟩]
    exact ⟨id, id⟩

/-- Settles O43, the trip of a swap. -/
theorem swaps_trips (hswaps : s.swaps o c) (hport : s.port o = some r) (hheld : r.localHeld = false)
    (hlocal : s.level (.feederLocal o) ≠ .asserted) (hidle : s.pulse (.feederTrip o) = .idle)
    (hlevel : s.level (.feederCb o) ≠ .released) :
    let u := flStartSwap s
    u.fl.swap = some ⟨o, c, .opening⟩ ∧ u.portState o = some .opening ∧ (u.port o).bind (·.destination) = some (.shed .rotation) ∧
      (u.pulse (.feederTrip o)).isActive = true := by
  obtain ⟨hclosed, -, hne⟩ := swaps_ports hswaps
  have hr : r.trippable := by
    rw [State.portState, hport] at hclosed
    exact ⟨.inl (Option.some.inj hclosed), hheld⟩
  have hidle : ((s.swapping o c).pulse (.feederTrip o)).isActive = false := Pulse.isActive_eq_false_iff.2 hidle
  have htrip := flTrip_of_idle (s := s.swapping o c) hport hr hlocal hidle (.shed .rotation)
  rw [if_neg (show (s.swapping o c).level (.feederCb o) ≠ .released from hlevel)] at htrip
  have hside := openingOf_portSide (s := s.swapping o c) hport hlocal hidle (.shed .rotation)
  have hrecord : (openingOf o (.shed .rotation) (s.swapping o c)).port o = some ((s.swapping o c).openingRecord o r (.shed .rotation)) :=
    congrArg Prod.fst hside
  dsimp only
  rw [show flStartSwap s = openingOf o (.shed .rotation) (s.swapping o c) by
    rw [flStartSwap_of_swaps hswaps, htrip, if_pos rfl], State.portState, hrecord,
    show (openingOf o _ _).pulse (.feederTrip o) = _ from congrArg (fun x => x.2.2.1) hside]
  refine ⟨?_, rfl, rfl, rfl⟩
  have hsame := (sameButBreaker_requestTrip (s.swapping o c) (.feeder o) .fl ((s.swapping o c).par.port.get o).pulseWidth true).fl
  unfold openingOf
  rw [flEnter_swap]
  refine (congrArg (fun x : Fl => x.swap.bind (·.onChange o .opening)) hsame).trans ?_
  simp [State.swapping, Swap.onChange, hne]

/-- Settles O43, a swap whose trip is not STARTED. -/
theorem swaps_refused (hswaps : s.swaps o c) (hport : s.port o = some r) (h : r.localHeld = true ∨ s.level (.feederLocal o) = .asserted ∨
      (s.pulse (.feederTrip o)).isActive = true) :
    (flStartSwap s).fl.swap = none ∧ (flStartSwap s).portState o = some .closed := by
  obtain ⟨hclosed, -⟩ := swaps_ports hswaps
  have htrip : (flTrip o (.shed .rotation) (s.swapping o c)).1 = false ∧
      (flTrip o (.shed .rotation) (s.swapping o c)).2.portState o = some .closed := by
    obtain ⟨-, htrip⟩ | ⟨-, htrip⟩ | ⟨hr, hlocal, hidle, -⟩ := flTrip_cases (s := s.swapping o c) (p := o) hport (.shed .rotation)
    · rw [htrip]
      exact ⟨rfl, hclosed⟩
    · rw [htrip]
      exact ⟨rfl, (portState_modifyPort (g := fun r => { r with tripOwed := some (.shed .rotation) }) (fun _ => rfl) (s.swapping o c) o o).trans hclosed⟩
    · have hactive := (h.resolve_left (by rw [hr.2]; nofun)).resolve_left hlocal
      exact absurd (hactive.symm.trans hidle) nofun
  obtain ⟨hrefused, hstate⟩ := htrip
  have heq : flStartSwap s = flAbandonSwap (flTrip o (.shed .rotation) (s.swapping o c)).2 := by
    rw [flStartSwap_of_swaps hswaps]
    exact if_neg (by rw [hrefused]; nofun)
  rw [heq]
  exact ⟨rfl, hstate⟩

/-- Settles O43, no swap starts where its conditions do not hold. -/
theorem swap_stands (hswaps : ∀ o c, ¬ s.swaps o c) : (flStartSwap (flRestore s)).fl.swap = s.fl.swap := by
  by_cases hsteps : ∃ p, s.stepsTo p
  · obtain ⟨p, hsteps⟩ := hsteps
    cases hclose : (flClose p s).1 with
    | false => rw [flStartSwap_of_stepsTo hsteps hclose]
    | true =>
      have hnone : s.fl.swap = none := by
        have hready := hsteps.2.1
        simp only [State.restoreReady, Bool.and_eq_true, Option.isNone_iff_eq_none] at hready
        exact hready.2
      obtain ⟨-, hfl, -⟩ := flAnnounceStep_leaves p (flClose p s).2
      rw [flStartSwap_of_closed hsteps hclose, hfl, hnone]
      exact (flClose_started hclose).2.2 hnone
  · rw [flRestore_of_not_stepsTo fun p h => hsteps ⟨p, h⟩, flStartSwap_of_not_swaps hswaps]
end

section
variable {s u v : State} {p q o c : Port} {x y r : PortRecord} {t : Tick}

/-! ### A swap goes on (R152) -/

theorem level_qualify_other {i j : InputLine} (h : j ≠ i) (level : Bool) (s : State) : (s.qualify i level).level j = s.level j := by
  unfold State.level
  exact congrArg Qualifier.level (Qualifiers.get_set_other _ _ h)

/-- The opening of a swap confirmed: its close is requested in the state in which the opened port is SHED. -/
theorem flOpenConfirmed_swaps (hport : s.port o = some x) (hdest : x.destination = some (.shed .rotation))
    (hswap : s.fl.swap = some ⟨o, c, .opening⟩) (hne : o ≠ c) :
    flOpenConfirmed o s = flSwapClose ⟨o, c, .opening⟩ (flEnter o .shed none (some .rotation) s) := by
  have hswap' : (flEnter o .shed none (some .rotation) s).fl.swap = some ⟨o, c, .opening⟩ := by
    rw [flEnter_swap, hswap]
    simp [Swap.onChange, hne]
  unfold flOpenConfirmed
  rw [hport, Option.bind_some, hdest]
  dsimp only
  rw [hswap']
  exact if_pos (by simp)

/-- The state in which a swap requests its close (R152). -/
def State.swapClosing (s : State) (o c : Port) : State := { s with fl := { s.fl with swap := some ⟨o, c, .closing⟩ } }

theorem flSwapClose_eq (s : State) : flSwapClose ⟨o, c, .opening⟩ s =
    if (flClose c (s.swapClosing o c)).1 then flAnnounceStep c (flClose c (s.swapClosing o c)).2
    else flAbandonSwap (flClose c (s.swapClosing o c)).2 := by
  unfold flSwapClose
  dsimp only
  split
  next hv => rw [show flClose c (s.swapClosing o c) = _ from hv, if_pos rfl]
  next hv => rw [show flClose c (s.swapClosing o c) = _ from hv, if_neg nofun]

/-- A swap's close that is taken: the other port is CLOSING, announced with the plain dwell (R148, R152). -/
theorem flSwapClose_of_quiet (hmay : s.mayClose c = true) (hlive : s.bsc.island = some .live) (hport : s.port c = some y)
    (hquiet : s.quiet c) (hlevel : s.level (.feederCb c) ≠ .asserted) :
    let u := flSwapClose ⟨o, c, .opening⟩ s
    u.fl.swap = some ⟨o, c, .closing⟩ ∧ u.portState c = some .closing ∧ (u.pulse (.feederClose c)).isActive = true ∧
      (u.window (.feeder c)).isWatching = true ∧ u.fl.spacing = .running s.tb (s.par.restore.stepDwell * 10000000) ∧
      (s.ilc.transmitter.enabled = true → u.ilc.slots.step.frame =
        some (stepPayload c.num (s.par.port.get c).shedRank ((s.par.port.get c).coldLoad * y.load / 100 : Nat))) := by
  obtain ⟨v, hclose, hside, -, hkept, hswap, hisland⟩ := flClose_of_quiet (s := s.swapClosing o c) hmay hport hquiet hlevel
  obtain ⟨hframe, hfl, -, hannounced⟩ := flAnnounceStep_leaves c v
  have hvport : v.port c = some ((s.swapClosing o c).closingRecord y) := congrArg Prod.fst hside
  have hpar : v.par = s.par := by
    unfold State.par
    rw [kept_cr hkept]
    rfl
  dsimp only
  rw [flSwapClose_eq, hclose, if_pos rfl, hfl, hisland hlive, kept_tb hkept, hpar, State.portState, portSide_port (hannounced c),
    portSide_close (hannounced c), hvport]
  refine ⟨hswap.trans ?_, rfl, ?_, ?_, ?_, fun hon => ?_⟩
  · simp [State.swapClosing, Swap.onChange]
  · rw [show v.pulse (.feederClose c) = _ from congrArg (fun x => x.2.1) hside]
    rfl
  · rw [show (flAnnounceStep c v).window (.feeder c) = _ from congrArg (fun x => x.2.2.2) ((hannounced c).trans hside)]
    rfl
  · rw [if_neg nofun, Nat.mul_comm]
    rfl
  · rw [hframe (by rw [kept_transmitter hkept]; exact hon), State.coldLoadKw, hpar, hvport]
    rfl

/-- A swap's close that is not STARTED abandons the swap (R152). -/
theorem flSwapClose_refused (hport : s.port c = some y) (h : y.localHeld = true ∨ ¬ s.quiet c) :
    let u := flSwapClose ⟨o, c, .opening⟩ s
    u.fl.swap = none ∧ u.port c = s.port c ∧ u.fl.spacing = s.fl.spacing := by
  have hclose : flClose c (s.swapClosing o c) = (false, s.swapClosing o c) := by
    obtain h | h := h
    · refine flClose_of_not_mayClose (Bool.eq_false_iff.2 fun hmay => ?_)
      obtain ⟨-, -, -, x, hx, -, hlocal⟩ := State.mayClose_iff.1 hmay
      obtain rfl := Option.some.inj (hport.symm.trans hx)
      rw [hlocal] at h
      cases h
    · exact flClose_of_not_quiet (s := s.swapClosing o c) h
  dsimp only
  rw [flSwapClose_eq, hclose, if_neg nofun]
  exact ⟨rfl, rfl, rfl⟩

/-- The opened port of a swap SHED, and what its close finds there. -/
theorem swapOpened_leaves (hport : s.port o = some x) (hst : x.state = .opening) (hport' : s.port c = some y) (hst' : y.state = .shed)
    (hmode : s.cr.mode = .coordinated) (hlive : s.bsc.island = some .live)
    (hnone : ∀ q x, s.port q = some x → x.state ≠ .closing ∧ x.closeActive = false) :
    let v := flEnter o .shed none (some .rotation) s
    v.port o = some (x.entered .shed none (some .rotation) s.tb (s.ripenessOf o .shed (some .rotation))) ∧ v.portSide c = s.portSide c ∧
      v.bsc.island = some .live ∧ v.kept = s.kept ∧ v.fl.spacing = s.fl.spacing ∧ (y.localHeld = false → v.mayClose c = true) := by
  intro v
  have hne : c ≠ o := by
    rintro rfl
    rw [Option.some.inj (hport.symm.trans hport'), hst'] at hst
    cases hst
  have hv : v.port o = some (x.entered .shed none (some .rotation) s.tb (s.ripenessOf o .shed (some .rotation))) := by
    rw [flEnter_port_same, hport]
    rfl
  have hside : v.portSide c = s.portSide c := flEnter_portSide hne ..
  have hisland : v.bsc.island = some .live := by
    have hstands : (portEntered o .shed none (some .rotation) s).bsc.island = some .live := hlive
    rw [show v = _ from flEnter_eq .., bscLook_of_not_recover (by rw [hstands]; nofun)]
    exact hstands
  have hkept : v.kept = s.kept := flEnter_kept ..
  refine ⟨hv, hside, hisland, hkept, by rw [flEnter_fl]; rfl, fun hheld => State.mayClose_iff.2 ⟨?_, ?_, ?_, ?_⟩⟩
  · exact State.operating_iff.2 (.inl ((congrArg Cr.mode (kept_cr hkept)).trans hmode))
  · exact (islandUp_iff v).2 (.inl hisland)
  · refine State.closeInFlight_iff.2 fun q z hz => ?_
    by_cases hq : q = o
    · subst hq
      obtain rfl := Option.some.inj (hv.symm.trans hz)
      exact ⟨nofun, (hnone q x hport).2⟩
    · rw [show v.port q = s.port q from flEnter_port_other hq ..] at hz
      exact hnone q z hz
  · exact ⟨y, (portSide_port hside).trans hport', .inl hst', hheld⟩
end

section
variable {s : State} {o c : Port} {x y : PortRecord} {w : Timer}

/-- Settles O43, the confirmed opening of a swap. -/
theorem swap_goes_on (hport : s.port o = some x) (hport' : s.port c = some y) (hmode : s.cr.mode = .coordinated)
    (hlive : s.bsc.island = some .live) (hqual : s.qualifies (.feederCb o) false) (hwindow : s.window (.feeder o) = .watching .fl false w)
    (hswap : s.fl.swap = some ⟨o, c, .opening⟩) (hst : x.state = .opening) (hdest : x.destination = some (.shed .rotation))
    (hst' : y.state = .shed) (hnone : ∀ q x, s.port q = some x → x.state ≠ .closing ∧ x.closeActive = false) :
    ∃ u, exec (.inputQualified (.feederCb o)) s = .next u ∧ u.portState o = some .shed ∧
      (u.port o).bind (·.shedCause) = some .rotation ∧
      (y.localHeld = false → s.level (.feederLocal c) ≠ .asserted → s.level (.feederCb c) ≠ .asserted →
        s.pulse (.feederClose c) = .idle → s.pulse (.feederTrip c) = .idle →
        u.fl.swap = some ⟨o, c, .closing⟩ ∧ u.portState c = some .closing ∧ (u.pulse (.feederClose c)).isActive = true ∧
          (u.window (.feeder c)).isWatching = true ∧ u.fl.spacing = .running s.tb (s.par.restore.stepDwell * 10000000) ∧
          (s.ilc.transmitter.enabled = true → u.ilc.slots.step.frame =
            some (stepPayload c.num (s.par.port.get c).shedRank ((s.par.port.get c).coldLoad * y.load / 100 : Nat)))) ∧
      (y.localHeld = true ∨ s.level (.feederLocal c) = .asserted ∨ (s.pulse (.feederClose c)).isActive = true ∨
          (s.pulse (.feederTrip c)).isActive = true →
        u.fl.swap = none ∧ u.port c = s.port c ∧ u.fl.spacing = s.fl.spacing) := by
  have hne : o ≠ c := by
    rintro rfl
    rw [Option.some.inj (hport.symm.trans hport'), hst'] at hst
    cases hst
  have hcb : InputLine.feederCb c ≠ .feederCb o := fun h => hne (InputLine.feederCb.inj h).symm
  obtain ⟨z, hz⟩ : ∃ z, z = (s.qualify (.feederCb o) false).putWindow (.feeder o) .closedOut := ⟨_, rfl⟩
  have hzport (q : Port) : z.port q = s.port q := by rw [hz]; rfl
  have hzlevel {i : InputLine} (hi : i ≠ .feederCb o) : z.level i = s.level i := by rw [hz]; exact level_qualify_other hi false s
  have hzpulse (b : PulseChannel) : z.pulse b = s.pulse b := by rw [hz]; cases b <;> rfl
  have hzrest : z.cr = s.cr ∧ z.bsc = s.bsc ∧ z.fl = s.fl ∧ z.tb = s.tb ∧ z.ilc = s.ilc := by rw [hz]; exact ⟨rfl, rfl, rfl, rfl, rfl⟩
  obtain ⟨hzcr, hzbsc, hzfl, hztb, hzilc⟩ := hzrest
  have hexec : exec (.inputQualified (.feederCb o)) s = .next (flConfirmed o z) := by
    rw [hz]
    exact (exec_feederQualified hqual).trans (congrArg _ (breakerQualified_feeder_confirms
      (s := s.qualify (.feederCb o) false) hwindow))
  clear hz
  rw [flConfirmed_opening ((hzport o).trans hport) hst,
    flOpenConfirmed_swaps ((hzport o).trans hport) hdest (hzfl.symm ▸ hswap) hne] at hexec
  obtain ⟨ho, hside, hisland, hkept, hspacing, hmay⟩ := swapOpened_leaves (s := z) ((hzport o).trans hport) hst ((hzport c).trans hport')
    hst' (hzcr.symm ▸ hmode) (hzbsc.symm ▸ hlive) fun q x hx => hnone q x ((hzport q).symm.trans hx)
  refine ⟨_, hexec, ?_⟩
  generalize flEnter o .shed none (some .rotation) z = v at ho hside hisland hkept hspacing hmay ⊢
  have hport'' : v.port c = some y := (portSide_port hside).trans ((hzport c).trans hport')
  have hlevel {i : InputLine} (hi : i ≠ .feederCb o) : v.level i = s.level i :=
    (State.level_eq (kept_inputs hkept) i).trans (hzlevel hi)
  have hclose : v.pulse (.feederClose c) = s.pulse (.feederClose c) := (portSide_close hside).trans (hzpulse _)
  have htrip : v.pulse (.feederTrip c) = s.pulse (.feederTrip c) := (portSide_trip hside).trans (hzpulse _)
  have hpar : v.par = s.par := by unfold State.par; rw [kept_cr hkept, hzcr]
  have hopened : (flSwapClose ⟨o, c, .opening⟩ v).port o = _ := (portSide_port (flSwapClose_portSide hne v)).trans ho
  refine ⟨?_, ?_, fun hheld hlocal hcb' hidle hidle' => ?_, fun h => ?_⟩
  · rw [State.portState, hopened]
    rfl
  · rw [hopened]
    rfl
  · have hcloses := flSwapClose_of_quiet (o := o) (hmay hheld) hisland hport''
      ⟨by rwa [hlevel (i := .feederLocal c) (by nofun)], hclose.trans hidle, htrip.trans hidle'⟩ (by rwa [hlevel hcb])
    rw [kept_tb hkept, hztb, hpar, kept_transmitter hkept, hzilc] at hcloses
    exact hcloses
  · have hrefused := flSwapClose_refused (o := o) hport'' (h.imp_right fun h ⟨hlocal, hidle, hidle'⟩ => ?_)
    · rw [hspacing, hzfl, hport'', ← hport'] at hrefused
      exact hrefused
    · rw [hlevel (i := .feederLocal c) (by nofun)] at hlocal
      rw [← hclose, ← htrip, hidle, hidle'] at h
      simp [hlocal, Pulse.isActive] at h

/-- Settles O43, the confirmed close of a swap. -/
theorem swap_completes (hport : s.port c = some y) (hqual : s.qualifies (.feederCb c) true)
    (hwindow : s.window (.feeder c) = .watching .fl true w) (hswap : s.fl.swap = some ⟨o, c, .closing⟩) (hst : y.state = .closing) :
    ∃ u, exec (.inputQualified (.feederCb c)) s = .next u ∧ u.portState c = some .closed ∧ u.fl.swap = none ∧
      ∀ q, q ≠ c → u.port q = s.port q := by
  have hexec := (exec_feederQualified hqual).trans (congrArg _ (breakerQualified_feeder_confirms
    (s := s.qualify (.feederCb c) true) hwindow))
  rw [flConfirmed_closing (s := (s.qualify (.feederCb c) true).putWindow (.feeder c) .closedOut) hport hst] at hexec
  refine ⟨_, hexec, ?_, ?_, fun q hq => flEnter_port_other hq ..⟩
  · rw [State.portState, flEnter_port_same, Option.map_map,
      show ((s.qualify (.feederCb c) true).putWindow (.feeder c) .closedOut).port c = _ from hport]
    rfl
  · rw [flEnter_swap, show ((s.qualify (.feederCb c) true).putWindow (.feeder c) .closedOut).fl.swap = _ from hswap]
    simp [Swap.onChange]

/-- Settles O43. -/
theorem restoreStepCloses : Obligations.RestoreStepCloses := by
  unfold Obligations.RestoreStepCloses
  intro noClose noLatch stepFrame
  refine ⟨fun t s hdue hparams hports => ?_, fun o c x y w s hport hport' hmode hlive =>
    ⟨fun hqual hwindow hswap hst hdest hst' hnone => swap_goes_on hport hport' hmode hlive hqual hwindow hswap hst hdest hst' hnone,
      fun hqual hwindow hswap hst => swap_completes hport' hqual hwindow hswap hst⟩⟩
  obtain ⟨y, hexec, hjudged, hbe⟩ := exec_balance_steps hdue hparams hports
  refine ⟨_, hexec, ?_⟩
  intro meets quiet rotates
  have hmeets (p : Port) : meets p ↔ y.stepsTo p := by
    rw [hjudged.stepsTo_iff, ← hbe]
  have hrotates (o c : Port) : rotates o c ↔ y.swaps o c := by
    rw [hjudged.swaps_iff, ← hbe]
  have hspacing {p : Port} (h : meets p) : s.fl.spacing = .stopped := by
    obtain ⟨-, -, -, -, hspacing, -⟩ := h
    exact hspacing
  have hunfit {o c : Port} (h : rotates o c) (p : Port) : ¬ y.stepsTo p := by
    obtain ⟨-, hmode, -, -, -, -, -, hfits, -⟩ := h
    intro hsteps
    obtain ⟨-, -, -, -, -, -, -, -, -, hfits'⟩ := (hmeets p).2 hsteps
    rw [hfits' hmode] at hfits
    cases hfits
  refine ⟨fun p x h hx hq hlevel => stepsTo_closes hjudged ((hmeets p).1 h) hx hq hlevel,
    fun p h hq => stepsTo_not_quiet hjudged ((hmeets p).1 h) (hspacing h) hq, fun h hlevel p => ?_,
    fun o c x h hx hheld hlocal hidle hlevel => ?_, fun o c x h hx hrefused => ?_, fun h => ?_⟩
  · rw [flRestore_of_not_stepsTo fun p hp => h p ((hmeets p).2 hp)]
    have hnone := flStartSwap_closes_none (s := y)
      (fun q hq => by rw [hjudged.level]; exact hlevel q ((hjudged.loaded.portState q).symm.trans hq)) p
    rw [(hjudged.pulse p).1, hjudged.loaded.portState] at hnone
    exact hnone
  · rw [flRestore_of_not_stepsTo (hunfit h)]
    obtain ⟨n, hn⟩ := hjudged.loaded o
    rw [hx] at hn
    obtain ⟨-, -, hheld', -⟩ := x.loaded_state n
    exact swaps_trips ((hrotates o c).1 h) hn (hheld'.trans hheld) (by rwa [hjudged.level]) ((hjudged.pulse o).2.trans hidle)
      (by rwa [hjudged.level])
  · rw [flRestore_of_not_stepsTo (hunfit h)]
    obtain ⟨n, hn⟩ := hjudged.loaded o
    rw [hx] at hn
    obtain ⟨-, -, hheld', -⟩ := x.loaded_state n
    exact swaps_refused ((hrotates o c).1 h) hn (by rwa [hheld', hjudged.level, (hjudged.pulse o).2])
  · rw [swap_stands fun o c hs => h o c ((hrotates o c).2 hs), hjudged.ladder]
end

end Sys2Proof.Machine
end

section
/-! SUPPORT. The timers of the island state. -/

namespace Sys2Proof.Machine

section
variable {s u v : State} {p q : Port} {r : PortRecord} {l : List Port}

/-! ### The ports at DARK (R138, R154) -/

theorem flEnter_retained_other (hq : q ≠ p) (st : PortState) (dest : Option Destination) (cause : Option ShedCause) (s : State) :
    (flEnter p st dest cause s).ret.ports.get q = s.ret.ports.get q := by
  rw [offIsland_retPorts (flEnter_offIsland p st dest cause s)]
  exact Quad.get_set_other _ _ hq

theorem sameButBreaker_ret {b : Breaker} (h : s.SameButBreaker b v) : v.ret = s.ret := by
  obtain ⟨-, -, tac, rfl, -⟩ := h
  rfl

/-- A trip toward BLACK-OPEN leaves every other port, its breaker and its retention record. -/
theorem flTrip_dark_other (hq : q ≠ p) (s : State) : (flTrip p .blackOpen s).2.portSide q = s.portSide q ∧
    (flTrip p .blackOpen s).2.ret.ports.get q = s.ret.ports.get q := by
  refine ⟨flTrip_portSide_other hq (fun _ _ hd => by cases hd), ?_⟩
  have hconfirmed (x : State) : (flOpenConfirmed p x).ret.ports.get q =
      x.ret.ports.get q ∨ (x.port p).bind (·.destination) ≠ some .blackOpen := by
    by_cases hdest : (x.port p).bind (·.destination) = some .blackOpen
    · rw [flOpenConfirmed_black hdest]
      exact .inl (flEnter_retained_other hq ..)
    · exact .inr hdest
  unfold flTrip
  split
  next hcond =>
    split
    next _ cut confirmed v hv =>
      have hsame := sameButBreaker_of_requestTrip hv
      have hopening : (flEnter p .opening (some .blackOpen) none (v.modifyPort p fun r => { r with
          closeActive := r.closeActive && !cut })).ret.ports.get q = s.ret.ports.get q :=
        (flEnter_retained_other hq ..).trans (congrArg (fun x : Retention => x.ports.get q) (sameButBreaker_ret hsame) :)
      dsimp only
      split
      · refine ((hconfirmed _).resolve_right (not_not.2 ?_)).trans hopening
        have hsome : (s.port p).isSome = true := by
          cases hport : s.port p with
          | none => simp [State.isClosedOrClosing, State.portState, hport] at hcond
          | some r => rfl
        obtain ⟨r, hport⟩ := Option.isSome_iff_exists.1 hsome
        rw [flEnter_port_same, State.port_modifyPort_same, sameButBreaker_port hsame, hport]
        rfl
      · exact hopening
    next v hv => exact (congrArg (fun x : Retention => x.ports.get q) (sameButBreaker_ret (sameButBreaker_of_requestTrip hv)) :)
    next v hv => exact congrArg (fun x : Retention => x.ports.get q) (sameButBreaker_ret (sameButBreaker_of_requestTrip hv))
  · rfl

/-- What DARK does to another port leaves this one. -/
theorem flDarkPort_other (hq : q ≠ p) (s : State) : (flDarkPort s p).portSide q = s.portSide q ∧
    (flDarkPort s p).ret.ports.get q = s.ret.ports.get q := by
  unfold flDarkPort
  split
  · exact flTrip_dark_other hq s
  · exact flTrip_dark_other hq s
  · exact ⟨State.portSide_modifyPort_other hq _ s, rfl⟩
  · exact ⟨rfl, rfl⟩

theorem flDark_fold_other {l : List Port} (hp : p ∉ l) (s : State) :
    (l.foldl flDarkPort s).portSide p = s.portSide p ∧ (l.foldl flDarkPort s).ret.ports.get p = s.ret.ports.get p := by
  induction l generalizing s with
  | nil => exact ⟨rfl, rfl⟩
  | cons q l ih =>
    obtain ⟨hne, hp⟩ := not_or.1 (mt List.mem_cons.2 hp)
    obtain ⟨hside, hret⟩ := flDarkPort_other hne s
    exact ⟨(ih hp _).1.trans hside, (ih hp _).2.trans hret⟩

/-- What DARK makes of a port is what it does to that port alone, in a state that finds it as it was. -/
theorem flDark_fold (hl : l.Nodup) (hp : p ∈ l) (s : State) : ∃ z, z.portSide p = s.portSide p ∧
    z.ret.ports.get p = s.ret.ports.get p ∧ z.kept = s.kept ∧
    (l.foldl flDarkPort s).portSide p = (flDarkPort z p).portSide p ∧
    (l.foldl flDarkPort s).ret.ports.get p = (flDarkPort z p).ret.ports.get p := by
  induction l generalizing s with
  | nil => nomatch hp
  | cons q l ih =>
    obtain ⟨hq, hl⟩ := List.nodup_cons.1 hl
    by_cases hpq : p = q
    · subst hpq
      obtain ⟨hside, hret⟩ := flDark_fold_other hq (flDarkPort s p)
      exact ⟨s, rfl, rfl, rfl, hside, hret⟩
    · obtain ⟨z, hside, hstands, hkept, hdark, hret⟩ := ih hl ((List.mem_cons.1 hp).resolve_left hpq) (flDarkPort s q)
      obtain ⟨hside', hstands'⟩ := flDarkPort_other hpq s
      exact ⟨z, hside.trans hside', hstands.trans hstands', hkept.trans (flDarkPort_kept s q), hdark, hret⟩

/-- A port that is tripped, owed its trip, redirected, or left at DARK. -/
def State.Darkened (s u : State) (p : Port) (r : PortRecord) : Prop :=
  (r.state = .closed ∨ r.state = .closing → r.localHeld = false → s.level (.feederLocal p) ≠ .asserted →
    (s.pulse (.feederTrip p) = .idle → (u.pulse (.feederTrip p)).isActive = true ∧ u.pulse (.feederClose p) = .idle ∧
      (s.level (.feederCb p) ≠ .released →
        u.portState p = some .opening ∧ (u.port p).bind (·.destination) = some .blackOpen) ∧
      (s.level (.feederCb p) = .released → u.portState p = some .blackOpen ∧ u.ret.ports.get p = some (.blackOpen, none))) ∧
    ((s.pulse (.feederTrip p)).isActive = true → u.port p = some { r with tripOwed := some .blackOpen } ∧
      u.pulse (.feederTrip p) = s.pulse (.feederTrip p) ∧ u.pulse (.feederClose p) = s.pulse (.feederClose p))) ∧
  (r.state = .opening → u.port p = some { r with destination := some .blackOpen } ∧
    u.pulse (.feederTrip p) = s.pulse (.feederTrip p) ∧ u.window (.feeder p) = s.window (.feeder p)) ∧
  (r.state = .shed ∨ r.state = .blackOpen ∨ r.state = .held ∨ r.state = .faulted → u.port p = some r)

theorem flDarkPort_of_drawing (hport : s.port p = some r) (h : r.state = .closed ∨ r.state = .closing) :
    flDarkPort s p = (flTrip p .blackOpen s).2 := by
  unfold flDarkPort State.portState
  rw [hport]
  obtain h | h := h <;> simp only [Option.map_some, h]

theorem flDarkPort_of_opening (hport : s.port p = some r) (h : r.state = .opening) :
    flDarkPort s p = s.modifyPort p fun r => { r with destination := some .blackOpen } := by
  simp only [flDarkPort, State.portState, hport, Option.map_some, h]

theorem flDarkPort_of_open (hport : s.port p = some r)
    (h : r.state = .shed ∨ r.state = .blackOpen ∨ r.state = .held ∨ r.state = .faulted) : flDarkPort s p = s := by
  unfold flDarkPort State.portState
  rw [hport]
  obtain h | h | h | h := h <;> simp only [Option.map_some, h]

/-- The retention record of a port whose trip toward BLACK-OPEN is confirmed at once. -/
theorem flTrip_dark_retained (hport : s.port p = some r) (hr : r.trippable) (hlocal : s.level (.feederLocal p) ≠ .asserted)
    (hidle : (s.pulse (.feederTrip p)).isActive = false) (hlevel : s.level (.feederCb p) = .released) :
    (flTrip p .blackOpen s).2.ret.ports.get p = some (.blackOpen, none) := by
  have hdest : ((openingOf p .blackOpen s).port p).bind (·.destination) = some .blackOpen := by
    rw [show (openingOf p .blackOpen s).port p = _ from congrArg Prod.fst (openingOf_portSide hport hlocal hidle .blackOpen)]
    rfl
  rw [flTrip_of_idle hport hr hlocal hidle, if_pos hlevel, flOpenConfirmed_black hdest]
  exact flEnter_retained ..

theorem flDarkPort_darkened (hport : s.port p = some r) : s.Darkened (flDarkPort s p) p r := by
  refine ⟨fun hdrawing hheld hlocal => ?_, fun hopening => ?_, fun hopen => by rw [flDarkPort_of_open hport hopen, hport]⟩
  · have hr : r.trippable := ⟨hdrawing, hheld⟩
    rw [flDarkPort_of_drawing hport hdrawing]
    refine ⟨fun hidle => ?_, fun hactive => ?_⟩
    · have hidle : (s.pulse (.feederTrip p)).isActive = false := by rw [hidle]; rfl
      by_cases hlevel : s.level (.feederCb p) = .released
      · obtain ⟨-, ripeness, hside⟩ := flTrip_portSide_opened hport hr hlocal hidle hlevel (dest := .blackOpen)
          fun _ _ hd => by cases hd
        have hrecord : (flTrip p .blackOpen s).2.port p = _ := congrArg Prod.fst hside
        have htrip : (flTrip p .blackOpen s).2.pulse (.feederTrip p) = _ := congrArg (fun x => x.2.2.1) hside
        have hclose : (flTrip p .blackOpen s).2.pulse (.feederClose p) = _ := congrArg (fun x => x.2.1) hside
        refine ⟨by rw [htrip]; rfl, hclose, fun h => absurd hlevel h, fun _ => ⟨?_, flTrip_dark_retained hport hr hlocal hidle hlevel⟩⟩
        rw [State.portState, hrecord]
        rfl
      · obtain ⟨hstate, hdest, htrip, hclose⟩ :=
          flTrip_trips ⟨hport, hr, hlocal, hlevel, Pulse.isActive_eq_false hidle⟩ .blackOpen
        exact ⟨htrip, hclose, fun _ => ⟨hstate, hdest⟩, fun h => absurd h hlevel⟩
    · rw [flTrip_of_active hport hr hlocal hactive]
      exact ⟨by rw [State.port_modifyPort_same, hport]; rfl, rfl, rfl⟩
  · rw [flDarkPort_of_opening hport hopening]
    exact ⟨by rw [State.port_modifyPort_same, hport]; rfl, rfl, rfl⟩

theorem State.Darkened.of_portSide (h : s.Darkened u p r) (hside : v.portSide p = u.portSide p)
    (hret : v.ret.ports.get p = u.ret.ports.get p) : s.Darkened v p r := by
  have hwindow : v.window (.feeder p) = u.window (.feeder p) := congrArg (fun x => x.2.2.2) hside
  unfold State.Darkened State.portState at h ⊢
  rwa [portSide_port hside, portSide_trip hside, portSide_close hside, hwindow, hret]

theorem State.Darkened.from_portSide (h : u.Darkened v p r) (hside : u.portSide p = s.portSide p)
    (hinputs : u.tac.inputs = s.tac.inputs) : s.Darkened v p r := by
  have hwindow : u.window (.feeder p) = s.window (.feeder p) := congrArg (fun x => x.2.2.2) hside
  unfold State.Darkened at h ⊢
  rwa [portSide_trip hside, portSide_close hside, hwindow, State.level_eq hinputs, State.level_eq hinputs] at h

/-- Every port at DARK. -/
theorem flDark_darkened (hport : s.port p = some r) : s.Darkened (flDark s) p r := by
  obtain ⟨z, hside, -, hkept, hdark, hret⟩ := flDark_fold Port.all_nodup (Port.mem_all p) s
  have hz := flDarkPort_darkened ((portSide_port hside).trans hport)
  exact (hz.of_portSide hdark hret).from_portSide hside (kept_inputs hkept)

/-- DARK leaves an open port with its retention record. -/
theorem flDark_of_open (hport : s.port p = some r) (h : r.state = .shed ∨ r.state = .blackOpen ∨ r.state = .held ∨ r.state = .faulted) :
    (flDark s).port p = some r ∧ (flDark s).ret.ports.get p = s.ret.ports.get p := by
  obtain ⟨z, hside, hstands, -, hdark, hret⟩ := flDark_fold Port.all_nodup (Port.mem_all p) s
  rw [flDarkPort_of_open ((portSide_port hside).trans hport) h] at hdark hret
  exact ⟨(portSide_port (hdark.trans hside)).trans hport, hret.trans hstands⟩

/-! ### The ladder at a change to DARK -/

/-- At DARK the swap, the restore qualification and the overload timer go, and in operation the ports are darkened. -/
theorem flIslandChange_of_dark (h : s.bsc.island = some .dark) :
    let x := { s with fl := { s.fl with swap := none, qualTimer := .stopped, qualified := false, overload := .stopped } }
    flIslandChange s = if s.operating then flDark x else x := by
  have hlive : ¬ s.bsc.island = some .live := by rw [h]; nofun
  have hdown : ¬ (flAbandonSwap s).islandUp = true := by simp [State.islandUp, flAbandonSwap, h]
  unfold flIslandChange
  dsimp only
  rw [if_neg hlive, if_neg hdown]
  cases hop : s.operating with
  | true => exact if_pos (by simp [flAbandonSwap, flUnqualify, State.cancel, State.putTimer, h, State.operating] at hop ⊢; exact hop)
  | false => exact if_neg (by simp [flAbandonSwap, flUnqualify, State.cancel, State.putTimer, State.operating] at hop ⊢; simp [hop])

/-- While the island is not RECOVER, the ladder writes its own record and the ports' breakers alone. -/
theorem dark_keeps {s₀ : State} (h₀ : s₀.bsc.island ≠ some .recover) : LadderKeeps fun u => u.offPorts = s₀.offPorts ∧ u.bsc = s₀.bsc ∧
    u.ret.darkTaken = s₀.ret.darkTaken ∧ u.ret.wasClosed = s₀.ret.wasClosed where
  ladder _ hs := hs
  breaker hsame hs := by
    have hports := hsame.offPorts
    obtain ⟨-, -, tac, rfl, -⟩ := hsame
    exact ⟨hports.trans hs.1, hs.2⟩
  entered _ _ _ _ hs := hs
  looked {s} hs := by
    rw [bscLook_of_not_recover (by rw [hs.2.1]; exact h₀)]
    exact hs
end

section
variable {s u v w y : State} {p q : Port} {r : PortRecord} {t : Tick}

/-! ### The later readers of a change to DARK -/

theorem scTripAtDark_leaves (s : State) : (scTripAtDark s).setSide = s.setSide ∧ (scTripAtDark s).ds = s.ds ∧
    (scTripAtDark s).pulse .crank = s.pulse .crank ∧ (scTripAtDark s).sc.finalCap = s.sc.finalCap ∧
    (scTripAtDark s).sc.lastCap = s.sc.lastCap ∧ (scTripAtDark s).sc.override = s.sc.override := by
  have hbreaker := sameButBreaker_requestTrip s .source .sc s.par.diesel.pulse true
  unfold scTripAtDark scConfirmed scEnter
  split
  · split
    next _ _ confirmed v hrequest =>
      rw [hrequest] at hbreaker
      have hdark := setSide_of_source hbreaker
      obtain ⟨hpulse, -, tac, rfl, -⟩ := hbreaker
      have hcrank : tac.crank = s.tac.crank := hpulse .crank nofun nofun
      split_ifs <;> exact ⟨hdark, rfl, hcrank, rfl, rfl, rfl⟩
    next v _ hrequest =>
      rw [hrequest] at hbreaker
      have hdark := setSide_of_source hbreaker
      obtain ⟨hpulse, -, tac, rfl, -⟩ := hbreaker
      exact ⟨hdark, rfl, hpulse .crank nofun nofun, rfl, rfl, rfl⟩
  · exact ⟨rfl, rfl, rfl, rfl, rfl, rfl⟩

/-- The solar source at DARK: its cap is 0, and what the set reads stands (R127, R132). -/
theorem scIslandChange_dark (h : s.bsc.island = some .dark) : (scIslandChange s).setSide = s.setSide ∧ (scIslandChange s).ds = s.ds ∧
    (scIslandChange s).pulse .crank = s.pulse .crank ∧ (s.sc.state.isSome = true → (scIslandChange s).sc.finalCap = 0 ∧
      (scIslandChange s).sc.lastCap = 0 ∧ (scIslandChange s).sc.override = .dark) := by
  have hchange : scIslandChange s = scTripAtDark (scZero .dark s) := by
    unfold scIslandChange
    rw [h]
  obtain ⟨hdark, hds, hcrank, hfinal, hlast, hoverride⟩ := scTripAtDark_leaves (scZero .dark s)
  rw [hchange, hdark, hds, hcrank, hfinal, hlast, hoverride]
  unfold scZero
  split
  · exact ⟨rfl, rfl, rfl, fun _ => ⟨rfl, rfl, rfl⟩⟩
  next hnone => exact ⟨rfl, rfl, rfl, fun hsome => absurd hsome hnone⟩

/-- The set in SPOOL without its timer is judged at a change of island state. -/
def State.spoolJudged (s : State) : State := if s.dieselIs .spool && !s.ds.timers.spool.isRunning then dsJudgeSpool s else s

theorem spoolJudged_of (h : s.ds.state ≠ some .spool ∨ s.ds.timers.spool ≠ .stopped) : s.spoolJudged = s := by
  refine if_neg fun hcond => ?_
  simp only [Bool.and_eq_true, Bool.not_eq_true', State.dieselIs_iff, Timer.isRunning_eq_false] at hcond
  exact h.elim (fun h => h hcond.1) fun h => h hcond.2

theorem spoolJudged_offSet (s : State) : s.spoolJudged.offSet = s.offSet := by
  unfold State.spoolJudged
  split
  · exact dsJudgeSpool_offSet s
  · rfl

theorem dsIslandChange_of_dark (h : s.bsc.island = some .dark) :
    dsIslandChange s = (dsDark { s with ds := { s.ds with needSince := none } }).spoolJudged := by
  have hup : ¬ s.islandUp = true := by simp [State.islandUp, h]
  unfold dsIslandChange
  dsimp only
  rw [if_neg hup, if_pos (show ({ s with ds := { s.ds with needSince := none } } : State).bsc.island = some .dark from h)]
  rfl

/-- The set at a change to DARK moves itself alone, or in operation requests its trip and fails (R120). -/
theorem dsDark_cases (s : State) : (dsDark s).offSet = s.offSet ∨ s.operating = true ∧ ∃ d, dsDark s = dsTripOffDark { s with ds := d } := by
  unfold dsDark
  dsimp only
  split
  · split
    · exact .inl ((dsStartAtDark_offSet _).trans rfl)
    · exact .inl rfl
  · split
    · exact .inl ((dsEnterCrank_offSet _).trans rfl)
    · exact .inl rfl
  iterate 3
    split
    next hop => exact .inr ⟨hop, _, rfl⟩
    · exact .inl rfl
  · exact .inl ((dsEnterArbitrate_offSet _).trans rfl)
  · exact .inl rfl

/-- What the set's own and the request of its trip leave, a change to DARK leaves. -/
theorem dsIslandChange_dark_keeps {α : Type} {f : State → α} (hset : ∀ {u v : State}, u.offSet = v.offSet → f u = f v)
    (hsource : ∀ {s v : State}, s.SameButBreaker .source v → f v = f s) (h : s.bsc.island = some .dark) :
    f (dsIslandChange s) = f s := by
  have hdark : f (dsDark { s with ds := { s.ds with needSince := none } }) = f s := by
    obtain hdark | ⟨-, d, hdark⟩ := dsDark_cases { s with ds := { s.ds with needSince := none } }
    · exact hset hdark
    · rw [hdark]
      exact ((hset (dsEnterFailed_offSet _)).trans (hsource (sameButBreaker_dsTrip false _))).trans (hset rfl)
  rw [dsIslandChange_of_dark h]
  exact (hset (spoolJudged_offSet _)).trans hdark

/-- Out of operation the set alone moves at a change to DARK. -/
theorem dsIslandChange_held_offSet (h : s.bsc.island = some .dark) (hop : s.operating = false) :
    (dsIslandChange s).offSet = s.offSet := by
  rw [dsIslandChange_of_dark h, spoolJudged_offSet]
  refine (dsDark_cases { s with ds := { s.ds with needSince := none } }).resolve_right fun ⟨hop', _⟩ => ?_
  rw [show s.operating = true from hop'] at hop
  cases hop

/-! ### The set at a change to DARK (R120) -/

/-- A set that is cranked at once, or spools where its engine runs. -/
theorem dsEnterCrank_judged (h : s.ds.state ≠ some .online) : let u := (dsEnterCrank s).spoolJudged
    u.ret.run = true ∧ u.ds.bias = 0 ∧ u.ds.timers.holdoff = s.ds.timers.holdoff ∧ u.ds.timers.window = s.ds.timers.window ∧
      u.ds.intent = s.ds.intent ∧
      (s.level .runFb ≠ .asserted → u.ds.state = some .crank ∧ u.ds.crankCount = s.ds.crankCount + 1 ∧
        (u.pulse .crank).isActive = true) ∧
      (s.level .runFb = .asserted → u.ds.state = some .spool ∧ u.ds.crankCount = s.ds.crankCount ∧
        u.ds.timers.spool = .running s.tb (s.par.diesel.spoolTime * 10000000)) := by
  dsimp only
  by_cases hrun : s.level .runFb = .asserted
  · have heq := dsEnterCrank_of_running h hrun
    rw [spoolJudged_of (.inr (by rw [heq]; nofun)), heq]
    exact ⟨rfl, rfl, rfl, rfl, rfl, fun hn => absurd hrun hn, fun _ => ⟨rfl, rfl, rfl⟩⟩
  · obtain ⟨c, hactive, -, heq⟩ := dsEnterCrank_of_resting h hrun
    rw [spoolJudged_of (.inl (by rw [heq]; nofun)), heq]
    exact ⟨rfl, rfl, rfl, rfl, rfl, fun _ => ⟨rfl, rfl, hactive⟩, fun hr => absurd hr hrun⟩

/-- Settles O44, the set that starts at DARK. -/
theorem dsIslandChange_starts (hdark : s.bsc.island = some .dark) (hop : s.operating = true)
    (hstate : s.ds.state = some .standby ∨ s.ds.state = some .intent) :
    let u := dsIslandChange s
    let count := if s.ds.state = some .standby then 0 else s.ds.crankCount
    u.ret.run = true ∧ u.ds.bias = 0 ∧
      (s.ds.state = some .standby → u.ds.timers.holdoff = .stopped ∧ u.ds.intent = s.ds.intent) ∧
      (s.ds.state = some .intent → u.ds.timers.window = .stopped ∧ u.ds.intent = none) ∧
      (s.level .runFb ≠ .asserted → u.ds.state = some .crank ∧ u.ds.crankCount = count + 1 ∧ (u.pulse .crank).isActive = true) ∧
      (s.level .runFb = .asserted → u.ds.state = some .spool ∧ u.ds.crankCount = count ∧
        u.ds.timers.spool = .running s.tb (s.par.diesel.spoolTime * 10000000)) := by
  have hchange := dsIslandChange_of_dark hdark
  dsimp only
  obtain hstate | hstate := hstate
  · have hstarts : dsDark { s with ds := { s.ds with needSince := none } } = dsEnterCrank { s with
        ds := { s.ds with
          needSince := none, deadBusOnline := false, crankCount := 0, timers := { s.ds.timers with holdoff := .stopped } } } := by
      unfold dsDark
      simp only [hstate]
      exact if_pos hop
    rw [hchange, hstarts, hstate, if_pos rfl]
    obtain ⟨hrun, hbias, hholdoff, -, hintent, hrest, hspool⟩ := dsEnterCrank_judged (s := { s with
      ds := { s.ds with
        needSince := none, deadBusOnline := false, crankCount := 0, timers := { s.ds.timers with holdoff := .stopped } } })
      (by exact fun hn => by rw [hstate] at hn; cases hn)
    exact ⟨hrun, hbias, fun _ => ⟨hholdoff, hintent⟩, nofun, hrest, hspool⟩
  · have hstarts : dsDark { s with ds := { s.ds with needSince := none } } = dsEnterCrank { s with
        ds := { s.ds with
          needSince := none, deadBusOnline := false, intent := none, timers := { s.ds.timers with window := .stopped } } } := by
      unfold dsDark
      simp only [hstate]
      exact if_pos hop
    rw [hchange, hstarts, hstate, if_neg nofun]
    obtain ⟨hrun, hbias, -, hwindow, hintent, hrest, hspool⟩ := dsEnterCrank_judged (s := { s with
      ds := { s.ds with
        needSince := none, deadBusOnline := false, intent := none, timers := { s.ds.timers with window := .stopped } } })
      (by exact fun hn => by rw [hstate] at hn; cases hn)
    exact ⟨hrun, hbias, nofun, fun _ => ⟨hwindow, hintent⟩, hrest, hspool⟩

/-- Settles O44, the set that is taken off the dark bus. -/
theorem dsIslandChange_tripsOff (hdark : s.bsc.island = some .dark) (hop : s.operating = true)
    (hstate : s.ds.state = some .online ∨ s.ds.state = some .stopIntent ∨ s.ds.state = some .unload) :
    (dsIslandChange s).ds.state = some .failed ∧ ((dsIslandChange s).pulse .srcTrip).isActive = true := by
  have htrips : dsDark { s with ds := { s.ds with needSince := none } } =
      dsTripOffDark { s with ds := { s.ds with needSince := none, deadBusOnline := false } } := by
    unfold dsDark
    obtain h | h | h := hstate <;> simp only [h] <;> exact if_pos hop
  have hfailed (x : State) : (dsTripOffDark x).ds.state = some .failed := by
    rw [dsTripOffDark, dsEnterFailed_ds]
    rfl
  rw [dsIslandChange_of_dark hdark, htrips, spoolJudged_of (.inl (by rw [hfailed]; nofun))]
  refine ⟨hfailed _, ?_⟩
  rw [dsTripOffDark, offSet_pulse (dsEnterFailed_offSet _) (c := .srcTrip) (by nofun)]
  exact (dsTrip_pulses false _).1
end

section
variable {s u v : State} {p q : Port} {r : PortRecord} {t : Tick}

/-! ### The change to DARK, and the end of RECOVER -/

theorem markWasClosed_get (s : State) (p : Port) : (markWasClosed s).ret.wasClosed.get p = (s.ret.wasClosed.get p || s.isDrawing p) := by
  cases p <;> rfl

/-- Out of operation the source of a solar station is not tripped at DARK (R127). -/
theorem scIslandChange_dark_held (h : s.bsc.island = some .dark) (hop : s.operating = false) :
    (scIslandChange s).operating = false ∧ ∀ c, (scIslandChange s).pulse c = s.pulse c := by
  have hzero : (scZero .dark s).operating = false ∧ ∀ c, (scZero .dark s).pulse c = s.pulse c := by
    unfold scZero
    split
    · exact ⟨hop, fun c => by cases c <;> rfl⟩
    · exact ⟨hop, fun _ => rfl⟩
  unfold scIslandChange
  rw [h]
  dsimp only
  rw [scTripAtDark_of_not_operating hzero.1]
  exact hzero

/-- The change to DARK: the record before it, and what each reader makes of it (R120, R127, R154, R160, R161). -/
theorem bscEnterDark_leaves (s : State) :
    let u := bscEnterDark s
    { u.bsc with session := .idle } = { s.bsc with island := some .dark, session := .idle } ∧ u.kept = s.kept ∧
      u.ret.darkTaken = true ∧ (∀ p, u.ret.wasClosed.get p = (s.ret.wasClosed.get p || s.isDrawing p)) ∧
      (s.sc.state.isSome = true → u.sc.finalCap = 0 ∧ u.sc.lastCap = 0 ∧ u.sc.override = .dark) ∧
      (s.operating = false → u.fl.ports = s.fl.ports ∧ ∀ c, c ≠ .crank → u.pulse c = s.pulse c) ∧
      (∀ p r, s.operating = true → s.port p = some r → s.Darkened u p r) ∧
      (∀ p r, s.port p = some r → r.state = .shed ∨ r.state = .blackOpen ∨ r.state = .held ∨ r.state = .faulted →
        u.port p = some r ∧ u.ret.ports.get p = s.ret.ports.get p) ∧
      ∃ x, x.bsc.island = some .dark ∧ x.kept = s.kept ∧ x.ds = s.ds ∧ u = dsIslandChange x := by
  intro u
  obtain ⟨x, hx⟩ : ∃ x, x = (writePreDark s).setIsland .dark := ⟨_, rfl⟩
  have hxdark : x.bsc.island = some .dark := by rw [hx]; rfl
  have hwas (p : Port) : x.ret.wasClosed.get p = (s.ret.wasClosed.get p || s.isDrawing p) := by
    rw [hx]
    exact markWasClosed_get s p
  have hxrest : x.kept = s.kept ∧ x.ds = s.ds ∧ x.sc = s.sc ∧ x.fl = s.fl ∧ (∀ c, x.pulse c = s.pulse c) ∧
      (∀ p, x.portSide p = s.portSide p) ∧ x.ret.darkTaken = true ∧ x.operating = s.operating ∧ x.tac.inputs = s.tac.inputs ∧
      x.ret.ports = s.ret.ports ∧ x.bsc = { s.bsc with island := some .dark } := by
    rw [hx]
    exact ⟨rfl, rfl, rfl, rfl, fun c => by cases c <;> rfl, fun _ => rfl, rfl, rfl, rfl, rfl, rfl⟩
  obtain ⟨hkept, hds, hsc, hfl, hpulse, hside, htaken, hop, hinputs, hretained, hbsc⟩ := hxrest
  have hu : u = dsIslandChange (scIslandChange (flIslandChange x)) := by rw [hx]; rfl
  clear_value u
  clear hx
  obtain ⟨hports, hvbsc, hvtaken, hvwas⟩ : (flIslandChange x).offPorts = x.offPorts ∧ (flIslandChange x).bsc = x.bsc ∧
      (flIslandChange x).ret.darkTaken = x.ret.darkTaken ∧ (flIslandChange x).ret.wasClosed = x.ret.wasClosed :=
    flIslandChange_keeps (dark_keeps (by rw [hxdark]; nofun)) ⟨rfl, rfl, rfl, rfl⟩
  have hladder := flIslandChange_of_dark hxdark
  obtain ⟨v, hv⟩ : ∃ v, v = flIslandChange x := ⟨_, rfl⟩
  rw [← hv] at hu hports hvbsc hvtaken hvwas hladder
  dsimp only at hladder
  have hvdark : v.bsc.island = some .dark := by rw [hvbsc, hxdark]
  obtain ⟨hsolar, hsolards, -, hcap⟩ := scIslandChange_dark hvdark
  have hwdark : (scIslandChange v).bsc.island = some .dark :=
    (setSide_island hsolar).trans hvdark
  have hset : u.setSide = v.setSide := by
    rw [hu]
    exact (dsIslandChange_dark_keeps setSide_of_offSet setSide_of_source hwdark).trans hsolar
  have hsetSc : u.sc = (scIslandChange v).sc := by
    rw [hu]
    refine dsIslandChange_dark_keeps (f := State.sc) (fun h => offIsland_sc (State.offIsland_of_offSet h)) (fun h => ?_) hwdark
    obtain ⟨-, -, tac, rfl, -⟩ := h
    rfl
  have hvkept : v.kept = x.kept := offPorts_kept hports
  have hvds : v.ds = x.ds := offPorts_ds hports
  have hvsc : v.sc = x.sc := offPorts_sc hports
  refine ⟨?_, ?_, ?_, fun p => ?_, fun hsome => ?_, fun hheld => ?_, fun p r hoperates hport => ?_,
    fun p r hport hopen => ?_, scIslandChange v, hwdark, ?_, ?_, hu⟩
  · rw [show ({ u.bsc with session := .idle } : Bsc) = { v.bsc with session := .idle } from setSide_bsc hset, hvbsc, hbsc]
  · rw [hu]
    exact ((dsIslandChange_kept _).trans (scIslandChange_kept v)).trans (hvkept.trans hkept)
  · exact (setSide_darkTaken hset).trans (hvtaken.trans htaken)
  · rw [show u.ret.wasClosed = v.ret.wasClosed from setSide_wasClosed hset, hvwas, hwas]
  · rw [hsetSc]
    exact hcap (by rw [hvsc, hsc]; exact hsome)
  · rw [hop, hheld, if_neg nofun] at hladder
    have hvop : v.operating = false := by
      rw [hladder]
      exact hop.trans hheld
    obtain ⟨hwop, hwpulse⟩ := scIslandChange_dark_held hvdark hvop
    refine ⟨?_, fun c hc => ?_⟩
    · rw [show u.fl = v.fl from ladderSide_fl (setSide_ladder hset), hladder]
      exact (congrArg Fl.ports hfl :)
    · rw [hu, offSet_pulse (dsIslandChange_held_offSet hwdark hwop) hc, hwpulse, ← hpulse c, hladder]
      cases c <;> rfl
  · rw [hop, hoperates, if_pos rfl] at hladder
    have hdark := flDark_darkened (s := { x with fl := { x.fl with
      swap := none, qualTimer := .stopped, qualified := false, overload := .stopped } }) ((portSide_port (hside p)).trans hport)
    rw [← hladder] at hdark
    refine (hdark.of_portSide (v := u) ?_ ?_).from_portSide (hside p) hinputs
    · exact ladderSide_port (setSide_ladder hset) p
    · exact congrArg (fun x => x.get p) (setSide_retained hset)
  · have hopened : v.port p = some r ∧ v.ret.ports.get p = s.ret.ports.get p := by
      rw [hladder, ← hretained]
      split
      · exact flDark_of_open ((portSide_port (hside p)).trans hport) hopen
      · exact ⟨(portSide_port (hside p)).trans hport, rfl⟩
    obtain ⟨hvport, hvret⟩ := hopened
    exact ⟨(portSide_port (ladderSide_port (setSide_ladder hset) p)).trans hvport,
      (congrArg (fun x => x.get p) (setSide_retained hset)).trans hvret⟩
  · exact (scIslandChange_kept v).trans (hvkept.trans hkept)
  · exact hsolards.trans (hvds.trans hds)
/-- Settles O44, the dead timer. -/
theorem deadExpired_darkens (hdue : s.due .dead t) (hisland : s.bsc.island = some .deadWait) :
    ∃ u, exec .deadTimerExpiry s = .next u ∧ u.bsc.island = some .dark ∧ u.bsc.dead = .stopped ∧ u.ret.darkTaken = true ∧
      (∀ p, u.ret.wasClosed.get p = (s.ret.wasClosed.get p ||
        (s.portState p == some .closed || s.portState p == some .closing || s.portState p == some .opening))) ∧
      (s.sc.state.isSome = true → u.sc.finalCap = 0 ∧ u.sc.lastCap = 0 ∧ u.sc.override = .dark) ∧
      (s.operating = true → s.ds.state = some .standby ∨ s.ds.state = some .intent →
        let count := if s.ds.state = some .standby then 0 else s.ds.crankCount
        u.ret.run = true ∧ u.ds.bias = 0 ∧
        (s.ds.state = some .standby → u.ds.timers.holdoff = .stopped ∧ u.ds.intent = s.ds.intent) ∧
        (s.ds.state = some .intent → u.ds.timers.window = .stopped ∧ u.ds.intent = none) ∧
        (s.level .runFb ≠ .asserted → u.ds.state = some .crank ∧ u.ds.crankCount = count + 1 ∧
          (u.pulse .crank).isActive = true) ∧
        (s.level .runFb = .asserted → u.ds.state = some .spool ∧ u.ds.crankCount = count ∧
          u.ds.timers.spool = .running t (s.par.diesel.spoolTime * 10000000))) ∧
      (s.operating = true → s.ds.state = some .online ∨ s.ds.state = some .stopIntent ∨ s.ds.state = some .unload →
        u.ds.state = some .failed ∧ (u.pulse .srcTrip).isActive = true) ∧
      (s.operating = false → u.fl.ports = s.fl.ports ∧ ∀ c, c ≠ .crank → u.pulse c = s.pulse c) ∧
      (∀ p r, s.operating = true → s.port p = some r → s.Darkened u p r) ∧ u.kept = { s with tb := t }.kept := by
  obtain ⟨hbsc, hkept, htaken, hwas, hcap, hheld, hports, -, x, hdark, hxkept, hxds, hu⟩ :=
    bscEnterDark_leaves ((s.stamp t).cancel .dead)
  have hxcr : x.cr = s.cr := (kept_cr hxkept :)
  have hxop : x.operating = s.operating := by simp only [State.operating, hxcr]
  have hxpar : x.par = s.par := by simp only [State.par, hxcr]
  have hxtb : x.tb = t := (kept_tb hxkept :)
  have hxds : x.ds = s.ds := hxds
  have hxlevel : x.level .runFb = s.level .runFb := State.level_eq (kept_inputs hxkept :) .runFb
  refine ⟨_, exec_dead hdue hisland, (congrArg Bsc.island hbsc :), (congrArg Bsc.dead hbsc :), htaken, hwas, hcap,
    fun hop hstate => ?_, fun hop hstate => ?_, fun hop => ?_, hports, hkept⟩
  · have hstarts := dsIslandChange_starts hdark (hxop.trans hop) (by rwa [hxds])
    rw [← hu, hxds, hxlevel, hxtb, hxpar] at hstarts
    exact hstarts
  · rw [hu]
    exact dsIslandChange_tripsOff hdark (hxop.trans hop) (by rwa [hxds])
  · obtain ⟨hfl, hpulse⟩ := hheld hop
    exact ⟨hfl, fun c hc => (hpulse c hc).trans (by cases c <;> rfl)⟩
end

section
variable {s u v : State} {p q : Port} {r : PortRecord} {t : Tick} {l : List Port}

/-! ### The end of RECOVER (R154, R162, R163) -/

/-- LIVE: the recover timer and the pre-dark record go (R161, R163). -/
theorem bscEnterLive_offSet (s : State) :
    (bscEnterLive s).offSet = ((clearPreDark (s.cancel .recover)).setIsland .live).offSet := by
  rw [bscEnterLive, bscHoldLive_offSet, dsIslandChange_offSet _ (by simp [State.setIsland])]

/-- The island is RECOVER with its timer spent, or LIVE with no record of a dark one. -/
def State.recovering (s : State) : Prop := s.bsc.recover = .stopped ∧
  (s.bsc.island = some .recover ∨ s.bsc.island = some .live ∧ s.ret.darkTaken = false ∧ ∀ p, s.ret.wasClosed.get p = false)

/-- The island is LIVE with no record of a dark one. -/
def State.recovered (s : State) : Prop :=
  s.bsc.recover = .stopped ∧ s.bsc.island = some .live ∧ s.ret.darkTaken = false ∧ ∀ p, s.ret.wasClosed.get p = false

theorem bscEnterLive_recovered (s : State) : (bscEnterLive s).recovered := by
  have h := bscEnterLive_offSet s
  have hbsc := offSet_bsc h
  have hret : (bscEnterLive s).ret.darkTaken = false ∧ (bscEnterLive s).ret.wasClosed = .all false := by
    have htaken := congrArg (fun x : State => x.ret.darkTaken) h
    have hwas := congrArg (fun x : State => x.ret.wasClosed) h
    exact ⟨htaken, hwas⟩
  exact ⟨by rw [hbsc]; rfl, by rw [hbsc]; rfl, hret.1, fun p => by rw [hret.2]; cases p <;> rfl⟩

theorem flEnter_recovering (h : s.recovering) (p : Port) (st : PortState) (dest : Option Destination) (cause : Option ShedCause) :
    (flEnter p st dest cause s).recovering := by
  have hentered : (portEntered p st dest cause s).recovering := h
  rw [flEnter_eq]
  generalize portEntered p st dest cause s = v at hentered ⊢
  unfold bscLook
  split
  · obtain ⟨hrecover, hrest⟩ := bscEnterLive_recovered v
    exact ⟨hrecover, .inr hrest⟩
  · exact hentered

/-- What the entries of ports to SHED leave at the end of RECOVER. -/
theorem flRecover_fold (hl : l.Nodup) (h : s.recovering) :
    let u := l.foldl (fun s p => if s.portState p = some .blackOpen then flEnter p .shed none (some .deficit) s else s) s
    u.recovering ∧ u.sc = s.sc ∧ (∀ c, c ≠ .crank → u.pulse c = s.pulse c) ∧ u.kept = s.kept ∧
      (∀ p, p ∉ l ∨ s.portState p ≠ some .blackOpen → u.port p = s.port p ∧ u.ret.ports.get p = s.ret.ports.get p) ∧
      ∀ p, p ∈ l → s.portState p = some .blackOpen → ∃ r, u.port p = some r ∧ r.state = .shed ∧ r.shedCause = some .deficit ∧
        u.ret.ports.get p = some (.shed, some .deficit) := by
  induction l generalizing s with
  | nil => exact ⟨h, rfl, fun _ _ => rfl, rfl, fun _ _ => ⟨rfl, rfl⟩, nofun⟩
  | cons q l ih =>
    obtain ⟨hq, hl⟩ := List.nodup_cons.1 hl
    dsimp only [List.foldl_cons]
    by_cases hblack : s.portState q = some .blackOpen
    · rw [if_pos hblack]
      have hother {p : Port} (hp : p ≠ q) : (flEnter q .shed none (some .deficit) s).port p = s.port p :=
        flEnter_port_other hp ..
      obtain ⟨hrec, hsc, hpulse, hkept, hout, hin⟩ := ih hl (flEnter_recovering h q .shed none (some .deficit))
      refine ⟨hrec, hsc.trans (offIsland_sc (flEnter_offIsland q .shed none (some .deficit) s) :), fun c hc => (hpulse c hc).trans (flEnter_pulse _ _ _ _ _ hc),
        hkept.trans (flEnter_kept ..), fun p hp => ?_, fun p hp hpblack => ?_⟩
      · have hne : p ≠ q := by
          rintro rfl
          exact hp.elim (fun hp => hp List.mem_cons_self) fun hp => hp hblack
        obtain ⟨hport, hret⟩ := hout p (hp.imp (fun hp hmem => hp (List.mem_cons_of_mem _ hmem)) fun hp => by
          rwa [State.portState, hother hne])
        exact ⟨hport.trans (hother hne), hret.trans (flEnter_retained_other hne ..)⟩
      · by_cases hpq : p = q
        · subst hpq
          obtain ⟨hport, hret⟩ := hout p (.inl hq)
          obtain ⟨r, hr, -⟩ := Option.map_eq_some_iff.1 (show (s.port p).map (·.state) = some .blackOpen from hblack)
          rw [flEnter_port_same, hr] at hport
          exact ⟨_, hport, rfl, rfl, hret.trans (flEnter_retained ..)⟩
        · exact hin p ((List.mem_cons.1 hp).resolve_left hpq) (by rwa [State.portState, hother hpq])
    · rw [if_neg hblack]
      obtain ⟨hrec, hsc, hpulse, hkept, hout, hin⟩ := ih hl h
      refine ⟨hrec, hsc, hpulse, hkept, fun p hp => hout p (hp.imp_left fun hp hmem => hp (List.mem_cons_of_mem _ hmem)),
        fun p hp hpblack => hin p ((List.mem_cons.1 hp).resolve_left ?_) hpblack⟩
      rintro rfl
      exact hblack hpblack

/-- Settles O44, the recover timer. -/
theorem recoverExpired_sheds (hdue : s.due .recover t) (hisland : s.bsc.island = some .recover) :
    ∃ u, exec .recoverTimerExpiry s = .next u ∧ u.bsc.island = some .live ∧ u.bsc.recover = .stopped ∧
      u.ret.darkTaken = false ∧ (∀ p, u.ret.wasClosed.get p = false) ∧
      (∀ p r, s.port p = some r → r.state = .blackOpen → ∃ r', u.port p = some r' ∧ r'.state = .shed ∧
        r'.shedCause = some .deficit ∧ u.ret.ports.get p = some (.shed, some .deficit)) ∧
      (∀ p, s.portState p ≠ some .blackOpen → u.port p = s.port p) ∧ u.sc = s.sc ∧
      (∀ c, c ≠ .crank → u.pulse c = s.pulse c) ∧ u.kept = { s with tb := t }.kept := by
  obtain ⟨x, hx⟩ : ∃ x, x = (s.stamp t).cancel .recover := ⟨_, rfl⟩
  have hexec : exec .recoverTimerExpiry s = .next (bscRecoverExpired x) := by
    rw [hx]
    exact onExpiry_due (id := .recover) _ hdue.1 hdue.2
  have hxisland : x.bsc.island = some .recover := by rw [hx]; exact hisland
  have hxrest : x.sc = s.sc ∧ (∀ c, x.pulse c = s.pulse c) ∧ x.kept = { s with tb := t }.kept ∧ (∀ p, x.port p = s.port p) ∧
      x.bsc.recover = .stopped := by
    rw [hx]
    exact ⟨rfl, fun c => by cases c <;> rfl, rfl, fun _ => rfl, rfl⟩
  obtain ⟨hsc, hpulse, hkept, hport, hrecover⟩ := hxrest
  obtain ⟨hrec, hysc, hypulse, hykept, hout, hin⟩ := flRecover_fold Port.all_nodup (s := x) ⟨hrecover, .inl hxisland⟩
  have hstate (p : Port) : x.portState p = s.portState p := congrArg (Option.map fun r : PortRecord => r.state) (hport p)
  have hend : ∃ u, bscRecoverExpired x = u ∧ u.recovered ∧ u.offIsland = (flRecoverExpired x).offIsland := by
    refine ⟨_, rfl, ?_⟩
    unfold bscRecoverExpired
    rw [if_pos hxisland]
    dsimp only
    split
    · exact ⟨bscEnterLive_recovered _, bscEnterLive_offIsland _⟩
    next hn => exact ⟨⟨hrec.1, hrec.2.resolve_left hn⟩, rfl⟩
  obtain ⟨u, hu, ⟨hlive, hisland, htaken, hwas⟩, hoff⟩ := hend
  have huport (p : Port) : u.port p = (flRecoverExpired x).port p := congrArg (fun x : Fl => x.ports.get p) (offIsland_fl hoff)
  refine ⟨u, hexec.trans (congrArg _ hu), hisland, hlive, htaken, hwas, fun p r hr hblack => ?_, fun p hp => ?_,
    (offIsland_sc hoff).trans (hysc.trans hsc), fun c hc => (offIsland_pulse hoff hc).trans ((hypulse c hc).trans (hpulse c)),
    (offIsland_kept hoff).trans (hykept.trans hkept)⟩
  · obtain ⟨r', hr', hst, hcause, hret⟩ := hin p (Port.mem_all p) (by rw [hstate, State.portState, hr, ← hblack]; rfl)
    exact ⟨r', (huport p).trans hr', hst, hcause, (congrArg (·.get p) (offIsland_retPorts hoff)).trans hret⟩
  · exact (huport p).trans ((hout p (.inr (by rwa [hstate]))).1.trans (hport p))

/-- Settles O44. -/
theorem islandTimersExpire : Obligations.IslandTimersExpire :=
  ⟨fun _ _ hdue hisland => deadExpired_darkens hdue hisland, fun _ _ hdue hisland => recoverExpired_sheds hdue hisland⟩
end

end Sys2Proof.Machine
end

section
/-! SUPPORT. Records and the island. -/

namespace Sys2Proof.Machine

section
variable {s u v : State} {p q k : Port} {r : PortRecord} {f : Option Nat} {cause : ShedCause}

/-! ### What a record's stage trips leave -/

theorem noBlackOpen_eq_false : s.noBlackOpen = false ↔ ∃ q, s.portState q = some .blackOpen := by
  unfold State.noBlackOpen
  rw [List.all_eq_false]
  refine ⟨fun ⟨q, _, hq⟩ => ⟨q, by simpa using hq⟩, fun ⟨q, hq⟩ => ⟨q, Port.mem_all q, by simp [hq]⟩⟩

theorem noBlackOpen_iff : s.noBlackOpen = true ↔ ∀ q, s.portState q ≠ some .blackOpen := by
  rw [← Bool.not_eq_false, noBlackOpen_eq_false, not_exists]

/-- The look at the ports finds nothing to do: the island is not RECOVER, or a port is BLACK-OPEN. -/
def State.unlooked (s : State) : Prop := s.bsc.island = some .recover → ∃ q, s.portState q = some .blackOpen

theorem bscLook_of_unlooked (h : s.unlooked) : bscLook s = s := by
  unfold bscLook
  by_cases hisland : s.bsc.island = some .recover
  · exact if_neg (by simp [noBlackOpen_eq_false.2 (h hisland)])
  · exact if_neg (by simp [hisland])

/-- A state in which ports that were drawing may have been tripped, and nothing else has been done to a port or to the island. -/
structure State.TripsOnly (s u : State) : Prop where
  bsc : u.bsc = s.bsc
  record : u.ret.valid = s.ret.valid ∧ u.ret.darkTaken = s.ret.darkTaken ∧ u.ret.wasClosed = s.ret.wasClosed
  inputs : u.tac.inputs = s.tac.inputs
  stands : ∀ p, s.isClosedOrClosing p = false → u.port p = s.port p
  trips : ∀ p, s.isClosedOrClosing p = true → u.portState p ≠ some .blackOpen ∧
    (s.level (.feederCb p) ≠ .released → u.isDrawing p = true)

theorem isDrawing_of_closed (h : s.isClosedOrClosing p = true) : s.isDrawing p = true ∧ s.portState p ≠ some .blackOpen := by
  simp only [State.isClosedOrClosing, Bool.or_eq_true, beq_iff_eq] at h
  simp only [State.isDrawing, Bool.or_eq_true, beq_iff_eq]
  exact ⟨.inl h, fun hblack => by rw [hblack] at h; simp at h⟩

theorem State.TripsOnly.refl (s : State) : s.TripsOnly s where
  bsc := rfl
  record := ⟨rfl, rfl, rfl⟩
  inputs := rfl
  stands _ _ := rfl
  trips _ h := ⟨(isDrawing_of_closed h).2, fun _ => (isDrawing_of_closed h).1⟩

theorem isDrawing_iff : s.isDrawing p = true ↔ s.isClosedOrClosing p = true ∨ s.portState p = some .opening := by
  simp [State.isDrawing, State.isClosedOrClosing]

theorem State.TripsOnly.trans (h : s.TripsOnly u) (h' : u.TripsOnly v) : s.TripsOnly v where
  bsc := h'.bsc.trans h.bsc
  record := by
    obtain ⟨hvalid, htaken, hwas⟩ := h.record
    obtain ⟨hvalid', htaken', hwas'⟩ := h'.record
    exact ⟨hvalid'.trans hvalid, htaken'.trans htaken, hwas'.trans hwas⟩
  inputs := h'.inputs.trans h.inputs
  stands p hp := by
    have hstands := h.stands p hp
    refine (h'.stands p ?_).trans hstands
    rwa [State.isClosedOrClosing, State.portState, hstands]
  trips p hp := by
    obtain ⟨hblack, hdraws⟩ := h.trips p hp
    cases hclosed : u.isClosedOrClosing p with
    | true =>
      obtain ⟨hblack', hdraws'⟩ := h'.trips p hclosed
      exact ⟨hblack', fun hlevel => hdraws' (by rwa [State.level_eq h.inputs])⟩
    | false =>
      have hsame := h'.stands p hclosed
      refine ⟨by rwa [State.portState, hsame], fun hlevel => ?_⟩
      have hopening := (isDrawing_iff.1 (hdraws hlevel)).resolve_left (by rw [hclosed]; nofun)
      exact isDrawing_iff.2 (.inr (by rwa [State.portState, hsame]))

theorem State.TripsOnly.black (h : s.TripsOnly u) (p : Port) : u.portState p = some .blackOpen ↔ s.portState p = some .blackOpen := by
  cases hp : s.isClosedOrClosing p with
  | true => exact ⟨fun hblack => absurd hblack (h.trips p hp).1, fun hblack => absurd hblack (isDrawing_of_closed hp).2⟩
  | false => rw [State.portState, h.stands p hp, ← State.portState]

theorem State.TripsOnly.noBlackOpen (h : s.TripsOnly u) : u.noBlackOpen = s.noBlackOpen := by
  rw [Bool.eq_iff_iff, noBlackOpen_iff, noBlackOpen_iff]
  exact forall_congr' fun q => not_congr (h.black q)

theorem State.TripsOnly.unlooked (h : s.TripsOnly u) (hs : s.unlooked) : u.unlooked := by
  intro hisland
  obtain ⟨q, hq⟩ := hs (h.bsc ▸ hisland)
  exact ⟨q, (h.black q).2 hq⟩

/-- What leaves the ports, the island and its record. -/
theorem State.TripsOnly.of_beside (hbsc : u.bsc = s.bsc) (hret : u.ret = s.ret) (hinputs : u.tac.inputs = s.tac.inputs)
    (hstate : ∀ p, u.portState p = s.portState p) (hport : ∀ p, s.isClosedOrClosing p = false → u.port p = s.port p) : s.TripsOnly u where
  bsc := hbsc
  record := by rw [hret]; exact ⟨rfl, rfl, rfl⟩
  inputs := hinputs
  stands := hport
  trips p hp := by
    obtain ⟨hdraws, hblack⟩ := isDrawing_of_closed hp
    exact ⟨by rwa [hstate], fun _ => by rwa [State.isDrawing, hstate, ← State.isDrawing]⟩

theorem portState_portEntered (h : s.isClosedOrClosing p = true ∨ s.portState p = some .opening) (st : PortState)
    (dest : Option Destination) (cause : Option ShedCause) : (portEntered p st dest cause s).portState p = some st := by
  rw [State.portState, portEntered_port_same]
  cases hport : s.port p with
  | none => simp [State.isClosedOrClosing, State.portState, hport] at h
  | some r => rfl

/-- A port that was drawing enters a state but BLACK-OPEN, drawing unless its breaker is released. -/
theorem State.TripsOnly.enter (h : s.TripsOnly u) (hs : s.unlooked) (hp : s.isClosedOrClosing p = true)
    (hu : u.isClosedOrClosing p = true ∨ u.portState p = some .opening) {st : PortState} (hst : st ≠ .blackOpen)
    (hdraws : s.level (.feederCb p) ≠ .released → st = .opening) (dest : Option Destination) (cause : Option ShedCause) :
    s.TripsOnly (flEnter p st dest cause u) := by
  have hother {q : Port} (hq : q ≠ p) : (portEntered p st dest cause u).port q = u.port q := portEntered_port_other hq ..
  have hblack : u.portState p ≠ some .blackOpen := mt (h.black p).1 (isDrawing_of_closed hp).2
  have hlook : (portEntered p st dest cause u).unlooked := by
    intro hisland
    obtain ⟨q, hq⟩ := h.unlooked hs hisland
    have hne : q ≠ p := by
      rintro rfl
      exact hblack hq
    exact ⟨q, by rwa [State.portState, hother hne]⟩
  have hsome := portState_portEntered hu st dest cause
  rw [flEnter_eq, bscLook_of_unlooked hlook]
  exact {
    bsc := h.bsc
    record := h.record
    inputs := h.inputs
    stands := fun q hq => (hother fun hqp => by rw [hqp, hp] at hq; cases hq).trans (h.stands q hq)
    trips := fun q hq => by
      by_cases hqp : q = p
      · subst hqp
        refine ⟨by rw [hsome]; exact fun h => hst (Option.some.inj h), fun hlevel => ?_⟩
        exact isDrawing_iff.2 (.inr (hsome.trans (congrArg some (hdraws hlevel))))
      · have hstate : (portEntered p st dest cause u).portState q = u.portState q := by rw [State.portState, hother hqp]; rfl
        rw [State.isDrawing, hstate, ← State.isDrawing]
        exact h.trips q hq }

theorem State.TripsOnly.modify (h : s.TripsOnly u) (hp : s.isClosedOrClosing p = true) {g : PortRecord → PortRecord}
    (hg : ∀ r, (g r).state = r.state) : s.TripsOnly (u.modifyPort p g) where
  bsc := h.bsc
  record := h.record
  inputs := h.inputs
  stands q hq := (State.port_modifyPort_other (fun hqp => by rw [hqp, hp] at hq; cases hq) g).trans (h.stands q hq)
  trips q hq := by
    rw [State.isDrawing, portState_modifyPort hg, ← State.isDrawing]
    exact h.trips q hq

theorem tripsOnly_requestTrip (s : State) (p : Port) (w : Nat) : s.TripsOnly (s.requestTrip (.feeder p) .fl w true).2 := by
  have hsame := sameButBreaker_requestTrip s (.feeder p) .fl w true
  have hport := sameButBreaker_port hsame
  refine .of_beside ?_ (sameButBreaker_ret hsame) (kept_inputs (State.kept_requestTrip ..))
    (fun q => congrArg (Option.map fun r : PortRecord => r.state) (hport q)) fun q _ => hport q
  obtain ⟨-, -, tac, hu, -⟩ := hsame
  rw [hu]

theorem tripsOnly_openingOf (hs : s.unlooked) (hp : s.isClosedOrClosing p = true) (dest : Destination) :
    s.TripsOnly (openingOf p dest s) := by
  have hrequested := tripsOnly_requestTrip s p (s.par.port.get p).pulseWidth
  have hport := sameButBreaker_port (sameButBreaker_requestTrip s (.feeder p) .fl (s.par.port.get p).pulseWidth true) p
  have hstate := portState_modifyPort (g := fun r => { r with closeActive := r.closeActive && !(s.pulse (.feederClose p)).isActive })
    (fun _ => rfl) (s.requestTrip (.feeder p) .fl (s.par.port.get p).pulseWidth true).2 p p
  refine (hrequested.modify hp (g := fun r => { r with closeActive := r.closeActive && !(s.pulse (.feederClose p)).isActive })
    fun _ => rfl).enter hs hp (.inl ?_) (st := .opening) (by nofun) (fun _ => rfl) (some dest) none
  rw [State.isClosedOrClosing, hstate, State.portState, hport]
  exact hp

/-- A trip of a drawing port toward SHED. -/
theorem flTrip_tripsOnly (hs : s.unlooked) (hcause : cause ≠ .rotation) (p : Port) : s.TripsOnly (flTrip p (.shed cause) s).2 := by
  by_cases hp : s.isClosedOrClosing p = true
  · obtain ⟨r, hport⟩ : ∃ r, s.port p = some r := by
      cases hport : s.port p with
      | none => simp [State.isClosedOrClosing, State.portState, hport] at hp
      | some r => exact ⟨r, rfl⟩
    obtain ⟨-, htrip⟩ | ⟨-, htrip⟩ | ⟨-, hlocal, hidle, htrip⟩ := flTrip_cases hport (.shed cause)
    · rw [htrip]
      exact .refl s
    · rw [htrip]
      exact (State.TripsOnly.refl s).modify hp fun _ => rfl
    · rw [htrip]
      have hopening := tripsOnly_openingOf hs hp (.shed cause)
      have hrecord : (openingOf p (.shed cause) s).port p = some (s.openingRecord p r (.shed cause)) :=
        congrArg Prod.fst (openingOf_portSide hport hlocal hidle _)
      have hdest : ((openingOf p (.shed cause) s).port p).bind (·.destination) = some (.shed cause) := by
        rw [hrecord]
        rfl
      have hstate : (openingOf p (.shed cause) s).portState p = some .opening := by
        rw [State.portState, hrecord]
        rfl
      clear hrecord htrip
      generalize openingOf p (.shed cause) s = z at hopening hdest hstate ⊢
      dsimp only
      split
      next hlevel =>
        have hshed : s.TripsOnly (flEnter p .shed none (some cause) z) :=
          hopening.enter hs hp (.inr hstate) (st := .shed) (by nofun) (fun h => absurd hlevel h) none (some cause)
        unfold flOpenConfirmed
        rw [hdest]
        dsimp only
        split
        · rw [if_neg (by simp [hcause])]
          exact hshed
        · exact hshed
      · exact hopening
  · unfold flTrip
    rw [if_neg (by simp [hp])]
    exact .refl s

theorem flTripAll_tripsOnly (hs : s.unlooked) (hcause : cause ≠ .rotation) (l : List Port) :
    s.TripsOnly (flTripAll (.shed cause) l s) := by
  induction l generalizing s with
  | nil => exact .refl s
  | cons p l ih =>
    have htrip := flTrip_tripsOnly hs hcause p
    exact htrip.trans (ih (htrip.unlooked hs))

/-- The stages on a record trip ports and do nothing else to them or to the island (R142). -/
theorem flRecord_tripsOnly (hs : s.unlooked) (f : Option Nat) : s.TripsOnly (flRecord f s) := by
  have hladder (x : State) (y : Fl) (hy : y.ports = x.fl.ports) : x.TripsOnly { x with fl := y } :=
    .of_beside rfl rfl rfl (fun p => congrArg (fun q => (q.get p).map (·.state)) hy) fun p _ => congrArg (·.get p) hy
  have hstages (l : List Port) : s.TripsOnly (l.foldl (flStage f) s) := by
    refine foldl_keeps (P := s.TripsOnly) (fun x k hx => ?_) l (.refl s)
    have hstage := hx.trans (hladder x (x.withStage k (x.stageEval f k).1).fl rfl)
    rw [flStage_eq]
    split
    · have habandoned : s.TripsOnly (flAbandonSwap (x.withStage k (x.stageEval f k).1)) :=
        hstage.trans (hladder _ { (x.withStage k (x.stageEval f k).1).fl with swap := none } rfl)
      exact habandoned.trans (flTripAll_tripsOnly (cause := .frequency) (habandoned.unlooked hs) (by nofun) _)
    · exact hstage
  unfold flRecord
  split
  · obtain ⟨x, b, hx⟩ := flQualify_ladder f (if s.operating then Port.all.foldl (flStage f) s else s)
    rw [hx]
    refine State.TripsOnly.trans ?_ (hladder _ _ rfl)
    split
    · exact hstages Port.all
    · exact .refl s
  · exact .refl s
end

section
variable {s u v w x : State} {p : Port} {c : Condition} {t : Tick}

/-! ### The island after a record (R158) -/

/-- The state that an entry to LIVE sets up (R161, R163). -/
def State.lives (s : State) : State := (clearPreDark (s.cancel .recover)).setIsland .live

theorem bscEnterLive_setSide (s : State) : (bscEnterLive s).setSide = s.lives.setSide := setSide_of_offSet (bscEnterLive_offSet s)

theorem setSide_reconstructed (h : u.setSide = v.setSide) : u.bsc.reconstructed = v.bsc.reconstructed :=
  (congrArg Bsc.reconstructed (setSide_bsc h) :)
theorem setSide_recover (h : u.setSide = v.setSide) : u.bsc.recover = v.bsc.recover := (congrArg Bsc.recover (setSide_bsc h) :)

theorem setSide_noBlackOpen (h : u.setSide = v.setSide) : u.noBlackOpen = v.noBlackOpen := by
  unfold State.noBlackOpen State.portState State.port
  rw [ladderSide_fl (setSide_ladder h)]

/-- The entry to RECOVER stays there while a port is BLACK-OPEN, and goes on to LIVE where none is (R162). -/
theorem bscEnterRecover_setSide (s : State) : (bscEnterRecover s).setSide = (if s.noBlackOpen then s.recovers.lives else s.recovers).setSide := by
  obtain ⟨x, hx, hu⟩ := bscEnterRecover_eq s
  have hblack : x.noBlackOpen = s.noBlackOpen := (setSide_noBlackOpen hx :)
  have hisland : x.bsc.island = some .recover := setSide_island hx
  rw [hu]
  unfold bscLook
  rw [hblack, hisland]
  cases s.noBlackOpen with
  | true =>
    refine (bscEnterLive_setSide x).trans ?_
    have hbsc := setSide_bsc hx
    have hlive : ({ x.lives.bsc with session := .idle } : Bsc) = { s.recovers.lives.bsc with session := .idle } :=
      congrArg (fun y : Bsc => { y with island := some .live, recover := .stopped }) hbsc
    have hside : x.lives.ladderSide = s.recovers.lives.ladderSide := (setSide_ladder hx :)
    unfold State.setSide
    rw [hside, hlive]
    exact congrArg (fun q => (s.recovers.lives.ladderSide, { s.recovers.lives.bsc with session := .idle }, false, Quad.all false, q))
      (setSide_retained hx)
  | false => exact hx

theorem bscBusLive_offSet (c : Condition) (s : State) : (bscBusLive c s).offSet = s.offSet := by
  unfold bscBusLive
  split
  · unfold dsLostOrLive
    split
    · exact (dsEnterSync_offSet _).trans (sessionEnd_offSet s)
    · exact sessionEnd_offSet s
  · rfl

/-- What a record hands to the island, after the stages, and what the set leaves of it. -/
theorem exec_closes_island {i : Instr} (hc : s.closesCycle i t) (hs : s.unlooked) : ∃ u r m hi w, exec i s = .next u ∧ u.mu.latest = some r ∧
    w = flRecord r.f (s.atRecord t m hi) ∧ (s.atRecord t m hi).TripsOnly w ∧ w.kept = (s.atRecord t m hi).kept ∧
    u = dsRecord r (bscRecord r.busCondition w) := by
  obtain ⟨m, hi, r, hr, hexec⟩ := exec_closes hc
  have hkept : (flRecord r.f (s.atRecord t m hi)).kept = (s.atRecord t m hi).kept := flRecord_kept _ _
  refine ⟨_, r, m, hi, _, hexec, ?_, rfl, flRecord_tripsOnly (s := s.atRecord t m hi) hs r.f, hkept, rfl⟩
  rw [kept_mu ((dsRecord_kept _ _).trans (bscRecord_kept _ _)), kept_mu hkept]
  exact hr

/-- The island's side after a record that finds it reconstructed. -/
theorem followed_setSide (hreconstructed : s.bsc.reconstructed = true) (r : CycleRecord) :
    ∃ z, z.offSet = s.offSet ∧ (dsRecord r (bscRecord c s)).setSide = (bscFollow c z).setSide :=
  ⟨bscBusLive c s, bscBusLive_offSet c s, by rw [dsRecord_setSide, bscRecord, if_pos hreconstructed]⟩

/-- Settles O45, the island state by the bus condition of a record. -/
theorem record_followed {i : Instr} (hc : s.closesCycle i t) (hreconstructed : s.bsc.reconstructed = true)
    (hblack : s.bsc.island = some .recover → s.noBlackOpen = false) :
    let recovering (u : State) : Prop :=
      (s.noBlackOpen = false → u.bsc.island = some .recover ∧
        u.bsc.recover = .running t (s.par.restore.recoverTimeout * 600000000)) ∧
      (s.noBlackOpen = true → u.bsc.island = some .live ∧ u.bsc.recover = .stopped)
    ∃ u r, exec i s = .next u ∧ u.mu.latest = some r ∧
      (s.bsc.island = some .live ∨ s.bsc.island = some .recover → r.busCondition = .dead →
        u.bsc.island = some .deadWait ∧ u.bsc.origin = (if s.bsc.island = some .live then .live else .recover) ∧
          u.bsc.dead = .running t (s.par.black.deadTime * 10000) ∧ u.bsc.recover = .stopped ∧ u.fl.swap = none) ∧
      (s.bsc.island = some .deadWait → s.bsc.origin = .live → r.busCondition = .live →
        u.bsc.island = some .live ∧ u.bsc.dead = .stopped ∧ u.ret.darkTaken = false) ∧
      (s.bsc.island = some .deadWait → s.bsc.origin = .recover → r.busCondition = .live →
        recovering u ∧ u.bsc.dead = .stopped) ∧
      (s.bsc.island = some .dark → r.busCondition = .live → recovering u) ∧
      (s.bsc.island = some .live ∨ s.bsc.island = some .recover → r.busCondition ≠ .dead → u.bsc.island = s.bsc.island) ∧
      (s.bsc.island = some .deadWait ∨ s.bsc.island = some .dark → r.busCondition ≠ .live → u.bsc.island = s.bsc.island) := by
  intro recovering
  obtain ⟨u, r, m, hi, w, hexec, hr, -, htrips, hkept, hu⟩ := exec_closes_island hc fun h => noBlackOpen_eq_false.1 (hblack h)
  obtain ⟨z, hz, hset⟩ := followed_setSide (c := r.busCondition) (s := w) (by rw [htrips.bsc]; exact hreconstructed) r
  rw [← hu] at hset
  have hzkept : z.kept = (s.atRecord t m hi).kept := (offIsland_kept (State.offIsland_of_offSet hz)).trans hkept
  have hzbsc : z.bsc = { s.bsc with session := z.bsc.session } := by
    rw [offSet_bsc hz, htrips.bsc]
    rfl
  have hzisland : z.bsc.island = s.bsc.island := by rw [hzbsc]
  have hzorigin : z.bsc.origin = s.bsc.origin := by rw [hzbsc]
  have hztb : z.tb = t := (kept_tb hzkept :)
  have hzpar : z.par = s.par := by
    rw [State.par, kept_cr hzkept]
    rfl
  have hzblack : z.noBlackOpen = s.noBlackOpen := (setSide_noBlackOpen (setSide_of_offSet hz)).trans htrips.noBlackOpen
  have hbsc {y : State} (h : u.setSide = y.setSide) : u.bsc.origin = y.bsc.origin ∧ u.bsc.dead = y.bsc.dead ∧
      u.bsc.recover = y.bsc.recover :=
    ⟨(congrArg Bsc.origin (setSide_bsc h) :), (congrArg Bsc.dead (setSide_bsc h) :), setSide_recover h⟩
  have hdead {o : Origin} (h : u.setSide = (bscEnterDeadWait o z).setSide) : u.bsc.island = some .deadWait ∧ u.bsc.origin = o ∧
      u.bsc.dead = .running t (s.par.black.deadTime * 10000) ∧ u.bsc.recover = .stopped ∧ u.fl.swap = none := by
    rw [bscEnterDeadWait_setSide, State.deadWaiting, hztb, hzpar] at h
    obtain ⟨horigin, hdead, hrecover⟩ := hbsc h
    exact ⟨setSide_island h, horigin, hdead, hrecover, congrArg Fl.swap (ladderSide_fl (setSide_ladder h))⟩
  have hrecovers {y : State} (h : u.setSide = (bscEnterRecover y).setSide) (hblack : y.noBlackOpen = s.noBlackOpen) (htb : y.tb = t)
      (hpar : y.par = s.par) : recovering u ∧ u.bsc.dead = y.bsc.dead := by
    rw [bscEnterRecover_setSide, hblack] at h
    cases hnone : s.noBlackOpen with
    | true =>
      rw [hnone, if_pos rfl] at h
      obtain ⟨-, hdead, hrecover⟩ := hbsc h
      exact ⟨⟨fun h => absurd (h.symm.trans hnone) nofun, fun _ => ⟨setSide_island h, hrecover⟩⟩, hdead⟩
    | false =>
      rw [hnone, if_neg nofun, State.recovers, htb, hpar] at h
      obtain ⟨-, hdead, hrecover⟩ := hbsc h
      exact ⟨⟨fun _ => ⟨setSide_island h, hrecover⟩, fun h => absurd (h.symm.trans hnone) nofun⟩, hdead⟩
  have hstands (h : u.setSide = z.setSide) : u.bsc.island = s.bsc.island := (setSide_island h).trans hzisland
  refine ⟨u, r, hexec, hr, fun hup hc => ?_, fun hwait horigin hc => ?_, fun hwait horigin hc => ?_, fun hdark hc => ?_, fun hup hc => ?_,
    fun hdown hc => ?_⟩
  · rw [hc] at hset
    obtain hup | hup := hup
    · rw [bscFollow_of_live (hzisland.trans hup), if_pos rfl] at hset
      rw [hup, if_pos rfl]
      exact hdead hset
    · rw [bscFollow_of_recover (hzisland.trans hup), if_pos rfl] at hset
      rw [hup, if_neg nofun]
      exact hdead hset
  · obtain ⟨-, hlive, -⟩ := bscFollow_of_deadWait (c := r.busCondition) (hzisland.trans hwait)
    rw [hc, hlive (hzorigin.trans horigin), bscEnterLive_setSide] at hset
    exact ⟨setSide_island hset, (hbsc hset).2.1, setSide_darkTaken hset⟩
  · obtain ⟨-, -, hrecover⟩ := bscFollow_of_deadWait (c := r.busCondition) (hzisland.trans hwait)
    rw [hc, hrecover (hzorigin.trans horigin)] at hset
    exact hrecovers hset hzblack hztb hzpar
  · rw [hc, bscFollow_of_dark (hzisland.trans hdark), if_pos rfl] at hset
    exact (hrecovers hset hzblack hztb hzpar).1
  · obtain hup | hup := hup
    · rw [bscFollow_of_live (hzisland.trans hup), if_neg hc] at hset
      exact hstands hset
    · rw [bscFollow_of_recover (hzisland.trans hup), if_neg hc] at hset
      exact hstands hset
  · obtain hdown | hdown := hdown
    · obtain ⟨hother, -, -⟩ := bscFollow_of_deadWait (c := r.busCondition) (hzisland.trans hdown)
      rw [hother hc] at hset
      exact hstands hset
    · rw [bscFollow_of_dark (hzisland.trans hdown), if_neg hc] at hset
      exact hstands hset
end

section
variable {s u v w x : State} {p : Port} {l : List Port} {t : Tick}

/-! ### The first island state (R165, R183) -/

/-- Ports made BLACK-OPEN at a station that is not in RECOVER. -/
theorem flBlack_fold (hl : l.Nodup) (h : s.bsc.island ≠ some .recover) :
    let u := l.foldl (fun s p => flEnter p .blackOpen none none s) s
    u.bsc = s.bsc ∧ u.kept = s.kept ∧ u.ret = { s.ret with ports := u.ret.ports } ∧
      (∀ p, p ∉ l → u.port p = s.port p ∧ u.ret.ports.get p = s.ret.ports.get p) ∧
      ∀ p, p ∈ l → (s.port p).isSome = true → u.portState p = some .blackOpen ∧ u.ret.ports.get p = some (.blackOpen, none) := by
  induction l generalizing s with
  | nil => exact ⟨rfl, rfl, rfl, fun _ _ => ⟨rfl, rfl⟩, nofun⟩
  | cons q l ih =>
    obtain ⟨hq, hl⟩ := List.nodup_cons.1 hl
    have heq : flEnter q .blackOpen none none s = portEntered q .blackOpen none none s :=
      (flEnter_eq ..).trans (bscLook_of_not_recover h)
    have hkept : (flEnter q .blackOpen none none s).kept = s.kept := flEnter_kept ..
    have hretained : ((flEnter q .blackOpen none none s).ret.ports.get q = some (.blackOpen, none)) := flEnter_retained ..
    have hother {p : Port} (hp : p ≠ q) : (flEnter q .blackOpen none none s).port p = s.port p ∧
        (flEnter q .blackOpen none none s).ret.ports.get p = s.ret.ports.get p :=
      ⟨flEnter_port_other hp .., flEnter_retained_other hp ..⟩
    have hsame := flEnter_port_same q .blackOpen none none s
    dsimp only [List.foldl_cons]
    rw [heq] at hkept hretained hother hsame ⊢
    obtain ⟨hbsc, hkept', hrecord, hout, hin⟩ := ih hl (s := portEntered q .blackOpen none none s) h
    refine ⟨hbsc, hkept'.trans hkept, hrecord, fun p hp => ?_, fun p hp hsome => ?_⟩
    · obtain ⟨hne, hp⟩ := not_or.1 (mt List.mem_cons.2 hp)
      obtain ⟨hport, hret⟩ := hout p hp
      exact ⟨hport.trans (hother hne).1, hret.trans (hother hne).2⟩
    · by_cases hpq : p = q
      · subst hpq
        obtain ⟨r, hr⟩ := Option.isSome_iff_exists.1 hsome
        obtain ⟨hport, hret⟩ := hout p hq
        refine ⟨?_, hret.trans hretained⟩
        rw [State.portState, hport, hsame, hr]
        rfl
      · exact hin p ((List.mem_cons.1 hp).resolve_left hpq) (by rwa [(hother hpq).1])

/-- What the reconstruction leaves for the later records: the SHED ports that it makes BLACK-OPEN, and every other port as it was. -/
structure State.Reconstructed (s u : State) (returns : Port → Prop) : Prop where
  black : ∀ p, s.portState p = some .shed → returns p → u.portState p = some .blackOpen ∧ u.ret.ports.get p = some (.blackOpen, none)
  shed : ∀ p, s.portState p = some .shed → ¬ returns p → u.portState p = some .shed
  stands : ∀ p, s.portState p = some .held ∨ s.portState p = some .faulted → u.port p = s.port p

theorem portState_eq_some {st : PortState} (h : s.portState p = some st) : ∃ r, s.port p = some r ∧ r.state = st :=
  Option.map_eq_some_iff.1 h

theorem mem_blackPorts {live : Bool} : p ∈ s.blackPorts live ↔ s.portState p = some .shed ∧
    ((s.ret.valid = true ∧ s.ret.darkTaken = true) ∧ s.ret.wasClosed.get p = true ∨ s.ret.valid = false ∧ live = false) := by
  simp only [State.blackPorts, List.mem_filter, Port.mem_all, true_and, State.returnsBlack, Bool.and_eq_true, beq_iff_eq]
  cases s.ret.valid <;> simp

/-- A port that is open: no breaker of it closes the circuit, or none is asked to open. -/
def PortState.isOpen (st : PortState) : Prop := st = .shed ∨ st = .blackOpen ∨ st = .held ∨ st = .faulted

/-- What leaves the open ports leaves the reconstruction. -/
theorem State.Reconstructed.later {returns : Port → Prop} (h : s.Reconstructed u returns)
    (hopen : ∀ p r, u.port p = some r → r.state.isOpen → v.port p = some r ∧ v.ret.ports.get p = u.ret.ports.get p) :
    s.Reconstructed v returns := by
  have hstate {p : Port} {st : PortState} (hst : u.portState p = some st) (hopens : st.isOpen) :
      v.portState p = some st ∧ v.ret.ports.get p = u.ret.ports.get p ∧ v.port p = u.port p := by
    obtain ⟨r, hr, rfl⟩ := portState_eq_some hst
    obtain ⟨hport, hret⟩ := hopen p r hr hopens
    exact ⟨by rw [State.portState, hport]; rfl, hret, hport.trans hr.symm⟩
  refine ⟨fun p hp hb => ?_, fun p hp hb => (hstate (h.shed p hp hb) (.inl rfl)).1, fun p hp => ?_⟩
  · obtain ⟨hblack, hret⟩ := h.black p hp hb
    obtain ⟨hblack', hret', -⟩ := hstate hblack (.inr (.inl rfl))
    exact ⟨hblack', hret'.trans hret⟩
  · have hport := h.stands p hp
    have hp' : u.portState p = s.portState p := by rw [State.portState, hport]; rfl
    obtain hp | hp := hp
    · exact (hstate (hp'.trans hp) (.inr (.inr (.inl rfl)))).2.2.trans hport
    · exact (hstate (hp'.trans hp) (.inr (.inr (.inr rfl)))).2.2.trans hport

theorem State.Reconstructed.of_sides {returns : Port → Prop} (h : s.Reconstructed u returns) (hport : ∀ p, v.port p = u.port p)
    (hret : v.ret.ports = u.ret.ports) : s.Reconstructed v returns :=
  h.later fun p _ hr _ => ⟨(hport p).trans hr, by rw [hret]⟩

/-- The ports that the reconstruction makes BLACK-OPEN, and the others. -/
theorem blackPorts_reconstructed (live : Bool) (hisland : s.bsc.island ≠ some .recover) :
    let u := (s.blackPorts live).foldl (fun s p => flEnter p .blackOpen none none s) s
    u.bsc = s.bsc ∧ u.kept = s.kept ∧ u.ret = { s.ret with ports := u.ret.ports } ∧
      s.Reconstructed u (fun p => (s.ret.valid = true ∧ s.ret.darkTaken = true) ∧ s.ret.wasClosed.get p = true ∨
        s.ret.valid = false ∧ live = false) ∧
      ∀ p, s.portState p ≠ some .shed → u.port p = s.port p := by
  obtain ⟨hbsc, hkept, hret, hout, hin⟩ := flBlack_fold (l := s.blackPorts live) (Port.all_nodup.filter _) hisland
  have hstands (p : Port) (hp : s.portState p ≠ some .shed) := (hout p fun h => hp (mem_blackPorts.1 h).1).1
  refine ⟨hbsc, hkept, hret, ⟨fun p hp hb => ?_, fun p hp hb => ?_, fun p hp => ?_⟩, hstands⟩
  · obtain ⟨r, hr, -⟩ := portState_eq_some hp
    exact hin p (mem_blackPorts.2 ⟨hp, hb⟩) (by rw [hr]; rfl)
  · rw [State.portState, (hout p fun h => hb (mem_blackPorts.1 h).2).1]
    exact hp
  · exact hstands p (by obtain hp | hp := hp <;> rw [hp] <;> nofun)

/-- The first island state by the bus and the retention record, after the ports that return to BLACK-OPEN (R183). -/
theorem bscReconstruct_leaves (c : Condition) (hisland : s.bsc.island = some .deadWait) :
    let u := bscReconstruct c s
    let taken := s.ret.valid = true ∧ s.ret.darkTaken = true
    u.bsc.reconstructed = true ∧
    s.Reconstructed u (fun p => taken ∧ s.ret.wasClosed.get p = true ∨ s.ret.valid = false ∧ c ≠ .live) ∧
    (c = .live → ¬ taken → u.bsc.island = some .live ∧ u.ret.darkTaken = false ∧ ∀ p, u.ret.wasClosed.get p = false) ∧
    (c = .live → taken → (u.noBlackOpen = true → u.bsc.island = some .live ∧ u.ret.darkTaken = false) ∧
      (u.noBlackOpen = false → u.bsc.island = some .recover ∧
        u.bsc.recover = .running s.tb (s.par.restore.recoverTimeout * 600000000))) ∧
    (c ≠ .live → u.bsc.island = some .dark ∧ u.ret.darkTaken = true ∧
      ∀ p, u.ret.wasClosed.get p = (s.ret.wasClosed.get p || s.isDrawing p)) := by
  intro u taken
  obtain ⟨x, hx⟩ : ∃ x : State, x = { s with bsc := { s.bsc with reconstructed := true } } := ⟨_, rfl⟩
  have hxbsc : x.bsc = { s.bsc with reconstructed := true } := by rw [hx]
  obtain ⟨hbsc, hkept, hret, hports, hstands⟩ := blackPorts_reconstructed (s := x) (c == .live) (by rw [hxbsc]; simp [hisland])
  obtain ⟨y, hy⟩ : ∃ y, y = (x.blackPorts (c == .live)).foldl (fun s p => flEnter p .blackOpen none none s) x := ⟨_, rfl⟩
  rw [← hy] at hbsc hkept hret hports hstands
  have hu : u = if (c == .live) = true then
      (if (y.ret.valid && y.ret.darkTaken) = true then bscEnterRecover y else bscEnterLive y) else bscEnterDark y := by
    rw [hy, hx]
    rfl
  clear hy
  have hxs : x.ret = s.ret ∧ (∀ p, x.port p = s.port p) ∧ x.kept = s.kept := by rw [hx]; exact ⟨rfl, fun _ => rfl, rfl⟩
  obtain ⟨hxret, hxport, hxkept⟩ := hxs
  clear hx
  have hxstate (p : Port) : x.portState p = s.portState p := by rw [State.portState, hxport]; rfl
  have hyret : y.ret.valid = s.ret.valid ∧ y.ret.darkTaken = s.ret.darkTaken ∧ y.ret.wasClosed = s.ret.wasClosed := by
    rw [hret, hxret]
    exact ⟨rfl, rfl, rfl⟩
  obtain ⟨hvalid, htaken, hwas⟩ := hyret
  have hystate : s.Reconstructed y (fun p => taken ∧ s.ret.wasClosed.get p = true ∨ s.ret.valid = false ∧ c ≠ .live) := by
    obtain ⟨hblack, hshed, hopen⟩ := hports
    simp only [hxstate, hxret, hxport, beq_eq_false_iff_ne] at hblack hshed hopen
    exact ⟨hblack, hshed, hopen⟩
  have hyrec : y.bsc.reconstructed = true := by rw [hbsc, hxbsc]
  have hytb : y.tb = s.tb := (kept_tb hkept).trans (kept_tb hxkept)
  have hypar : y.par = s.par := by rw [State.par, kept_cr hkept, kept_cr hxkept, ← State.par]
  rw [hvalid, htaken] at hu
  by_cases hc : c = .live
  · rw [if_pos (beq_iff_eq.2 hc)] at hu
    by_cases htk : taken
    · rw [if_pos (by rw [htk.1, htk.2]; rfl)] at hu
      have hset := bscEnterRecover_setSide y
      rw [← hu] at hset
      obtain ⟨-, -, hside⟩ := bscEnterRecover_leaves y
      rw [← hu] at hside
      have hblack : u.noBlackOpen = y.noBlackOpen := by
        rw [setSide_noBlackOpen hset]
        split <;> rfl
      refine ⟨?_, hystate.of_sides (fun p => portSide_port (hside p)) ?_, fun _ hn => absurd htk hn, fun _ _ => ⟨fun hnone => ?_, fun hsome => ?_⟩,
        fun hn => absurd hc hn⟩
      · rw [setSide_reconstructed hset]
        split <;> exact hyrec
      · rw [setSide_retained hset]
        split <;> rfl
      · rw [← hblack, hnone, if_pos rfl] at hset
        exact ⟨setSide_island hset, setSide_darkTaken hset⟩
      · rw [← hblack, hsome, if_neg nofun, State.recovers, hytb, hypar] at hset
        exact ⟨setSide_island hset, setSide_recover hset⟩
    · rw [if_neg (by rw [Bool.and_eq_true]; exact htk)] at hu
      have hset := bscEnterLive_setSide y
      rw [← hu] at hset
      refine ⟨(setSide_reconstructed hset).trans hyrec,
        hystate.of_sides (fun p => (portSide_port (ladderSide_port (setSide_ladder hset) p) :)) (setSide_retained hset :), fun _ _ =>
        ⟨setSide_island hset, setSide_darkTaken hset, fun p => ?_⟩, fun _ h => absurd h htk, fun hn => absurd hc hn⟩
      rw [setSide_wasClosed hset]
      cases p <;> rfl
  · rw [if_neg (by simpa using hc)] at hu
    obtain ⟨hdark, -, hdarkTaken, hdarkWas, -, -, -, hopen, -⟩ := bscEnterDark_leaves y
    rw [← hu] at hdark hdarkTaken hdarkWas hopen
    refine ⟨((congrArg Bsc.reconstructed hdark :)).trans hyrec, hystate.later fun p r hr hst => hopen p r hr hst, fun h => absurd h hc,
      fun h => absurd h hc, fun _ => ⟨(congrArg Bsc.island hdark :), hdarkTaken, fun p => ?_⟩⟩
    have hdrawing : y.isDrawing p = s.isDrawing p := by
      by_cases hshed : x.portState p = some .shed
      · have hyp : y.portState p = some .shed ∨ y.portState p = some .blackOpen := by
          rw [hxstate] at hshed
          by_cases hb : taken ∧ s.ret.wasClosed.get p = true ∨ s.ret.valid = false ∧ c ≠ .live
          · exact .inr (hystate.black p hshed hb).1
          · exact .inl (hystate.shed p hshed hb)
        rw [hxstate] at hshed
        unfold State.isDrawing
        rw [hshed]
        obtain hyp | hyp := hyp
        · rw [hyp]
        · rw [hyp]
          rfl
      · have hyp : y.portState p = s.portState p := by
          rw [State.portState, hstands p hshed, ← State.portState, hxstate]
        unfold State.isDrawing
        rw [hyp]
    rw [hdarkWas, hwas, hdrawing]

/-- Settles O45, the first island state. -/
theorem record_reconstructs {i : Instr} (hc : s.closesCycle i t) (hrec : s.bsc.reconstructed = false)
    (hisland : s.bsc.island = some .deadWait) :
    ∃ u r, exec i s = .next u ∧ u.mu.latest = some r ∧
      (s.bsc.records < 3 → u.bsc.records = s.bsc.records + 1 ∧ u.bsc.reconstructed = false ∧ u.bsc.island = some .deadWait ∧
        u.bsc.dead = s.bsc.dead ∧ u.ret.darkTaken = s.ret.darkTaken ∧
        ∀ p, s.portState p = some .shed → u.portState p = some .shed) ∧
      (3 ≤ s.bsc.records → u.bsc.reconstructed = true ∧
        let taken := s.ret.valid = true ∧ s.ret.darkTaken = true
        let returns (p : Port) : Prop :=
          (taken ∧ s.ret.wasClosed.get p = true) ∨ (s.ret.valid = false ∧ r.busCondition ≠ .live)
        (∀ p, s.portState p = some .shed → returns p →
          u.portState p = some .blackOpen ∧ u.ret.ports.get p = some (.blackOpen, none)) ∧
        (∀ p, s.portState p = some .shed → ¬ returns p → u.portState p = some .shed) ∧
        (∀ p, s.portState p = some .held ∨ s.portState p = some .faulted → u.port p = s.port p) ∧
        (r.busCondition = .live → ¬ taken →
          u.bsc.island = some .live ∧ u.ret.darkTaken = false ∧ ∀ p, u.ret.wasClosed.get p = false) ∧
        (r.busCondition = .live → taken → (u.noBlackOpen = true → u.bsc.island = some .live ∧ u.ret.darkTaken = false) ∧
          (u.noBlackOpen = false → u.bsc.island = some .recover ∧
            u.bsc.recover = .running t (s.par.restore.recoverTimeout * 600000000))) ∧
        (r.busCondition ≠ .live → u.bsc.island = some .dark ∧ u.ret.darkTaken = true ∧
          (∀ p, s.ret.wasClosed.get p = true → u.ret.wasClosed.get p = true) ∧
          ∀ p, s.isDrawing p = true → s.level (.feederCb p) ≠ .released → u.ret.wasClosed.get p = true)) := by
  obtain ⟨u, r, m, hi, w, hexec, hr, -, htrips, hkept, hu⟩ := exec_closes_island hc fun h => by rw [hisland] at h; cases h
  have hwbsc : w.bsc = s.bsc := htrips.bsc
  obtain ⟨hvalid, htaken, hwas⟩ : w.ret.valid = s.ret.valid ∧ w.ret.darkTaken = s.ret.darkTaken ∧ w.ret.wasClosed = s.ret.wasClosed :=
    htrips.record
  have hopen {p : Port} (h : s.isClosedOrClosing p = false) : w.port p = s.port p := htrips.stands p h
  have hset := dsRecord_setSide r (bscRecord r.busCondition w)
  rw [← hu] at hset
  obtain ⟨x, hx⟩ : ∃ x : State, x = { w with bsc := { w.bsc with records := w.bsc.records + 1 } } := ⟨_, rfl⟩
  have hrecord : bscRecord r.busCondition w = if 4 ≤ s.bsc.records + 1 then bscReconstruct r.busCondition x else x := by
    rw [bscRecord, if_neg (by rw [hwbsc, hrec]; nofun), hx, hwbsc]
  have hxrest : x.bsc.island = some .deadWait ∧ x.bsc.reconstructed = false ∧ x.bsc.dead = s.bsc.dead ∧
      x.bsc.records = s.bsc.records + 1 ∧ x.ret = w.ret ∧ (∀ p, x.port p = w.port p) ∧ x.tb = t ∧ x.par = s.par := by
    have hcr : w.cr = s.cr := (kept_cr hkept :)
    have htb : w.tb = t := (kept_tb hkept :)
    rw [hx, hwbsc]
    exact ⟨hisland, hrec, rfl, rfl, rfl, fun _ => rfl, htb, congrArg (fun c : Cr => c.params.getD Params.unset) hcr⟩
  obtain ⟨hxisland, hxrec, hxdead, hxrecords, hxret, hxport, hxtb, hxpar⟩ := hxrest
  clear hx
  have hxopen {p : Port} (h : s.isClosedOrClosing p = false) : x.port p = s.port p := (hxport p).trans (hopen h)
  have hnot {p : Port} {st : PortState} (h : s.portState p = some st) (hst : st ≠ .closed ∧ st ≠ .closing) :
      s.isClosedOrClosing p = false := by
    simp [State.isClosedOrClosing, h, hst]
  have hxstate {p : Port} {st : PortState} (h : s.portState p = some st) (hst : st ≠ .closed ∧ st ≠ .closing) : x.portState p = some st := by
    rw [State.portState, hxopen (hnot h hst)]
    exact h
  refine ⟨u, r, hexec, hr, fun hfew => ?_, fun hmany => ?_⟩
  · rw [hrecord, if_neg (by omega)] at hset
    refine ⟨?_, (setSide_reconstructed hset).trans hxrec, (setSide_island hset).trans hxisland, ?_, ?_, fun p hp => ?_⟩
    · exact (congrArg Bsc.records (setSide_bsc hset) :).trans hxrecords
    · exact (congrArg Bsc.dead (setSide_bsc hset) :).trans hxdead
    · rw [setSide_darkTaken hset, hxret, htaken]
    · rw [State.portState, portSide_port (ladderSide_port (setSide_ladder hset) p)]
      exact hxstate hp ⟨nofun, nofun⟩
  · rw [hrecord, if_pos (by omega)] at hset
    obtain ⟨hdone, hports, hlive, hrecovers, hdark⟩ := bscReconstruct_leaves (s := x) r.busCondition hxisland
    have hports' := hports.of_sides (v := u) (fun p => portSide_port (ladderSide_port (setSide_ladder hset) p)) (setSide_retained hset)
    rw [hxret, hvalid, htaken, hwas, hxtb, hxpar] at *
    refine ⟨(setSide_reconstructed hset).trans hdone, ?_⟩
    intro taken returns
    refine ⟨fun p hp => hports'.black p (hxstate hp ⟨nofun, nofun⟩), fun p hp => hports'.shed p (hxstate hp ⟨nofun, nofun⟩), fun p hp => ?_,
      fun hc htk => ?_, fun hc htk => ?_, fun hc => ?_⟩
    · obtain hp | hp := hp
      · exact (hports'.stands p (.inl (hxstate hp ⟨nofun, nofun⟩))).trans (hxopen (hnot hp ⟨nofun, nofun⟩))
      · exact (hports'.stands p (.inr (hxstate hp ⟨nofun, nofun⟩))).trans (hxopen (hnot hp ⟨nofun, nofun⟩))
    · obtain ⟨hup, hdarkTaken, hclosed⟩ := hlive hc htk
      exact ⟨(setSide_island hset).trans hup, (setSide_darkTaken hset).trans hdarkTaken, fun p => by rw [setSide_wasClosed hset, hclosed]⟩
    · rw [setSide_island hset, setSide_darkTaken hset, setSide_recover hset, setSide_noBlackOpen hset]
      exact hrecovers hc htk
    · obtain ⟨hdown, hdarkTaken, hclosed⟩ := hdark hc
      refine ⟨(setSide_island hset).trans hdown, (setSide_darkTaken hset).trans hdarkTaken, fun p hp => ?_, fun p hp hlevel => ?_⟩
      · rw [setSide_wasClosed hset, hclosed, hp, Bool.true_or]
      · have hdraws : x.isDrawing p = true := by
          have hdraws : w.isDrawing p = true := by
            cases hclosed : s.isClosedOrClosing p with
            | true => exact (htrips.trips p hclosed).2 hlevel
            | false =>
              have hopening := (isDrawing_iff.1 hp).resolve_left (by rw [hclosed]; nofun)
              exact isDrawing_iff.2 (.inr (by rw [State.portState, hopen hclosed]; exact hopening))
          rwa [State.isDrawing, State.portState, hxport]
        rw [setSide_wasClosed hset, hclosed, hdraws, Bool.or_true]
end

section
variable {s u v w x : State} {c : Condition} {r : CycleRecord} {t : Tick}

/-! ### The session at a record (R172) -/

/-- The session, the own pull of PERMIT, the reports of its edges, and the permit-stuck cause. -/
def State.permitSide (s : State) : Session × Bool × Bool × Bool :=
  (s.bsc.session, s.tac.permitPull, s.tac.permitEdges, s.tac.alarm.permitStuck)

/-- The session with whether the set contends. -/
def State.sessionSide (s : State) : (Session × Bool × Bool × Bool) × Bool := (s.permitSide, decide (s.ds.state = some .arbitrate))

/-- No dead-bus close is in hand: the session is IDLE, or before a win. -/
def State.calm (s : State) : Prop := s.permitPhase ≠ .hold ∧ s.permitPhase ≠ .close

theorem sessionSide_permit (h : u.sessionSide = v.sessionSide) : u.permitSide = v.permitSide := congrArg Prod.fst h
theorem sessionSide_arbitrate (h : u.sessionSide = v.sessionSide) : u.ds.state = some .arbitrate ↔ v.ds.state = some .arbitrate :=
  decide_eq_decide.1 (congrArg Prod.snd h)

theorem permitSide_phase (h : u.permitSide = v.permitSide) : u.permitPhase = v.permitPhase := congrArg (fun x => x.1.phase) h

theorem State.calm.of_permitSide (hs : v.calm) (h : u.permitSide = v.permitSide) : u.calm := by
  unfold State.calm at hs ⊢
  rwa [permitSide_phase h]

theorem dsEnter_of_calm (hs : s.calm) (st : DieselState) : dsEnter st s = { s with ds := s.ds.enter st } := by
  unfold dsEnter
  dsimp only
  rw [if_neg]
  simp [hs.1]

theorem dsEnterFailed_permit (hs : s.calm) : (dsEnterFailed s).permitSide = s.permitSide := by
  unfold dsEnterFailed
  rw [dsEnter_of_calm hs]
  rfl

theorem dsEnterFailed_sessionSide (hs : s.calm) (hst : s.ds.state ≠ some .arbitrate) : (dsEnterFailed s).sessionSide = s.sessionSide := by
  unfold State.sessionSide
  rw [dsEnterFailed_permit hs, dsEnterFailed_ds, decide_eq_false hst]
  rfl

theorem dsEnterSync_sessionSide (hs : s.calm) (hst : s.ds.state ≠ some .arbitrate) : (dsEnterSync s).sessionSide = s.sessionSide := by
  unfold State.sessionSide dsEnterSync
  rw [dsEnter_of_calm hs, decide_eq_false hst]
  rfl

/-- A change of island state but that to DARK leaves the session before a win, and the set that contends in it. -/
theorem dsIslandChange_sessionSide (hs : s.calm) (hdark : s.bsc.island ≠ some .dark) : (dsIslandChange s).sessionSide = s.sessionSide := by
  have hquiet : (dsQuietNeed s).sessionSide = s.sessionSide ∧ (dsQuietNeed s).bsc = s.bsc := by
    unfold dsQuietNeed
    split <;> exact ⟨rfl, rfl⟩
  have hchange : dsIslandChange s = (dsQuietNeed s).spoolJudged := by
    unfold dsIslandChange State.spoolJudged
    dsimp only
    rw [if_neg (show ¬ (if s.islandUp then s else { s with ds := { s.ds with needSince := none } }).bsc.island = some .dark from
      fun h => hdark ((congrArg Bsc.island hquiet.2).symm.trans h))]
    rfl
  obtain ⟨hside, hbsc⟩ := hquiet
  have hcalm : (dsQuietNeed s).calm := hs.of_permitSide (sessionSide_permit hside)
  rw [hchange, ← hside]
  generalize dsQuietNeed s = x at hbsc hcalm ⊢
  unfold State.spoolJudged
  split
  next hcond =>
    have hspool : x.ds.state = some .spool := by
      rw [Bool.and_eq_true] at hcond
      exact State.dieselIs_iff.1 hcond.1
    have hst : x.ds.state ≠ some .arbitrate := by rw [hspool]; nofun
    unfold dsJudgeSpool
    split
    · split
      · exact dsEnterSync_sessionSide hcalm hst
      · exact dsEnterSync_sessionSide hcalm hst
      next hisland => exact absurd (hbsc ▸ hisland) hdark
      · rfl
    · exact dsEnterFailed_sessionSide hcalm hst
  · rfl

theorem bscHoldLive_of_calm (hs : s.calm) : bscHoldLive s = s := by
  unfold bscHoldLive
  exact if_neg (by simp [hs.1])

theorem bscEnterLive_sessionSide (hs : s.calm) : (bscEnterLive s).sessionSide = s.sessionSide := by
  have hchange := dsIslandChange_sessionSide (s := (clearPreDark (s.cancel .recover)).setIsland .live) hs nofun
  rw [bscEnterLive, bscHoldLive_of_calm (hs.of_permitSide (sessionSide_permit hchange))]
  exact hchange

theorem bscLook_sessionSide (hs : s.calm) : (bscLook s).sessionSide = s.sessionSide := by
  unfold bscLook
  split
  · exact bscEnterLive_sessionSide hs
  · rfl

/-- What the ladder does leaves the session before a win. -/
theorem sessionSide_keeps (hs : s.calm) : LadderKeeps fun u => u.sessionSide = s.sessionSide where
  ladder _ h := h
  breaker hsame h := by
    obtain ⟨-, -, tac, rfl, htac⟩ := hsame
    rw [htac]
    exact h
  entered _ _ _ _ h := h
  looked h := (bscLook_sessionSide (hs.of_permitSide (sessionSide_permit h))).trans h

theorem scIslandChange_sessionSide (hdark : s.bsc.island ≠ some .dark) :
    (scIslandChange s).sessionSide = s.sessionSide ∧ (scIslandChange s).bsc = s.bsc := by
  unfold scIslandChange
  split
  · unfold scZero
    split <;> exact ⟨rfl, rfl⟩
  next h => exact absurd h hdark
  · exact ⟨rfl, rfl⟩

theorem laterIslandReaders_sessionSide (hs : s.calm) (hdark : s.bsc.island ≠ some .dark) :
    (dsIslandChange (scIslandChange s)).sessionSide = s.sessionSide := by
  obtain ⟨hside, hbsc⟩ := scIslandChange_sessionSide hdark
  exact (dsIslandChange_sessionSide (hs.of_permitSide (sessionSide_permit hside)) (by rwa [hbsc])).trans hside

theorem bscEnterDeadWait_sessionSide (hs : s.calm) (o : Origin) : (bscEnterDeadWait o s).sessionSide = s.sessionSide := by
  have hu : bscEnterDeadWait o s = dsIslandChange (scIslandChange (flIslandChange (State.setIsland
      { (s.cancel .recover).start .dead (ms s.par.black.deadTime) with
        bsc := { ((s.cancel .recover).start .dead (ms s.par.black.deadTime)).bsc with origin := o } } .deadWait))) := rfl
  rw [hu, flIslandChange_of_deadWait (by exact rfl)]
  exact (laterIslandReaders_sessionSide (by exact hs) (by nofun)).trans rfl

theorem bscEnterRecover_sessionSide (hs : s.calm) : (bscEnterRecover s).sessionSide = s.sessionSide := by
  have hreport : reportIsland ((s.start .recover (minutes s.par.restore.recoverTimeout)).setIsland .recover) =
      dsIslandChange (scIslandChange (flAbandonSwap ((s.start .recover (minutes s.par.restore.recoverTimeout)).setIsland .recover))) :=
    congrArg (fun x => dsIslandChange (scIslandChange x)) (flIslandChange_of_recover rfl)
  have hside : (reportIsland ((s.start .recover (minutes s.par.restore.recoverTimeout)).setIsland .recover)).sessionSide =
      s.sessionSide := by
    rw [hreport]
    exact (laterIslandReaders_sessionSide (by exact hs) (by nofun)).trans rfl
  unfold bscEnterRecover
  dsimp only
  have hcalm := hs.of_permitSide (sessionSide_permit hside)
  rw [bscHoldLive_of_calm hcalm, bscLook_sessionSide hcalm, hside]

/-- An island that follows a bus condition leaves the session before a win. -/
theorem bscFollow_sessionSide (hs : s.calm) (c : Condition) : (bscFollow c s).sessionSide = s.sessionSide := by
  unfold bscFollow
  split
  · exact bscEnterDeadWait_sessionSide hs .live
  · dsimp only
    split
    · exact bscEnterLive_sessionSide (by exact hs)
    · exact bscEnterRecover_sessionSide (by exact hs)
  · exact bscEnterRecover_sessionSide hs
  · exact bscEnterDeadWait_sessionSide hs .recover
  · rfl
end

section
variable {s u v w x : State} {c : Condition} {r : CycleRecord} {t : Tick}

theorem permitSide_of_source (h : s.SameButBreaker .source v) : v.permitSide = s.permitSide := by
  obtain ⟨-, -, tac, rfl, htac⟩ := h
  unfold State.permitSide
  rw [htac]
  rfl

theorem dsForcedStop_permit (hs : s.calm) : (dsForcedStop s).permitSide = s.permitSide := by
  unfold dsForcedStop dsEnterStopIntent
  rw [dsEnter_of_calm (by exact hs)]
  obtain ⟨link, -, hopen⟩ := openIntent_eq .stop (State.cancel { s with
    ds := Ds.enter { s.ds with forcedStop := true } .stopIntent } .stop)
  exact (congrArg State.permitSide hopen).trans rfl

theorem dsConfirmed_permit (hs : s.calm) (hst : s.ds.state = some .closing) (hdead : s.ds.deadBusClose = false) :
    (dsConfirmed s).permitSide = s.permitSide := by
  obtain ⟨x, b, hx, -, hconfirmed⟩ := dsConfirmed_of_closing hst
  have hx := hx hdead
  subst hx
  rw [hconfirmed]
  split
  · exact (dsForcedStop_permit (by exact hs)).trans rfl
  · rfl

theorem dsCloseFromSync_permit (hs : s.calm) : (dsCloseFromSync s).permitSide = s.permitSide := by
  unfold dsCloseFromSync
  split
  next _ confirmed v hv =>
    have hv := permitSide_of_source (sameButBreaker_of_requestClose hv)
    have hcalm : v.calm := hs.of_permitSide hv
    unfold dsEnterClosing
    dsimp only
    rw [dsEnter_of_calm (by exact hcalm)]
    split
    · exact (dsConfirmed_permit (by exact hcalm) rfl rfl).trans hv
    · exact hv
  next v _ hv => exact (permitSide_of_source (sameButBreaker_of_requestClose hv) :)

/-- A record that leaves the set contending leaves the session before a win. -/
theorem dsRecord_permit (hs : s.calm) (hsource : s.ds.state = some .arbitrate → r.srcCondition ≠ .dead) :
    (dsRecord r s).permitSide = s.permitSide := by
  unfold dsRecord
  dsimp only
  split
  · split
    · exact dsEnterFailed_permit hs
    · rfl
  · split
    · exact dsEnterFailed_permit hs
    · unfold dsJudgeSync
      split
      · dsimp only
        split
        · exact dsCloseFromSync_permit (by exact hs)
        · rfl
      · rfl
  next harbitrate => rw [if_neg (by simpa using hsource harbitrate)]
  · split
    · have htrip := permitSide_of_source (sameButBreaker_dsTrip false s)
      have hcalm := hs.of_permitSide htrip
      have hfailed := (dsEnterFailed_permit hcalm).trans htrip
      unfold dsClosingFailed bscCloseFailed
      dsimp only
      split
      · rw [if_neg (hs.of_permitSide hfailed).2, hfailed]
      · exact hfailed
    · rfl
  · rfl

/-- A set that does not spool is left by what follows a live bus. -/
theorem bscFollow_live_ds (hspool : s.ds.state ≠ some .spool) : (bscFollow .live s).ds = s.ds := by
  have hhold (x : State) : (bscHoldLive x).ds = x.ds := by
    unfold bscHoldLive
    split <;> rfl
  have hlive (x : State) (hx : x.ds.state ≠ some .spool) : (bscEnterLive x).ds = x.ds := by
    rw [bscEnterLive, hhold, dsIslandChange_of_up (by rfl) (by exact hx)]
    rfl
  have hlook (x : State) (hx : x.ds.state ≠ some .spool) : (bscLook x).ds = x.ds := offPorts_ds (bscLook_offPorts hx)
  have hrecover (x : State) (hx : x.ds.state ≠ some .spool) : (bscEnterRecover x).ds = x.ds := by
    have hreport : (reportIsland ((x.start .recover (minutes x.par.restore.recoverTimeout)).setIsland .recover)).ds = x.ds := by
      unfold reportIsland
      rw [flIslandChange_of_recover rfl]
      exact (congrArg State.ds (dsIslandChange_of_up (s := scIslandChange (flAbandonSwap
        ((x.start .recover (minutes x.par.restore.recoverTimeout)).setIsland .recover))) rfl hx)).trans rfl
    unfold bscEnterRecover
    dsimp only
    rw [hlook _ (by rw [hhold, hreport]; exact hx), hhold, hreport]
  unfold bscFollow
  split
  · next h => cases h
  · dsimp only
    split
    · exact hlive (s.cancel .dead) hspool
    · exact hrecover (s.cancel .dead) hspool
  · exact hrecover s hspool
  · next h => cases h
  · rfl

/-- A set that has just gone on to SYNC has at most one good cycle after the record (R108, R110). -/
theorem dsRecord_of_syncEntered (hst : s.ds.state = some .sync) (hgood : s.ds.good = 0) (hsource : r.srcCondition ≠ .dead)
    (hrun : s.level .runFb ≠ .released) (hcount : 2 ≤ s.par.diesel.syncCount) :
    (dsRecord r s).ds.state = some .sync ∧ (dsRecord r s).ds.good ≤ 1 ∧ (dsRecord r s).ds.timers = s.ds.timers := by
  have hjudged : dsRecord r s = dsJudgeSync r s := by
    simp only [dsRecord, hst]
    rw [if_neg (by simp [hsource, State.released, hrun])]
  rw [hjudged]
  unfold dsJudgeSync
  split
  · dsimp only
    rw [if_neg (by rw [hgood]; exact fun h : s.par.diesel.syncCount ≤ 0 + 1 => by omega)]
    exact ⟨hst, by dsimp only; omega, rfl⟩
  · exact ⟨hst, Nat.zero_le 1, rfl⟩

theorem bscBusLive_of_contending (h : s.contending = true) : bscBusLive .live s = dsLostOrLive (sessionEnd s) :=
  if_pos (by simp [h])

/-- The session ends, and the set that contends goes on to SYNC (R172). -/
theorem dsLostOrLive_ends (s : State) : let u := dsLostOrLive (sessionEnd s)
    u.permitSide = (s.bsc.session.ended, false, false, false) ∧ u.ds.state ≠ some .arbitrate ∧
    (s.ds.state = some .arbitrate → u.ds = { s.ds.enter .sync with
      good := 0, timers := { s.ds.timers with sync := .running s.tb (s.par.diesel.syncTimeout * 10000000) } }) := by
  dsimp only
  unfold dsLostOrLive
  by_cases hst : s.ds.state = some .arbitrate
  · have hended := dsLostOrLive_sessionEnd hst
    unfold dsLostOrLive at hended
    rw [hended]
    exact ⟨rfl, nofun, fun _ => rfl⟩
  · rw [if_neg (mt State.dieselIs_iff.1 (by exact hst))]
    exact ⟨rfl, hst, fun h => absurd h hst⟩

/-- Settles O45, the arbitration session at a record. -/
theorem record_session {i : Instr} (hc : s.closesCycle i t) (hreconstructed : s.bsc.reconstructed = true) :
    let x := s.bsc.session
    x.phase = .waiting ∨ x.phase = .start ∨ x.phase = .bits → ∃ u r, exec i s = .next u ∧ u.mu.latest = some r ∧
      (r.busCondition = .live →
        u.bsc.session = { x with
          phase := .idle, stuckFlag := false, slot := .stopped, guard := .stopped, stuck := .stopped, hold := .stopped
          liveWait := .stopped } ∧
        u.tac.permitPull = false ∧ u.tac.permitEdges = false ∧ u.tac.alarm.permitStuck = false ∧
        (s.ds.state = some .arbitrate → r.srcCondition ≠ .dead → s.level .runFb ≠ .released → 2 ≤ s.par.diesel.syncCount →
          u.ds.state = some .sync ∧ u.ds.good ≤ 1 ∧ u.ds.timers.sync = .running t (s.par.diesel.syncTimeout * 10000000))) ∧
      (r.busCondition ≠ .live → s.ds.state ≠ some .arbitrate ∨ r.srcCondition ≠ .dead →
        u.bsc.session = x ∧ u.tac.permitPull = s.tac.permitPull) := by
  intro x hphase
  obtain ⟨m, hi, r, hr, hexec⟩ := exec_closes hc
  have hcalm : s.calm := by
    obtain h | h | h := hphase <;> exact ⟨by rw [State.permitPhase, h]; nofun, by rw [State.permitPhase, h]; nofun⟩
  have hkept : (flRecord r.f (s.atRecord t m hi)).kept = (s.atRecord t m hi).kept := flRecord_kept _ _
  have hside : (flRecord r.f (s.atRecord t m hi)).sessionSide = s.sessionSide :=
    flRecord_keeps (sessionSide_keeps (s := s) hcalm) (s := s.atRecord t m hi) rfl
  have hrec : (flRecord r.f (s.atRecord t m hi)).bsc.reconstructed = true := flRecord_keeps reconstructed_keeps hreconstructed
  have hds (hst : s.ds.state = some .arbitrate) : (flRecord r.f (s.atRecord t m hi)).ds = s.ds :=
    (offPorts_ds (flRecord_keeps (offPorts_keeps (s₀ := s.atRecord t m hi)
      (by rw [show (s.atRecord t m hi).ds.state = some .arbitrate from hst]; nofun)) (s := s.atRecord t m hi) rfl) :)
  generalize flRecord r.f (s.atRecord t m hi) = w at hexec hkept hside hrec hds
  have hwside : w.permitSide = s.permitSide := sessionSide_permit hside
  have hwcalm : w.calm := hcalm.of_permitSide hwside
  have hwpar : w.par = s.par := by
    rw [State.par, kept_cr hkept]
    rfl
  have hrecord : bscRecord r.busCondition w = bscFollow r.busCondition (bscBusLive r.busCondition w) := if_pos hrec
  refine ⟨_, r, hexec, ?_, fun hbus => ?_, fun hbus hsource => ?_⟩
  · rw [kept_mu ((dsRecord_kept _ _).trans (bscRecord_kept _ _)), kept_mu hkept]
    exact hr
  · have hcontend : w.contending = true := by
      have hwphase : w.permitPhase = x.phase := permitSide_phase hwside
      unfold State.contending
      rw [hwphase]
      obtain h | h | h := hphase <;> rw [h] <;> rfl
    have hzkept : (bscBusLive .live w).kept = w.kept := offIsland_kept (State.offIsland_of_offSet (bscBusLive_offSet .live w))
    obtain ⟨hended, hst, hsync⟩ := dsLostOrLive_ends w
    rw [hrecord, hbus]
    rw [← bscBusLive_of_contending hcontend] at hended hst hsync
    generalize bscBusLive .live w = z at hzkept hended hst hsync ⊢
    have hzcalm : z.calm := by
      have hzphase : z.permitPhase = .idle := congrArg (fun y => y.1.phase) hended
      exact ⟨by rw [hzphase]; nofun, by rw [hzphase]; nofun⟩
    have hfollow := bscFollow_sessionSide hzcalm .live
    have hypermit : (dsRecord r (bscFollow .live z)).permitSide = (w.bsc.session.ended, false, false, false) :=
      (dsRecord_permit (hzcalm.of_permitSide (sessionSide_permit hfollow))
        fun h => absurd ((sessionSide_arbitrate hfollow).1 h) hst).trans ((sessionSide_permit hfollow).trans hended)
    have hwsession : w.bsc.session = x := congrArg Prod.fst hwside
    rw [hwsession] at hypermit
    refine ⟨congrArg Prod.fst hypermit, congrArg (fun y => y.2.1) hypermit, congrArg (fun y => y.2.2.1) hypermit,
      congrArg (fun y => y.2.2.2) hypermit, fun harbitrate hsource hrun hcount => ?_⟩
    have hwds := hds harbitrate
    have hzds := hsync (by rw [hwds]; exact harbitrate)
    have hzspool : z.ds.state ≠ some .spool := by rw [hzds]; nofun
    have hyds := bscFollow_live_ds hzspool
    have hykept : (bscFollow .live z).kept = (s.atRecord t m hi).kept := ((bscFollow_kept _ _).trans hzkept).trans hkept
    have hyrun : (bscFollow .live z).level .runFb ≠ .released := by
      rw [State.level_eq (kept_inputs hykept)]
      exact hrun
    have hypar : (bscFollow .live z).par = s.par := by
      rw [State.par, kept_cr hykept]
      rfl
    have hytimer : (bscFollow .live z).ds.timers.sync = .running t (s.par.diesel.syncTimeout * 10000000) := by
      rw [hyds, hzds, kept_tb hkept, hwpar]
      rfl
    obtain ⟨hstate, hgood, htimers⟩ := dsRecord_of_syncEntered (by rw [hyds, hzds]; rfl) (by rw [hyds, hzds]) hsource hyrun
      (by rw [hypar]; exact hcount)
    exact ⟨hstate, hgood, by rw [htimers, hytimer]⟩
  · have hlive : bscBusLive r.busCondition w = w := if_neg (by simp [hbus])
    have hfollow := bscFollow_sessionSide hwcalm r.busCondition
    have hall := (sessionSide_permit hfollow).trans hwside
    have hrecorded := dsRecord_permit (r := r) (hcalm.of_permitSide hall) fun h => hsource.resolve_left
      (not_not.2 ((sessionSide_arbitrate (hfollow.trans hside)).1 h))
    rw [hrecord, hlive]
    exact ⟨congrArg Prod.fst (hrecorded.trans hall), congrArg (fun y => y.2.1) (hrecorded.trans hall)⟩

/-- Settles O45: the island state and the session at each record, and the first island state at the fourth. -/
theorem islandFollowsBus : Obligations.IslandFollowsBus :=
  ⟨fun _ _ _ hc hreconstructed hblack => record_followed hc hreconstructed hblack, fun _ _ _ hc hreconstructed =>
    record_session hc hreconstructed, fun _ _ _ hc hreconstructed hisland => record_reconstructs hc hreconstructed hisland⟩
end

end Sys2Proof.Machine
end

section
/-! SUPPORT. Reads at the maintenance port. -/

namespace Sys2Proof.Machine

/-! ### A request at its close (R184 to R186) -/

section

variable {s : State} (t : Tick)

theorem mpRequest_free (hfree : s.mp.response = none) (hheard : s.mp.discarding = false) (r : Request) :
    mpRequest t r s = mpJudge r (s.stamp t) := by
  obtain ⟨hd, -⟩ | ⟨-, -, hjudge⟩ | ⟨-, hbusy, -⟩ | ⟨-, hbusy, -⟩ := mpRequest_cases t r s
  · simp [hheard] at hd
  · exact hjudge
  · exact absurd hfree hbusy
  · exact absurd hfree hbusy

variable (hrun : s.phase = .running)
include hrun

/-- A request that leaves the state is answered on the free port with its payload. -/
theorem exec_answered {c : Instr} {r : Request} {result : Result} {payload : List Byte} (hfree : s.mp.response = none)
    (hheard : s.mp.discarding = false) (hc : exec c s = whileRunning (mpRequest t r) s)
    (h : answer r (s.stamp t) = ⟨result, payload, s.stamp t⟩) :
    exec c s = .next { s with tb := t, mp := { s.mp with response := some (responseChars r.code result payload) } } := by
  rw [hc, whileRunning_runs _ (by simp [State.runs, hrun]), mpRequest_free t hfree hheard, mpJudge, h]
  rfl

/-- While a response is being sent a request waits, and one that began or closes while the buffer is occupied is discarded (R185). -/
theorem exec_request_waits {c : Instr} {r : Request} (hc : exec c s = whileRunning (mpRequest t r) s) :
    (s.mp.discarding = true → exec c s = .next { s with tb := t, mp := { s.mp with discarding := false } }) ∧
    (s.mp.discarding = false → s.mp.response ≠ none →
      (s.mp.waiting = none → exec c s = .next { s with tb := t, mp := { s.mp with waiting := some r } }) ∧
      (s.mp.waiting ≠ none → exec c s = .next { s with tb := t })) := by
  rw [hc, whileRunning_runs _ (by simp [State.runs, hrun])]
  obtain ⟨hd, h⟩ | ⟨hd, hfree, -⟩ | ⟨hd, -, hwait, h⟩ | ⟨hd, -, hwait, h⟩ := mpRequest_cases t r s
  · exact ⟨fun _ => by rw [h], fun hn => by simp [hd] at hn⟩
  · exact ⟨fun hn => by simp [hd] at hn, fun _ hbusy => absurd hfree hbusy⟩
  · exact ⟨fun hn => by simp [hd] at hn, fun _ _ => ⟨fun _ => by rw [h], fun hn => absurd hwait hn⟩⟩
  · exact ⟨fun hn => by simp [hd] at hn, fun _ _ => ⟨fun hn => absurd hn hwait, fun _ => by rw [h]⟩⟩

end

/-- Each command of the port is the close of its request. -/
theorem exec_request (t : Tick) (a sector offset length code : Byte) (data : List Byte) (s : State) {c : Instr} {r : Request}
    (h : (c, r) ∈ [(Instr.readStation t, Request.readStation), (.readPeer t a, .readPeer a), (.readFigures t, .readFigures),
      (.readPorts t, .readPorts), (.readConfig t sector offset length, .readConfig sector offset length), (.commit t, .commit),
      (.clearLockout t, .clearLockout), (.restart t, .restart), (.malformedRequest t code, .malformed code),
      (.requestGapTimeout t code, .malformed code), (.writeConfig t offset length data, writeRequest offset length data)]) :
    exec c s = whileRunning (mpRequest t r) s := by
  simp only [List.mem_cons, List.not_mem_nil, or_false, Prod.mk.injEq] at h
  obtain ⟨rfl, rfl⟩ | ⟨rfl, rfl⟩ | ⟨rfl, rfl⟩ | ⟨rfl, rfl⟩ | ⟨rfl, rfl⟩ | ⟨rfl, rfl⟩ | ⟨rfl, rfl⟩ | ⟨rfl, rfl⟩ | ⟨rfl, rfl⟩ |
    ⟨rfl, rfl⟩ | ⟨rfl, rfl⟩ := h <;> rfl

/-- A WRITE-CONFIG is the request that its length and data spell (log 17). -/
theorem writeRequest_eq (offset length : Byte) (data : List Byte) : writeRequest offset length data =
    if data.length = length.toNat ∧ length.toNat ≤ 38 then .writeConfig offset length data else .malformed 6 :=
  if_congr (writePayloadFits_iff length data) rfl rfl

/-! ### READ-CONFIG (R186) -/

theorem sectorBytes_none {s : State} {n : Nat} (h : 2 < n) : s.sectorBytes n = none := by
  match n, h with
  | n + 3, _ => rfl

theorem configBytes_outside {s : State} {sector offset length : Nat}
    (h : 2 < sector ∨ length = 0 ∨ 64 < length ∨ sectorSize sector < offset + length) :
    configBytes s sector offset length = none := by
  unfold configBytes
  split
  · rename_i hin
    simp only [Bool.and_eq_true, decide_eq_true_eq] at hin
    rw [sectorBytes_none (by omega), Option.map_none]
  · rfl

theorem configBytes_inside {s : State} {sector offset length : Nat} {bytes : List Byte} (hsector : s.sectorBytes sector = some bytes)
    (hlow : 1 ≤ length) (hhigh : length ≤ 64) (hsize : offset + length ≤ sectorSize sector) :
    configBytes s sector offset length = some ((bytes.drop offset).take length) := by
  unfold configBytes
  rw [if_pos (by simp [hlow, hhigh, hsize]), hsector, Option.map_some]

/-- Settles O48: each command is the close of its request, which the free port answers and the busy one keeps or drops. -/
theorem readsAreAnswered : Obligations.ReadsAreAnswered := by
  unfold Obligations.ReadsAreAnswered
  intro t a sector offset length code data s hrun n message answered bytes size
  have hrequest {c : Instr} {r : Request} := exec_request t a sector offset length code data s (c := c) (r := r)
  have hsize : sectorSize sector.toNat = size := by
    unfold sectorSize
    by_cases h : sector = 2
    · rw [show size = 26 from if_pos h, h]
      rfl
    · rw [show size = 256 from if_neg h]
      split
      · rename_i hnum
        exact absurd (BitVec.eq_of_toNat_eq hnum) h
      · rfl
  have hzero : length.toNat = 0 ↔ length = 0 := (BitVec.toNat_eq (x := length) (y := 0)).symm
  refine ⟨fun hfree hheard => ?_, fun c r hcr => exec_request_waits t hrun (hrequest ?_)⟩
  · have hanswered {c : Instr} {r : Request} {result : Result} {payload : List Byte}
        (hc : exec c s = whileRunning (mpRequest t r) s) (h : answer r n = ⟨result, payload, n⟩) :
        answered c r.code result.code payload := exec_answered t hrun hfree hheard hc h
    refine ⟨hanswered (r := .readStation) (result := .done) rfl rfl, hanswered (r := .readFigures) (result := .done) rfl rfl,
      hanswered (r := .readPorts) (result := .done) rfl rfl, fun hbad => ?_, fun h0 h32 hown => ⟨fun hentry => ?_, fun e hentry => ?_⟩,
      fun hbad => ?_, fun hsector h0 h64 hend => ?_, hanswered (r := .malformed code) (result := .badRequest) rfl rfl,
      hanswered (r := .malformed code) (result := .badRequest) rfl rfl, fun hbad => ?_⟩
    · exact hanswered (r := .readPeer a) (result := .badRange) rfl (if_pos hbad)
    · exact hanswered (r := .readPeer a) (result := .done) rfl ((if_neg (by
        rintro (h | h | h)
        · exact h0 h
        · omega
        · exact hown h)).trans (by rw [show peerPayload n a.toNat = [0] by simp [peerPayload, n, hentry]]))
    · exact hanswered (r := .readPeer a) (result := .done) rfl ((if_neg (by
        rintro (h | h | h)
        · exact h0 h
        · omega
        · exact hown h)).trans (by
          rw [show peerPayload n a.toNat = 1 :: entryBytes t e by simp [peerPayload, n, hentry]]))
    · refine hanswered (r := .readConfig sector offset length) (result := .badRange) rfl ?_
      rw [answer, configBytes_outside (by rw [hzero, hsize]; exact hbad)]
      rfl
    · have hbytes : n.sectorBytes sector.toNat = some (bytes sector.toNat) := by
        generalize sector.toNat = k at hsector
        interval_cases k <;> rfl
      refine hanswered (r := .readConfig sector offset length) (result := .done) rfl ?_
      rw [answer, configBytes_inside hbytes (by rw [Nat.one_le_iff_ne_zero, ne_eq, hzero]; exact h0) h64 (by rw [hsize]; exact hend)]
    · refine hanswered (r := .malformed 6) (result := .badRequest) ?_ rfl
      rw [← (writeRequest_eq offset length data).trans (if_neg hbad)]
      rfl
  · rw [writeRequest_eq]
    exact hcr

end Sys2Proof.Machine
end

section
/-! SUPPORT. Requests at the maintenance port. -/

namespace Sys2Proof.Machine

/-! ### What the judgement of a request does with the flag of a request to be discarded (R185) -/

/-- The flag of a request coming in that will be discarded. -/
def State.discards (b : Bool) (s : State) : State := { s with mp := { s.mp with discarding := b } }

theorem ite_eq_map {α : Type} (f : α → α) {c : Prop} [Decidable c] {x y x' y' : α} (hx : x' = f x) (hy : y' = f y) :
    (if c then x' else y') = f (if c then x else y) := by
  rw [hx, hy, apply_ite f]

section

variable (b : Bool) (s : State)

theorem dsEnter_discards (st : DieselState) : dsEnter st (s.discards b) = (dsEnter st s).discards b :=
  congrArg (fun x : State => { x with ds := x.ds.enter st })
    (ite_eq_map (c := (s.dieselIs .online && st != .online && s.permitPhase == .hold) = true) (y := s) _ (x := sessionEnd s) rfl rfl)

theorem dsEnterOff_discards : dsEnterOff (s.discards b) = (dsEnterOff s).discards b :=
  congrArg (setBias 0) (dsEnter_discards b s .off)

theorem dsEnterSpool_discards : dsEnterSpool (s.discards b) = (dsEnterSpool s).discards b :=
  congrArg (fun x : State => (setBias 0 x).start .spool (sec s.par.diesel.spoolTime)) (dsEnter_discards b s .spool)

theorem requestCrank_discards (w : Nat) : (s.discards b).requestCrank w = (s.requestCrank w).discards b :=
  ite_eq_map _ rfl rfl

theorem dsEnterCrank_discards : dsEnterCrank (s.discards b) = (dsEnterCrank s).discards b := by
  unfold dsEnterCrank
  rw [dsEnter_discards]
  let v := (setBias 0 (dsEnter .crank s)).writeRun true
  exact ite_eq_map _ (dsEnterSpool_discards b v)
    (requestCrank_discards b { v with ds := { v.ds with crankCount := v.ds.crankCount + 1 } } (v.par.diesel.crankTime * 1000))

theorem dsStartAtDark_discards : dsStartAtDark (s.discards b) = (dsStartAtDark s).discards b :=
  dsEnterCrank_discards b { s.cancel .holdoff with ds := { (s.cancel .holdoff).ds with crankCount := 0 } }

theorem dsEnterStandby_discards : dsEnterStandby (s.discards b) = (dsEnterStandby s).discards b := by
  unfold dsEnterStandby
  rw [dsEnter_discards]
  exact ite_eq_map _ (dsStartAtDark_discards b (setBias 0 (dsEnter .standby s))) rfl

theorem dsClearLockout_discards : dsClearLockout (s.discards b) = (dsClearLockout s).discards b := by
  let u := (s.setAlarm .dieselFailed false).writeLockout false
  let v : State := { u with ds := { u.ds with inhibitSeen := false } }
  exact ite_eq_map _ (dsEnterOff_discards b v) (dsEnterStandby_discards b v)

/-- An answer with the flag set in the state it leaves. -/
def Answer.discards (b : Bool) (a : Answer) : Answer := { a with state := a.state.discards b }

/-- No judgement reads the flag or sets it. -/
theorem answer_discards (r : Request) : answer r (s.discards b) = (answer r s).discards b := by
  cases r
  case readPeer a => exact ite_eq_map _ rfl rfl
  case readConfig sector offset length =>
    dsimp only [answer]
    rw [show configBytes (s.discards b) = configBytes s from rfl]
    cases configBytes s sector.toNat offset.toNat length.toNat <;> rfl
  case writeConfig offset length data => exact ite_eq_map _ rfl (ite_eq_map _ rfl (ite_eq_map _ rfl rfl))
  case commit => exact ite_eq_map _ rfl (ite_eq_map _ rfl (ite_eq_map _ rfl rfl))
  case clearLockout =>
    exact ite_eq_map _ rfl (ite_eq_map _ (congrArg (Answer.of .done) (dsClearLockout_discards b s)) rfl)
  case restart => exact ite_eq_map _ rfl rfl
  all_goals rfl

theorem mpJudge_discards (r : Request) : mpJudge r (s.discards b) = (mpJudge r s).discards b := by
  unfold mpJudge
  rw [answer_discards]
  rfl

end

/-! ### Requests read from their characters (R184, R185) -/

section

variable {noise : List LinkChar} (hnoise : ∀ x ∈ noise, x.byte = 0xA3 → x.framing = true)
include hnoise

theorem not_begins_of_noise : ∀ x ∈ noise, (!beginsRequest x) = true := by
  intro x hx
  simpa [beginsRequest, imp_iff_not_or] using hnoise x hx

theorem readRequest_noise : readRequest noise = none := by
  unfold readRequest
  rw [List.dropWhile_eq_nil_iff.2 (not_begins_of_noise hnoise)]

/-- The characters after 0xA3 that bear no framing error, up to the first that does, are what a request is read from. -/
theorem readRequest_bytes (bytes : List Byte) (tail : List LinkChar) (l : List LinkChar)
    (hl : l = cleanBurst bytes ++ tail) :
    readRequest (noise ++ ⟨0xA3, false⟩ :: l) =
      let bytes := bytes ++ (tail.takeWhile (!·.framing)).map (·.byte)
      let code := bytes.getD 0 0
      let size := (bytes.getD 1 0).toNat
      let body := bytes.take (size + 2)
      if bytes.length < size + 4 then some (.malformed code, l.drop (bytes.length + 1))
      else if crcBytes body = (bytes.drop (size + 2)).take 2 then some (requestOf code (body.drop 2), l.drop (size + 4))
      else some (.malformed code, l.drop (size + 4)) := by
  have hclean : ((cleanBurst bytes ++ tail).takeWhile (!·.framing)).map (·.byte) =
      bytes ++ (tail.takeWhile (!·.framing)).map (·.byte) := by
    rw [List.takeWhile_append_of_pos (by simp [cleanBurst])]
    simp [cleanBurst, Function.comp_def]
  unfold readRequest
  rw [List.dropWhile_append_of_pos (not_begins_of_noise hnoise), List.dropWhile_cons_of_neg (by simp [beginsRequest])]
  subst hl
  rw [← hclean]

/-- A request whose payload its length tells and its code names is read back (R184). -/
theorem readRequest_whole {r : Request} (rest : List LinkChar) (hsize : r.payload.length < 256)
    (hr : requestOf r.code r.payload = r) : readRequest (noise ++ cleanBurst (requestChars r) ++ rest) = some (r, rest) := by
  set body := r.code :: byte r.payload.length :: r.payload with hbody
  have hnum : (byte r.payload.length).toNat = r.payload.length := by
    rw [byte, BitVec.toNat_ofNat, Nat.mod_eq_of_lt hsize]
  have hlength : body.length = r.payload.length + 2 := rfl
  have hchars : noise ++ cleanBurst (requestChars r) ++ rest =
      noise ++ ⟨0xA3, false⟩ :: (cleanBurst (body ++ crcBytes body) ++ rest) := by
    rw [List.append_assoc]
    rfl
  rw [hchars, readRequest_bytes hnoise _ _ _ rfl]
  generalize (rest.takeWhile (!·.framing)).map (·.byte) = after
  have hcode : (body ++ crcBytes body ++ after).getD 0 0 = r.code := rfl
  have htold : (body ++ crcBytes body ++ after).getD 1 0 = byte r.payload.length := rfl
  have htake : (body ++ crcBytes body ++ after).take (r.payload.length + 2) = body := by
    rw [List.append_assoc, List.take_left' hlength]
  have hcrc : ((body ++ crcBytes body ++ after).drop (r.payload.length + 2)).take 2 = crcBytes body := by
    rw [List.append_assoc, List.drop_left' hlength, List.take_left' (crcBytes_length _)]
  have hrest : (cleanBurst (body ++ crcBytes body) ++ rest).drop (r.payload.length + 4) = rest :=
    List.drop_left' (by simp [cleanBurst, hlength])
  dsimp only
  rw [hcode, htold, hnum, htake, hcrc, hrest, if_neg (by simp only [List.length_append, hlength, crcBytes_length]; omega),
    if_pos rfl]
  exact congrArg (fun x => some (x, rest)) hr

end

/-- A request that ends early is malformed, with its code where that came (R184, R185). -/
theorem readRequest_cut {r : Request} {tail : List LinkChar} (htail : tail.takeWhile (!·.framing) = []) {n : Nat} (hn : 1 ≤ n)
    (hcut : n < (requestChars r).length) (hsize : r.payload.length < 256) :
    readRequest (cleanBurst ((requestChars r).take n) ++ tail) = some (.malformed (if n = 1 then 0 else r.code), tail.drop 1) := by
  obtain ⟨n, rfl⟩ : ∃ m, n = m + 1 := ⟨n - 1, by omega⟩
  have hnum : (byte r.payload.length).toNat = r.payload.length := by
    rw [byte, BitVec.toNat_ofNat, Nat.mod_eq_of_lt hsize]
  let body := r.code :: byte r.payload.length :: r.payload
  have hlength : (body ++ crcBytes body).length = r.payload.length + 4 := by
    rw [List.length_append, crcBytes_length]
    rfl
  have hshort : n < r.payload.length + 4 := hlength ▸ Nat.lt_of_succ_lt_succ hcut
  have htook : ((body ++ crcBytes body).take n).length = n := List.length_take_of_le (by omega)
  have hcode : ((body ++ crcBytes body).take n).getD 0 0 = if n + 1 = 1 then 0 else r.code := by
    cases n <;> rfl
  have htold : n < (((body ++ crcBytes body).take n).getD 1 0).toNat + 4 := by
    match n with
    | 0 | 1 => exact Nat.le_add_left _ _
    | n + 2 =>
      rw [show ((body ++ crcBytes body).take (n + 2)).getD 1 0 = byte r.payload.length from rfl, hnum]
      exact hshort
  have hrest : (cleanBurst ((body ++ crcBytes body).take n) ++ tail).drop (n + 1) = tail.drop 1 := by
    rw [← List.drop_drop, List.drop_left' (by rw [cleanBurst, List.length_map, htook])]
  refine (readRequest_bytes (noise := []) nofun ((body ++ crcBytes body).take n) tail _ rfl).trans ?_
  rw [htail, List.map_nil, List.append_nil]
  dsimp only
  rw [htook, if_pos htold, hcode, hrest]

/-! ### The requests of the port (R184, R188) -/

/-- A WRITE-CONFIG whose length tells its data and is in R184's range. -/
def Request.fits (r : Request) : Prop := ∀ o l d, r = .writeConfig o l d → d.length = l.toNat ∧ l.toNat ≤ 38

theorem writeRequest_of_fits {o l : Byte} {d : List Byte} (h : (Request.writeConfig o l d).fits) :
    writeRequest o l d = .writeConfig o l d :=
  (writeRequest_eq o l d).trans (if_pos (h o l d rfl))

theorem requestOf_code {r : Request} (hr : ∀ code, r ≠ .malformed code) (h : r.fits) : requestOf r.code r.payload = r := by
  cases r
  case writeConfig o l d => exact writeRequest_of_fits h
  case malformed code => exact absurd rfl (hr code)
  all_goals rfl

theorem payload_length_lt {r : Request} (h : r.fits) : r.payload.length < 256 := by
  cases r
  case writeConfig o l d =>
    have := h o l d rfl
    simp only [Request.payload, List.length_cons]
    omega
  all_goals simp [Request.payload]

/-- Settles O50, requests read from their characters. -/
theorem requests_read_back (r : Request) (noise rest : List LinkChar) (hr : ∀ code, r ≠ .malformed code) (hfits : r.fits)
    (hnoise : ∀ x ∈ noise, x.byte = 0xA3 → x.framing = true) :
    readRequest (noise ++ cleanBurst (requestChars r) ++ rest) = some (r, rest) ∧ readRequest noise = none ∧
    ∀ n, 1 ≤ n → n < (requestChars r).length →
      let cut := cleanBurst ((requestChars r).take n)
      let broken : Request := .malformed (if n = 1 then 0 else r.code)
      readRequest cut = some (broken, []) ∧ ∀ x : LinkChar, x.framing = true → readRequest (cut ++ x :: rest) = some (broken, rest) := by
  have hsize := payload_length_lt hfits
  refine ⟨readRequest_whole hnoise rest hsize (requestOf_code hr hfits), readRequest_noise hnoise, fun n hn hcut => ⟨?_, fun x hx => ?_⟩⟩
  · have hend := readRequest_cut (tail := []) rfl hn hcut hsize
    rwa [List.append_nil] at hend
  · exact readRequest_cut (tail := x :: rest) (by simp [hx]) hn hcut hsize

section

variable {s : State} {t : Tick} (hrun : s.phase = .running)
include hrun

theorem exec_responseSent {more : Bool} (hbusy : s.mp.response ≠ none) :
    exec (.responseSent ⟨t, more⟩) s = .next (mpSent more (s.stamp t)) :=
  (whileRunning_runs _ (by simp [State.runs, hrun])).trans (congrArg _ (if_pos (Option.isSome_iff_ne_none.2 hbusy)))

/-- The end of a response frees the port, and the request that waits is judged as one that closes then (R185). -/
theorem responseSent_judges {more : Bool} {c : Instr} {r : Request} (hbusy : s.mp.response ≠ none)
    (hplain : s.mp.restartAfter = false) (hwaits : s.mp.waiting = some r) (hc : ∀ s, exec c s = whileRunning (mpRequest t r) s) :
    ∃ u, exec c { s with tb := t, mp := { s.mp with response := none, waiting := none, discarding := false } } = .next u ∧
      exec (.responseSent ⟨t, more⟩) s = .next { u with mp := { u.mp with discarding := more } } := by
  let v : State := { s with tb := t, mp := { s.mp with response := none, waiting := none, discarding := false } }
  have hjudged : mpSent more (s.stamp t) = mpJudge r (v.discards more) := by
    obtain ⟨hfree, -⟩ | ⟨-, hafter, -⟩ | ⟨-, -, hnone, -⟩ | ⟨x, -, -, hx, h⟩ := mpSent_cases more (s.stamp t)
    · exact absurd hfree hbusy
    · exact nomatch hplain.symm.trans hafter
    · exact nomatch hwaits.symm.trans hnone
    · cases hwaits.symm.trans hx
      exact h
  refine ⟨mpJudge r v, ?_, ?_⟩
  · rw [hc, whileRunning_runs _ (by simp [State.runs, hrun])]
    exact congrArg _ (mpRequest_free (s := v) t rfl rfl r)
  · rw [exec_responseSent hrun hbusy, hjudged, mpJudge_discards]
    rfl

/-- A station reset begins where a RESTART was answered (R188). -/
theorem responseSent_restarts {more : Bool} (hbusy : s.mp.response ≠ none) (hafter : s.mp.restartAfter = true) :
    ∃ u, exec (.responseSent ⟨t, more⟩) s = .next u ∧ u.phase = .heldByRestart ∧
      u.mp = .reset ∧ u.cr.mode = .startup ∧ u.ds = .reset ∧ u.fl = .reset ∧ u.address = s.address ∧ u.pending = s.pending ∧
      (s.ret.intact = true → u.ret = { s.ret with valid := true }) := by
  have hreset : mpSent more (s.stamp t) = stationReset .heldByRestart (s.stamp t) := by
    obtain ⟨hfree, -⟩ | ⟨-, -, h⟩ | ⟨-, hplain, -⟩ | ⟨x, -, hplain, -⟩ := mpSent_cases more (s.stamp t)
    · exact absurd hfree hbusy
    · exact h
    · exact nomatch hplain.symm.trans hafter
    · exact nomatch hplain.symm.trans hafter
  refine ⟨_, exec_responseSent hrun hbusy, ?_⟩
  rw [hreset]
  unfold stationReset resetAll
  have hspoilt : let w := if (s.stamp t).cr.commit = .running then (s.stamp t).spoilSector else s.stamp t
      w.address = s.address ∧ w.pending = s.pending ∧ w.ret = s.ret := by
    dsimp only
    split <;> exact ⟨rfl, rfl, rfl⟩
  obtain ⟨haddress, hpending, hret⟩ := hspoilt
  refine ⟨rfl, rfl, rfl, rfl, rfl, haddress, hpending, fun hintact => ?_⟩
  dsimp only
  rw [hret, retentionAfter, if_pos hintact]
  simp

variable (hfree : s.mp.response = none) (hheard : s.mp.discarding = false)
include hfree hheard

/-- CLEAR-LOCKOUT takes a set that is FAILED with its breaker open out of the lockout (R119, R188). -/
theorem clearLockout_clears (hgenset : s.par.station.role = .genset) (hst : s.ds.state = some .failed)
    (hopen : s.level .srcCb = .released) (hdark : s.bsc.island ≠ some .dark) :
    ∃ u, exec (.clearLockout t) s = .next u ∧
      u.ds.state = some (if s.level .inhibit = .asserted then .off else .standby) ∧ u.ret.lockout = false ∧
      u.tac.alarm.dieselFailed = false ∧ u.ds.inhibitSeen = false ∧
      u.mp = { s.mp with response := some (plainResponse 8 0) } ∧
      (∀ c, u.pulse c = s.pulse c) ∧ u.fl = s.fl ∧ u.cr = s.cr ∧ u.mu = s.mu := by
  have hanswer : answer .clearLockout (s.stamp t) = .of .done (dsClearLockout (s.stamp t)) :=
    (if_neg (by rintro (h | h); exacts [h hgenset, h hst])).trans (if_pos (beq_iff_eq.2 hopen))
  refine ⟨_, whileRunning_mpRequest_plain t hrun hfree hheard (r := .clearLockout) hanswer, ?_⟩
  have hnot : (s.stamp t).ds.state ≠ some .online := fun h => nomatch hst.symm.trans h
  by_cases hinhibit : s.level .inhibit = .asserted
  · rw [if_pos hinhibit, dsClearLockout, if_pos (by exact beq_iff_eq.2 hinhibit), dsEnterOff_eq (by exact hnot)]
    exact ⟨rfl, rfl, rfl, rfl, rfl, fun c => by cases c <;> rfl, rfl, rfl, rfl⟩
  · rw [if_neg hinhibit, dsClearLockout_eq hnot hinhibit (.inr hdark)]
    exact ⟨rfl, rfl, rfl, rfl, rfl, fun c => by cases c <;> rfl, rfl, rfl, rfl⟩

end

/-- Settles O50: the tables of CLEAR-LOCKOUT and RESTART, the end of a response by what waits, and the requests read back. -/
theorem lockoutAndRestartAreJudged : Obligations.LockoutAndRestartAreJudged := by
  refine ⟨?_, fun r noise rest hr hfits hnoise => requests_read_back r noise rest hr hfits hnoise⟩
  intro t more s hrun message answered genset
  refine ⟨fun hfree hheard => ⟨fun hnot => ?_, fun hgenset hst hclosed => ?_, fun hgenset hst hopen hdark =>
      clearLockout_clears hrun hfree hheard hgenset hst hopen hdark, fun hcommit => ?_, fun hcommit => ?_⟩,
    fun hfree => ?_, fun hbusy hplain hnone => ?_, ?_, fun hbusy hafter => responseSent_restarts hrun hbusy hafter⟩
  · exact whileRunning_mpRequest_plain t hrun hfree hheard (r := .clearLockout) (if_pos hnot)
  · have hbusy : answer .clearLockout (s.stamp t) = .of .busy (s.stamp t) :=
      (if_neg (by rintro (h | h); exacts [h hgenset, h hst])).trans (if_neg (mt beq_iff_eq.1 hclosed))
    exact whileRunning_mpRequest_plain t hrun hfree hheard (r := .clearLockout) hbusy
  · exact whileRunning_mpRequest_plain t hrun hfree hheard (r := .restart) (if_pos hcommit)
  · exact whileRunning_mpRequest_plain t hrun hfree hheard (r := .restart) (if_neg hcommit)
  · exact (whileRunning_runs _ (by simp [State.runs, hrun])).trans (congrArg _ (if_neg (by simp [hfree])))
  · rw [exec_responseSent hrun hbusy]
    obtain ⟨hfree, -⟩ | ⟨-, hafter, -⟩ | ⟨-, -, -, h⟩ | ⟨x, -, -, hx, -⟩ := mpSent_cases more (s.stamp t)
    · exact absurd hfree hbusy
    · exact nomatch hplain.symm.trans hafter
    · rw [h]
      rfl
    · exact nomatch hnone.symm.trans hx
  · intro a sector offset length code data c r hcr hfits hbusy hplain hwaits
    refine responseSent_judges hrun hbusy hplain hwaits fun x => exec_request t a sector offset length code data x ?_
    have hwrite (hr : r = .writeConfig offset length data) : r = writeRequest offset length data := by
      subst hr
      exact (writeRequest_of_fits hfits).symm
    simp only [List.mem_cons, List.not_mem_nil, or_false, Prod.mk.injEq] at hcr ⊢
    grind

end Sys2Proof.Machine
end

section
/-! SUPPORT. The configuration sector, the integrity check and the commit. -/

namespace Sys2Proof.Machine

/-! ### The station put in FAULT (R179) -/

section
variable {s : State}

theorem crSetMode_freeCount (m : Mode) (s : State) : (crSetMode m s).freeCount = s.freeCount := by
  obtain ⟨-, h⟩ | ⟨-, h⟩ := crSetMode_cases m s <;> rw [h]
  have hcount := kept_freeCount (modeJobs_kept s.cr.mode (s.inMode m))
  generalize flModeChange s.cr.mode (scModeChange s.cr.mode (dsModeChange s.cr.mode (bscModeChange s.cr.mode (s.inMode m)))) = v at hcount
  obtain ⟨x, hx, -⟩ := ilcFollow_eq v
  rw [hx]
  refine hcount.trans ?_
  rw [s.inMode_eq m]

/-- An entry to FAULT is shown, and a solar cap goes to 0 (R34, R132). -/
theorem crSetMode_fault (hmode : s.cr.mode ≠ .fault) : (crSetMode .fault s).tac.alarm.modeFault = true ∧
    (s.sc.state.isSome = true → (crSetMode .fault s).sc.finalCap = 0) := by
  obtain ⟨h, -⟩ | ⟨-, h⟩ := crSetMode_cases .fault s
  · exact absurd h hmode
  have hmodeFault : (s.inMode .fault).heldLines.1 = true ∧ (s.inMode .fault).cr.mode = .fault ∧ (s.inMode .fault).sc = s.sc := by
    rw [s.inMode_eq]
    exact ⟨rfl, rfl, rfl⟩
  rw [h]
  generalize s.inMode .fault = v at hmodeFault
  obtain ⟨hshown, hfault, hsc⟩ := hmodeFault
  have hcauses : (flModeChange s.cr.mode (scModeChange s.cr.mode (dsModeChange s.cr.mode (bscModeChange s.cr.mode v)))).heldLines =
      v.heldLines := (modeJobs_acts (Z := .full True) s.cr.mode trivial trivial (.refl v)).heldLines
  have hjobs : Acts .unlit v (dsModeChange s.cr.mode (bscModeChange s.cr.mode v)) :=
    dsModeChange_acts _ (bscModeChange_acts _ (.refl _))
  have hjobsc := hjobs.sc_eq id
  have hjobmode := hjobs.mode_eq
  generalize dsModeChange s.cr.mode (bscModeChange s.cr.mode v) = w at hcauses hjobsc hjobmode
  have hladder : (flModeChange s.cr.mode (scModeChange s.cr.mode w)).sc = (scModeChange s.cr.mode w).sc :=
    (congrArg State.sc (flModeChange_offLadder s.cr.mode (scModeChange s.cr.mode w)) :)
  generalize flModeChange s.cr.mode (scModeChange s.cr.mode w) = x at hcauses hladder
  obtain ⟨y, hy, -⟩ := ilcFollow_eq x
  rw [hy]
  refine ⟨(congrArg Prod.fst hcauses).trans hshown, fun hsolar => ?_⟩
  dsimp only
  rw [hladder, scModeChange, if_pos (hjobmode.trans hfault), scZero, if_pos (by rw [hjobsc, hsc]; exact hsolar)]
  rfl

/-! ### The sectors (R175, R178, R180) -/

theorem recordCrcOk_iff (l : List Byte) : recordCrcOk l = true ↔ l.length = 256 ∧ crcBytes (l.take 254) = l.drop 254 := by
  simp [recordCrcOk]

theorem recordCrcOk_of_valid {l : List Byte} (h : recordValid l = true) : recordCrcOk l = true :=
  (Bool.and_eq_true_iff.1 h).1

/-- What an erase or a program cut short leaves fails its CRC (log 8). -/
theorem brokenSector_crc (n : Nat) : crcBytes ((brokenSector n).take 254) ≠ (brokenSector n).drop 254 := by
  unfold brokenSector
  dsimp only
  have hoff : (if Config.brokenSectorCrc n = 0 then 1 else Config.brokenSectorCrc n) ≠ 0 := by
    split
    · decide
    · assumption
  generalize (if Config.brokenSectorCrc n = 0 then 1 else Config.brokenSectorCrc n) = off at hoff
  have hlength : ((List.range 254).map (Config.brokenSectorByte n)).length = 254 := by simp
  generalize (List.range 254).map (Config.brokenSectorByte n) = body at hlength
  rw [List.take_left' hlength, List.drop_left' hlength, ne_eq, crcBytes_eq_iff _ (bytesBE_length 2 _)]
  have hlt := (crc16 body ^^^ off).isLt
  intro heq
  have hsame : crc16 body = crc16 body ^^^ off := BitVec.eq_of_toNat_eq (by
    rw [heq, bytesBE_two]
    simp only [byteAt, byte, List.getD_cons_zero, List.getD_cons_succ, BitVec.toNat_ofNat]
    omega)
  exact hoff (by simpa [← BitVec.xor_assoc] using (congrArg (crc16 body ^^^ ·) hsame).symm)

theorem brokenSector_not_valid (n : Nat) : recordValid (brokenSector n) = false :=
  Bool.eq_false_iff.2 fun h => brokenSector_crc n ((recordCrcOk_iff _).1 (recordCrcOk_of_valid h)).2

theorem crReload_of_valid (h : recordValid s.cr.sector = true) : crReload s = { s with cr := { s.cr with
    reloadDue := false, working := some (clampRecord s.cr.sector), workingCrc := crc16 ((clampRecord s.cr.sector).take 254)
    clamped := s.cr.clamped || clampRecord s.cr.sector != s.cr.sector } } := if_pos h

theorem crReload_of_not_valid (h : recordValid s.cr.sector = false) :
    crReload s = crSetMode .fault { s with cr := { s.cr with reloadDue := false } } := if_neg (Bool.eq_false_iff.1 h)

/-- The integrity check by the CRC of the copy and by the commit (R178). -/
theorem crIntegrity_eq {upset : List (Fin 256 × Byte)} {w copy : List Byte} (hw : s.cr.working = some w) (hcopy : disturb w upset = copy) :
    crIntegrity upset s = if crc16 (copy.take 254) = s.cr.workingCrc then { s with cr := { s.cr with working := some copy } }
      else if s.cr.commit = .running then { s with cr := { s.cr with working := some copy, reloadDue := true } }
      else crReload { s with cr := { s.cr with working := some copy } } := by
  unfold crIntegrity
  rw [hw, ← hcopy]

end

/-! ### The integrity check (R178) -/

section
variable {s : State} {t : Tick}

/-- Settles O47, the integrity check. -/
theorem integrity_checked {upset : List (Fin 256 × Byte)} {w : List Byte} (hw : s.cr.working = some w) (hdue : s.due .integrity t) :
    let copy := upset.foldl (fun l c => l.set c.1.val c.2) w
    let again : Timer := .running t 100000000
    (crc16 (copy.take 254) = s.cr.workingCrc → exec (.integrityTimerExpiry upset) s =
      .next { s with tb := t, cr := { s.cr with integrity := again, working := some copy } }) ∧
    (crc16 (copy.take 254) ≠ s.cr.workingCrc → s.cr.commit = .running → exec (.integrityTimerExpiry upset) s =
      .next { s with tb := t, cr := { s.cr with integrity := again, working := some copy, reloadDue := true } }) ∧
    (crc16 (copy.take 254) ≠ s.cr.workingCrc → s.cr.commit ≠ .running → recordValid s.cr.sector = true →
      exec (.integrityTimerExpiry upset) s = .next { s with
        tb := t
        cr := { s.cr with
          integrity := again, reloadDue := false, working := some (clampRecord s.cr.sector)
          workingCrc := crc16 ((clampRecord s.cr.sector).take 254)
          clamped := s.cr.clamped || clampRecord s.cr.sector != s.cr.sector } }) ∧
    (crc16 (copy.take 254) ≠ s.cr.workingCrc → s.cr.commit ≠ .running → recordValid s.cr.sector = false →
      ∃ u, exec (.integrityTimerExpiry upset) s = .next u ∧ u.cr.mode = .fault ∧ u.cr.params = s.cr.params ∧
        (s.cr.mode ≠ .fault → u.tac.alarm.modeFault = true ∧ (s.sc.state.isSome = true → u.sc.finalCap = 0)) ∧ u.mu = s.mu ∧
        u.be = s.be) := by
  intro copy again
  have hcopy : disturb w upset = copy := rfl
  clear_value copy
  have hexec : exec (.integrityTimerExpiry upset) s =
      .next (crIntegrity upset ((s.stamp t).putTimer .integrity (.running t (sec 10)))) :=
    onExpiry_due (id := .integrity) _ hdue.1 hdue.2
  have hstarted : (s.stamp t).putTimer .integrity (.running t (sec 10)) = { s with tb := t, cr := { s.cr with integrity := again } } := rfl
  rw [hexec, hstarted, crIntegrity_eq (by exact hw) hcopy]
  dsimp only
  refine ⟨fun hgood => by rw [if_pos hgood], fun hbad hrun => by rw [if_neg hbad, if_pos hrun], fun hbad hrun hvalid => ?_,
    fun hbad hrun hinvalid => ?_⟩
  · rw [if_neg hbad, if_neg hrun, crReload_of_valid (by exact hvalid)]
  · rw [if_neg hbad, if_neg hrun, crReload_of_not_valid (by exact hinvalid)]
    dsimp only
    have hfault : ∃ v : State, v = { s with
        tb := t, cr := { s.cr with integrity := again, working := some copy, reloadDue := false } } := ⟨_, rfl⟩
    obtain ⟨v, hv⟩ := hfault
    rw [← hv]
    have hside := crSetMode_offMode .fault v
    refine ⟨_, rfl, by rw [crSetMode_cr], by rw [crSetMode_cr, hv], fun hmode => ?_, ?_, ?_⟩
    · obtain ⟨hshown, hcap⟩ := crSetMode_fault (s := v) (by rw [hv]; exact hmode)
      exact ⟨hshown, fun hsolar => hcap (by rw [hv]; exact hsolar)⟩
    · exact (offMode_mu hside).trans (by rw [hv])
    · exact (offMode_be hside).trans (by rw [hv])

/-! ### The end of a commit (R178, R180) -/

theorem crReloadIfDue_of_due (h : s.cr.reloadDue = true) : crReloadIfDue s = crReload s := if_pos h

theorem crReloadIfDue_of_not_due (h : s.cr.reloadDue = false) : crReloadIfDue s = s := if_neg (Bool.eq_false_iff.1 h)

theorem brokenSector_not_ok (n : Nat) :
    ¬ ((brokenSector n).length = 256 ∧ crcBytes ((brokenSector n).take 254) = (brokenSector n).drop 254) :=
  fun h => brokenSector_crc n h.2

/-- The sector that a commit leaves: the staging buffer, or one whose program was cut short (R180). -/
def State.sectorAfter (programmed : Bool) (s : State) : List Byte := if programmed then s.mp.staging else brokenSector s.freeCount

/-- A commit ended, before a reload that was put off to it is taken (R180). -/
def State.committed (programmed : Bool) (s : State) : State := { s with
  freeCount := if programmed then s.freeCount else s.freeCount + 1
  cr := { s.cr with
    sector := s.sectorAfter programmed
    commit := if (s.sectorAfter programmed).length = 256 ∧
      crcBytes ((s.sectorAfter programmed).take 254) = (s.sectorAfter programmed).drop 254 then .completed else .failed } }

theorem crCommitEnd_eq (programmed : Bool) (s : State) : crCommitEnd programmed s = crReloadIfDue (s.committed programmed) := by
  unfold crCommitEnd State.committed State.sectorAfter
  simp only [← recordCrcOk_iff]
  cases programmed <;> rfl

theorem exec_commitComplete (programmed : Bool) (hrun : s.phase = .running) (hcommit : s.cr.commit = .running) :
    exec (.commitComplete t programmed) s = .next (crReloadIfDue ((s.stamp t).committed programmed)) := by
  rw [← crCommitEnd_eq]
  exact (whileRunning_runs _ (by simp [State.runs, hrun])).trans (congrArg _ (if_pos hcommit))

/-- Settles O47, the end of a commit with no reload put off to it. -/
theorem commit_ends (hrun : s.phase = .running) (hcommit : s.cr.commit = .running) (hdue : s.cr.reloadDue = false) :
    exec (.commitComplete t true) s = .next { s with
      tb := t, cr := { s.cr with
        sector := s.mp.staging
        commit := if s.mp.staging.length = 256 ∧ crcBytes (s.mp.staging.take 254) = s.mp.staging.drop 254 then .completed
          else .failed } } ∧
    ∃ sector, sector.length = 256 ∧ crcBytes (sector.take 254) ≠ sector.drop 254 ∧
      exec (.commitComplete t false) s = .next { s with
        tb := t, freeCount := s.freeCount + 1, cr := { s.cr with sector, commit := .failed } } := by
  have hstands (programmed : Bool) : crReloadIfDue ((s.stamp t).committed programmed) = (s.stamp t).committed programmed :=
    crReloadIfDue_of_not_due (by exact hdue)
  refine ⟨?_, brokenSector s.freeCount, brokenSector_length _, brokenSector_crc _, ?_⟩ <;>
    rw [exec_commitComplete _ hrun hcommit, hstands]
  · rfl
  · have hfailed : ((s.stamp t).committed false).cr.commit = .failed := if_neg (brokenSector_not_ok s.freeCount)
    exact congrArg (fun x => Host.Outcome.next { s with
      tb := t, freeCount := s.freeCount + 1, cr := { s.cr with sector := brokenSector s.freeCount, commit := x } }) hfailed

/-- Settles O47, the end of a commit with a reload put off to it. -/
theorem commit_reloads (hrun : s.phase = .running) (hcommit : s.cr.commit = .running) (hdue : s.cr.reloadDue = true)
    (programmed : Bool) :
    (recordValid s.mp.staging = true → exec (.commitComplete t true) s = .next { s with
      tb := t
      cr := { s.cr with
        sector := s.mp.staging, commit := .completed, reloadDue := false, working := some (clampRecord s.mp.staging)
        workingCrc := crc16 ((clampRecord s.mp.staging).take 254)
        clamped := s.cr.clamped || clampRecord s.mp.staging != s.mp.staging } }) ∧
    (programmed = false ∨ recordValid s.mp.staging = false → ∃ u, exec (.commitComplete t programmed) s = .next u ∧
      u.cr = { s.cr with mode := .fault, sector := u.cr.sector, commit := u.cr.commit, reloadDue := false } ∧
      (programmed = true → u.cr.sector = s.mp.staging) ∧
      (programmed = false → u.cr.sector.length = 256 ∧ crcBytes (u.cr.sector.take 254) ≠ u.cr.sector.drop 254) ∧
      u.cr.commit = (if u.cr.sector.length = 256 ∧ crcBytes (u.cr.sector.take 254) = u.cr.sector.drop 254 then .completed
        else .failed) ∧
      (s.cr.mode ≠ .fault → u.tac.alarm.modeFault = true) ∧ u.mu = s.mu ∧ u.be = s.be ∧ u.mp = s.mp ∧ u.tb = t) := by
  have hreloads (programmed : Bool) : crReloadIfDue ((s.stamp t).committed programmed) = crReload ((s.stamp t).committed programmed) :=
    crReloadIfDue_of_due (by exact hdue)
  refine ⟨fun hvalid => ?_, fun hbad => ?_⟩ <;> rw [exec_commitComplete _ hrun hcommit, hreloads]
  · have hcompleted : ((s.stamp t).committed true).cr.commit = .completed := if_pos ((recordCrcOk_iff _).1 (recordCrcOk_of_valid hvalid))
    rw [crReload_of_valid (by exact hvalid)]
    exact congrArg (fun x => Host.Outcome.next { s with
      tb := t
      cr := { s.cr with
        sector := s.mp.staging, commit := x, reloadDue := false, working := some (clampRecord s.mp.staging)
        workingCrc := crc16 ((clampRecord s.mp.staging).take 254)
        clamped := s.cr.clamped || clampRecord s.mp.staging != s.mp.staging } }) hcompleted
  · have hinvalid : recordValid ((s.stamp t).committed programmed).cr.sector = false := by
      cases programmed with
      | false => exact brokenSector_not_valid s.freeCount
      | true => exact hbad.resolve_left nofun
    have hfault : ∃ v : State, v = { (s.stamp t).committed programmed with
        cr := { ((s.stamp t).committed programmed).cr with reloadDue := false } } := ⟨_, rfl⟩
    obtain ⟨v, hv⟩ := hfault
    rw [crReload_of_not_valid hinvalid, ← hv]
    have hside := crSetMode_offMode .fault v
    have hcr := crSetMode_cr .fault v
    refine ⟨_, rfl, by rw [hcr, hv]; rfl, fun hprog => ?_, fun hprog => ?_, by rw [hcr, hv]; rfl, fun hmode => ?_,
      (offMode_mu hside).trans (by rw [hv]; rfl), (offMode_be hside).trans (by rw [hv]; rfl), (offMode_mp hside).trans (by rw [hv]; rfl),
      (offMode_tb hside).trans (by rw [hv]; rfl)⟩
    · rw [hcr, hv, hprog]
      rfl
    · rw [hcr, hv, hprog]
      exact ⟨brokenSector_length _, brokenSector_crc _⟩
    · exact (crSetMode_fault (s := v) (by rw [hv]; exact hmode)).1

/-! ### A commit abandoned by the release of SERVICE (R180, log 27) -/

/-- A commit abandoned, before a reload that was put off to it is taken (R180). -/
def State.abandoned (s : State) : State := { s with
  freeCount := s.freeCount + 1, cr := { s.cr with sector := brokenSector s.freeCount, commit := .failed } }

/-- What the release of SERVICE leaves of the configuration after a commit in progress. -/
theorem crServiceReleased_abandons (hcommit : s.cr.commit = .running) : let u := crServiceReleased s
    u.cr = { s.cr with mode := u.cr.mode, sector := brokenSector s.freeCount, commit := .failed, reloadDue := false } ∧
    u.freeCount = s.freeCount + 1 ∧ (s.cr.reloadDue = true → u.cr.mode = .fault) ∧
    (s.cr.reloadDue = false → u.cr.mode = if s.cr.mode = .service then s.pv.calledMode else s.cr.mode) := by
  have habandon : crAbandonCommit s = crReloadIfDue s.abandoned := if_pos hcommit
  have hu : crServiceReleased s = if (crReloadIfDue s.abandoned).cr.mode = .service then
      crSetMode (crReloadIfDue s.abandoned).pv.calledMode (crReloadIfDue s.abandoned) else crReloadIfDue s.abandoned := by
    rw [← habandon]
    rfl
  rw [hu]
  by_cases hdue : s.cr.reloadDue = true
  · have hfault : crReloadIfDue s.abandoned = crSetMode .fault { s.abandoned with cr := { s.abandoned.cr with reloadDue := false } } :=
      (crReloadIfDue_of_due (by exact hdue)).trans (crReload_of_not_valid (brokenSector_not_valid s.freeCount))
    have hcr := congrArg State.cr hfault
    rw [crSetMode_cr] at hcr
    rw [if_neg (by rw [hcr]; nofun)]
    refine ⟨by rw [hcr]; rfl, by rw [hfault, crSetMode_freeCount]; rfl, fun _ => by rw [hcr], fun h => nomatch hdue.symm.trans h⟩
  · have hstands := Bool.eq_false_iff.2 hdue
    rw [crReloadIfDue_of_not_due (s := s.abandoned) hstands]
    by_cases hmode : s.cr.mode = .service
    · rw [if_pos (by exact hmode)]
      dsimp only
      rw [crSetMode_cr, crSetMode_freeCount]
      exact ⟨by rw [← hstands]; rfl, rfl, fun h => absurd h hdue, fun _ => (if_pos hmode).symm⟩
    · rw [if_neg (by exact hmode)]
      exact ⟨by rw [← hstands]; rfl, rfl, fun h => absurd h hdue, fun _ => (if_neg hmode).symm⟩

/-- Settles O47, the release of SERVICE during a commit. -/
theorem commit_abandoned (h : s.qualifies .service false) (hcommit : s.cr.commit = .running) :
    ∃ u, exec (.inputQualified .service) s = .next u ∧
      u.cr = { s.cr with mode := u.cr.mode, sector := u.cr.sector, commit := .failed, reloadDue := false } ∧
      u.cr.sector.length = 256 ∧ crcBytes (u.cr.sector.take 254) ≠ u.cr.sector.drop 254 ∧ u.freeCount = s.freeCount + 1 ∧
      (s.cr.reloadDue = true → u.cr.mode = .fault) ∧
      (s.cr.reloadDue = false → u.cr.mode =
        if s.cr.mode = .service then
          (if s.pv.conflict = true ∨ (∀ e ∈ s.pv.table, e.fresh = false) then .autonomous else .coordinated)
        else s.cr.mode) ∧
      u.mu = s.mu ∧ u.be = s.be ∧ u.pv = s.pv ∧ u.mp = s.mp ∧ u.tb = s.tb := by
  have hexec : exec (.inputQualified .service) s = .next (crServiceReleased (s.qualify .service false)) := exec_inputQualified h
  obtain ⟨hcr, hcount, hdue, hplain⟩ := crServiceReleased_abandons (s := s.qualify .service false) hcommit
  have hside := crServiceReleased_offMode (s.qualify .service false)
  rw [← Pv.calledMode_eq]
  generalize crServiceReleased (s.qualify .service false) = u at *
  have hsector : u.cr.sector = brokenSector (s.qualify .service false).freeCount := congrArg Cr.sector hcr
  rw [← hsector] at hcr
  refine ⟨u, hexec, hcr, ?_, ?_, hcount, hdue, hplain, (offMode_mu hside :), (offMode_be hside :), (offMode_pv hside :),
    (offMode_mp hside :), (offMode_tb hside :)⟩ <;> rw [hsector]
  · exact brokenSector_length _
  · exact brokenSector_crc _

/-- Settles O47: the integrity check, a commit's end with and without a reload put off to it, and its abandonment. -/
theorem sectorAndCopyAreChecked : Obligations.SectorAndCopyAreChecked :=
  fun _ _ programmed _ => ⟨fun _ hw hdue => integrity_checked hw hdue, commit_ends,
    fun hrun hcommit hdue => commit_reloads hrun hcommit hdue programmed,
    fun hrun hcommit => (whileRunning_runs _ (by simp [State.runs, hrun])).trans (congrArg _ (if_neg hcommit)), commit_abandoned⟩

end

end Sys2Proof.Machine
end

section
/-! SUPPORT. The start-up load. -/

namespace Sys2Proof.Machine

section
variable {s : State}

/-! ### The first state of the set (R182) -/

theorem dsEnter_run (st : DieselState) (s : State) : (dsEnter st s).ret = s.ret := by
  obtain ⟨x, pull, edges, stuck, -, h⟩ := dsEnter_session st s
  rw [h]
  rfl

theorem dsEnterStandby_of_down (h : s.bsc.island = some .deadWait) : dsEnterStandby s = setBias 0 (dsEnter .standby s) := by
  have hisland : (dsEnter .standby s).bsc.island = some .deadWait := (offSet_island (dsEnter_offSet s .standby)).trans h
  exact if_neg (by
    change ¬ (decide ((dsEnter .standby s).bsc.island = some .dark) && _) = true
    simp [hisland])

/-- The set at rest, as INHIBIT gives it. -/
theorem dsRest_leaves (h : s.bsc.island = some .deadWait) : (dsRest s).ds.state = some (if s.level .inhibit = .asserted then .off else .standby) ∧
    (dsRest s).ret.run = false ∧ (dsRest s).setSide = s.setSide := by
  have hoff := setSide_of_offSet (dsEnterOff_offSet (s.writeRun false))
  have hstandby := setSide_of_offSet (dsEnterStandby_offSet (s.writeRun false))
  have hstands := dsEnterStandby_of_down (s := s.writeRun false) h
  by_cases hinhibit : s.level .inhibit = .asserted
  · have hrest : dsRest s = dsEnterOff (s.writeRun false) := if_pos (beq_iff_eq.2 hinhibit)
    rw [hrest, if_pos hinhibit]
    exact ⟨congrArg Ds.state (dsEnter_ds .off (s.writeRun false)), congrArg Retention.run (dsEnter_run .off (s.writeRun false)), hoff⟩
  · have hrest : dsRest s = dsEnterStandby (s.writeRun false) := if_neg (mt beq_iff_eq.1 hinhibit)
    rw [hrest, if_neg hinhibit]
    refine ⟨?_, ?_, hstandby⟩ <;> rw [hstands]
    · exact congrArg Ds.state (dsEnter_ds .standby (s.writeRun false))
    · exact congrArg Retention.run (dsEnter_run .standby (s.writeRun false))

/-- The set found online, as INHIBIT and the mode give it. -/
theorem dsFoundOnline_leaves (s : State) : (dsFoundOnline s).ds.bias = s.ds.bias ∧
    (dsFoundOnline s).ds.state = some (if s.level .inhibit = .asserted ∧ s.operating = true then .stopIntent else .online) ∧
    (dsFoundOnline s).setSide = s.setSide := by
  obtain ⟨x, pull, edges, stuck, -, henter⟩ := dsEnter_session .online s
  have honline : (dsEnter .online s).setSide = s.setSide := setSide_of_offSet (dsEnter_offSet s .online)
  have hds := dsEnter_ds .online s
  by_cases hstop : s.level .inhibit = .asserted ∧ s.operating = true
  · have hfound : dsFoundOnline s = dsForcedStop (dsEnter .online s) := if_pos (by
      rw [henter]
      exact Bool.and_eq_true_iff.2 ⟨beq_iff_eq.2 hstop.1, hstop.2⟩)
    rw [hfound, if_pos hstop]
    obtain ⟨y, pull', edges', stuck', link, -, hforced⟩ := dsForcedStop_eq (dsEnter .online s)
    refine ⟨?_, ?_, (dsForcedStop_setSide _).trans honline⟩ <;> rw [hforced]
    · exact (congrArg Ds.bias hds :)
    · rfl
  · have hfound : dsFoundOnline s = dsEnter .online s := if_neg (by
      rw [henter]
      exact fun h => hstop ⟨beq_iff_eq.1 (Bool.and_eq_true_iff.1 h).1, (Bool.and_eq_true_iff.1 h).2⟩)
    rw [hfound, if_neg hstop]
    exact ⟨(congrArg Ds.bias hds :), congrArg Ds.state hds, honline⟩

/-- A set found running with its breaker open. -/
theorem dsFoundRunning_leaves (h : s.bsc.island = some .deadWait) : (dsFoundRunning s).ds.state =
      some (if s.level .inhibit = .asserted then .off else if s.operating = true then .sync else .standby) ∧
    (dsFoundRunning s).setSide = s.setSide := by
  obtain ⟨hrest, -, hside⟩ := dsRest_leaves h
  by_cases hinhibit : s.level .inhibit = .asserted
  · have hfound : dsFoundRunning s = dsRest s := if_neg (by simp [State.asserted, hinhibit])
    rw [hfound, if_pos hinhibit]
    exact ⟨by rw [hrest, if_pos hinhibit], hside⟩
  · by_cases hop : s.operating = true
    · have hfound : dsFoundRunning s = dsEnterSync s := if_pos (by simp [State.asserted, hinhibit, hop])
      rw [hfound, if_neg hinhibit, if_pos hop]
      exact ⟨congrArg Ds.state (dsEnter_ds .sync s), setSide_of_offSet (dsEnterSync_offSet s)⟩
    · have hfound : dsFoundRunning s = dsRest s := if_neg (by simp [hop])
      rw [hfound, if_neg hinhibit, if_neg hop]
      exact ⟨by rw [hrest, if_neg hinhibit], hside⟩

/-- A source breaker found closed without a running set. -/
theorem dsFoundClosed_leaves (s : State) :
    (dsFoundClosed s).ds.state = some (if s.level .inhibit = .asserted then .off else .failed) ∧
    (s.level .inhibit ≠ .asserted → ((dsFoundClosed s).pulse .srcTrip).isActive = true) ∧ (dsFoundClosed s).ret.run = false ∧
    (dsFoundClosed s).setSide = s.setSide := by
  by_cases hinhibit : s.level .inhibit = .asserted
  · have hfound : dsFoundClosed s = dsEnterOff (s.writeRun false) := if_pos (beq_iff_eq.2 hinhibit)
    rw [hfound, if_pos hinhibit]
    exact ⟨congrArg Ds.state (dsEnter_ds .off (s.writeRun false)), fun h => absurd hinhibit h,
      congrArg Retention.run (dsEnter_run .off (s.writeRun false)), setSide_of_offSet (dsEnterOff_offSet (s.writeRun false))⟩
  · have hfound : dsFoundClosed s = dsEnterFailed (dsTrip true s).2 := if_neg (mt beq_iff_eq.1 hinhibit)
    obtain ⟨htrip, -⟩ := dsTrip_pulses true s
    have hoff := dsEnterFailed_offSet (dsTrip true s).2
    have hside := setSide_of_source (sameButBreaker_dsTrip true s)
    rw [hfound, if_neg hinhibit]
    generalize (dsTrip true s).2 = v at *
    refine ⟨by rw [dsEnterFailed_ds]; rfl, fun _ => ?_, ?_, (setSide_of_offSet hoff).trans hside⟩
    · exact (congrArg (fun x : State => (x.pulse .srcTrip).isActive) hoff :).trans htrip
    · obtain ⟨-, -, -, -, hrun⟩ := dsEnterFailed_lines v
      exact hrun

end

section
variable {s u : State} {p : Port}

/-! ### The first states of the ports (R182) -/

/-- A port found in a state with its cause, and with its LOCAL line. -/
structure State.Found (u : State) (p : Port) (first : PortState × Option ShedCause) (localHeld : Bool) : Prop where
  port : ∃ r, u.port p = some r ∧ r.destination = none ∧ r.load = 0 ∧ r.localHeld = localHeld ∧ (r.state, r.shedCause) = first
  retained : u.ret.ports.get p = some first

theorem flReconstructPort_of_not_configured (h : s.configured p = false) : flReconstructPort s p = s :=
  if_neg (Bool.eq_false_iff.1 h)

/-- One configured port reconstructed: it is found, and nothing beside its record and the ladder changes. -/
theorem flReconstructPort_found (h : s.configured p = true) (hisland : s.bsc.island ≠ some .recover) :
    let u := flReconstructPort s p
    u.Found p (s.reconstructedPort p) (s.asserted (.feederLocal p)) ∧ u.offLadder = s.offLadder ∧
      ∀ q, q ≠ p → u.port q = s.port q ∧ u.ret.ports.get q = s.ret.ports.get q := by
  let v : State := { s with fl := { s.fl with ports := s.fl.ports.set p (some (.fresh s.tb (s.asserted (.feederLocal p)))) } }
  have hport : v.port p = some (.fresh s.tb (s.asserted (.feederLocal p))) := Quad.get_set_same ..
  have hother {q : Port} (hq : q ≠ p) : v.port q = s.port q := Quad.get_set_other _ _ hq
  have hu : flReconstructPort s p = flEnter p (s.reconstructedPort p).1 none (s.reconstructedPort p).2 v := if_pos h
  have hsame := flEnter_port_same p (s.reconstructedPort p).1 none (s.reconstructedPort p).2 v
  dsimp only
  rw [hu]
  refine ⟨⟨?_, flEnter_retained ..⟩, ?_, fun q hq => ⟨(flEnter_port_other hq ..).trans (hother hq), flEnter_retained_other hq ..⟩⟩
  · rw [hsame, hport]
    exact ⟨_, rfl, rfl, rfl, rfl, rfl⟩
  · rw [flEnter_eq, bscLook_of_not_recover (by exact hisland)]
    rfl

/-- The ports of a list reconstructed, one after another. -/
theorem flReconstruct_fold {l : List Port} (hl : l.Nodup) (hisland : s.bsc.island ≠ some .recover) :
    let u := l.foldl flReconstructPort s
    u.offLadder = s.offLadder ∧
      (∀ q, q ∉ l ∨ s.configured q = false → u.port q = s.port q ∧ u.ret.ports.get q = s.ret.ports.get q) ∧
      ∀ q, q ∈ l → s.configured q = true → u.Found q (s.reconstructedPort q) (s.asserted (.feederLocal q)) := by
  induction l generalizing s with
  | nil => exact ⟨rfl, fun _ _ => ⟨rfl, rfl⟩, nofun⟩
  | cons p l ih =>
    obtain ⟨hp, hl⟩ := List.nodup_cons.1 hl
    obtain hconf | hconf := Bool.eq_false_or_eq_true (s.configured p)
    · obtain ⟨hfound, hoff, hother⟩ := flReconstructPort_found hconf hisland
      dsimp only [List.foldl_cons]
      generalize flReconstructPort s p = v at *
      have hconfigured (q : Port) : v.configured q = s.configured q := by
        have := congrArg (fun x : State => x.configured q) hoff
        exact this
      have hlevel (q : Port) : v.asserted (.feederLocal q) = s.asserted (.feederLocal q) ∧
          v.asserted (.feederCb q) = s.asserted (.feederCb q) := by
        have := congrArg (fun x : State => (x.asserted (.feederLocal q), x.asserted (.feederCb q))) hoff
        exact Prod.mk.inj this
      have hvisland : v.bsc.island ≠ some .recover := by
        rw [show v.bsc.island = s.bsc.island from (congrArg (fun x : State => x.bsc.island) hoff :)]
        exact hisland
      obtain ⟨hoff', hout, hin⟩ := ih hl hvisland
      refine ⟨hoff'.trans hoff, fun q hq => ?_, fun q hq hc => ?_⟩
      · have hne : q ≠ p := by
          rintro rfl
          exact hq.elim (fun h => h (List.mem_cons_self ..)) fun h => nomatch h.symm.trans hconf
        obtain ⟨hport, hret⟩ := hout q (hq.imp (mt (List.mem_cons_of_mem p)) fun h => (hconfigured q).trans h)
        exact ⟨hport.trans (hother q hne).1, hret.trans (hother q hne).2⟩
      · by_cases hqp : q = p
        · subst hqp
          obtain ⟨hport, hret⟩ := hout q (.inl hp)
          exact ⟨by rw [hport]; exact hfound.port, hret.trans hfound.retained⟩
        · have hsame : v.reconstructedPort q = s.reconstructedPort q := by
            unfold State.reconstructedPort
            rw [(hlevel q).1, (hlevel q).2, (hother q hqp).2]
          have hfoundq := hin q ((List.mem_cons.1 hq).resolve_left hqp) ((hconfigured q).trans hc)
          rwa [hsame, (hlevel q).1] at hfoundq
    · dsimp only [List.foldl_cons]
      rw [flReconstructPort_of_not_configured hconf]
      obtain ⟨hoff, hout, hin⟩ := ih hl hisland
      refine ⟨hoff, fun q hq => ?_, fun q hq hc => ?_⟩
      · by_cases hqp : q = p
        · exact hout q (.inl (hqp ▸ hp))
        · exact hout q (hq.imp_left (mt (List.mem_cons_of_mem p)))
      · have hqp : q ≠ p := by
          rintro rfl
          exact nomatch hc.symm.trans hconf
        exact hin q ((List.mem_cons.1 hq).resolve_left hqp) hc

/-- The ports reconstructed. -/
theorem flReconstruct_leaves (hisland : s.bsc.island ≠ some .recover) :
    let u := flReconstruct s
    u.offLadder = s.offLadder ∧ (∀ q, s.configured q = false → u.port q = s.port q) ∧
      ∀ q, s.configured q = true → u.Found q (s.reconstructedPort q) (s.asserted (.feederLocal q)) := by
  obtain ⟨hoff, hout, hin⟩ := flReconstruct_fold (s := { s with fl := { s.fl with queue := Port.all.filter s.rotating } })
    Port.all_nodup hisland
  exact ⟨hoff, fun q hq => (hout q (.inr hq)).1, fun q hq => hin q (Port.mem_all q) hq⟩

end

section
variable {s y u : State} {t : Tick}

/-! ### The start-up load (R175 to R177) -/

/-- The transmitter is enabled as the ILC starts, in a mode that sends and without an address conflict. -/
theorem ilcStart_enables (hmay : s.maySend = true) (htransmitter : s.ilc.transmitter = .disabled) :
    ∃ link : Ilc, ilcStart s = { s with ilc := link } ∧
      (link.started = true ∧ link.receiver = .ignoring ∧ link.transmitter = .ready ∧ link.status.isRunning = true) := by
  have hfollow : ilcStart s = ilcEnable s.linkStarted := by
    rw [ilcStart_eq]
    refine (if_pos rfl).trans (if_pos ?_)
    change (s.maySend && !s.ilc.transmitter.enabled) = true
    rw [hmay, htransmitter]
    rfl
  rw [hfollow]
  obtain ⟨random, hdraw, -⟩ := draw_eq { s.linkStarted with ilc := { s.linkStarted.ilc with transmitter := .ready, slots := .empty } }
  unfold ilcEnable
  dsimp only
  rw [hdraw]
  exact ⟨_, rfl, rfl, rfl, rfl, rfl⟩

/-- The transmitter stays off as the ILC starts in a mode that does not send. -/
theorem ilcStart_stays (hmay : s.maySend = false) (htransmitter : s.ilc.transmitter = .disabled) : ilcStart s = s.linkStarted := by
  rw [ilcStart_eq]
  refine (if_pos rfl).trans ((if_neg ?_).trans (if_neg ?_))
  · change ¬ (s.maySend && !s.ilc.transmitter.enabled) = true
    rw [hmay]
    nofun
  · change ¬ (!s.maySend && s.ilc.transmitter.enabled) = true
    rw [hmay, htransmitter]
    nofun

/-- The blocks from the MU to the ILC started with the parameter set of a record, before the source and the ports take their states. -/
structure State.LoadedFrom (s y : State) : Prop where
  tb : y.tb = s.tb
  mp : y.mp = { s.mp with staging := s.cr.sector }
  cr : y.cr = { s.cr with
    loaded := true, working := some (clampRecord s.cr.sector), workingCrc := crc16 ((clampRecord s.cr.sector).take 254)
    params := some (Params.ofRecord (clampRecord s.cr.sector)), clamped := clampRecord s.cr.sector != s.cr.sector
    calFault := !calibrationCrcOk s.cr.calSector
    mode := if s.level .service = .asserted then .service else .autonomous, integrity := .running s.tb 100000000 }
  mu : y.mu.started = true ∧ y.mu.nextScan = s.tb ∧ y.mu.synthetic.isRunning = true ∧ y.mu.srcTimeout.isRunning = true ∧
    y.mu.cal = if calibrationCrcOk s.cr.calSector then .ofSector s.cr.calSector else .zero
  tac : y.tac = { s.tac with
    breakerDebounce := (Params.ofRecord (clampRecord s.cr.sector)).station.breakerDebounce
    otherDebounce := (Params.ofRecord (clampRecord s.cr.sector)).station.otherDebounce }
  be : y.be.timer = .running s.tb ((Params.ofRecord (clampRecord s.cr.sector)).station.balancePeriod * 500000)
  ilc : y.ilc.started = true ∧ y.ilc.receiver = .ignoring ∧ y.ilc.transmitter = .ready ∧ y.ilc.status.isRunning = true
  bsc : y.bsc = { s.bsc with
    island := some .deadWait, origin := .live
    ownWord := (((Params.ofRecord (clampRecord s.cr.sector)).diesel.startRank - 1) * 32 + (s.address - 1)) % 1024 }
  beside : y.sc = s.sc ∧ y.ds = s.ds ∧ y.ret = s.ret ∧ y.fl = s.fl

theorem taken_maySend (hconflict : s.ilc.conflict = false) : (crTake s.cr.sector s.loading).blocksStarted.maySend = true := by
  change ((((if s.asserted .service then Mode.service else .autonomous) == .service) ||
    ((if s.asserted .service then Mode.service else .autonomous) == .coordinated ||
      (if s.asserted .service then Mode.service else .autonomous) == .autonomous)) && !s.ilc.conflict) = true
  rw [hconflict]
  split <;> rfl

theorem beStart_timer (s : State) : (beStart s).be.timer = .running s.tb (s.par.station.balancePeriod * 500000) := rfl

theorem blocksStarted_timer (s : State) : (crTake s.cr.sector s.loading).blocksStarted.be.timer =
    .running s.tb ((Params.ofRecord (clampRecord s.cr.sector)).station.balancePeriod * 500000) := by
  have hbe : (crTake s.cr.sector s.loading).blocksStarted.be =
      (beStart (muStart (crTake s.cr.sector s.loading).calibrationTaken (crTake s.cr.sector s.loading))).be := rfl
  have hpar : (muStart (crTake s.cr.sector s.loading).calibrationTaken (crTake s.cr.sector s.loading)).par =
      Params.ofRecord (clampRecord s.cr.sector) := rfl
  have htb : (muStart (crTake s.cr.sector s.loading).calibrationTaken (crTake s.cr.sector s.loading)).tb = s.tb := by
    unfold muStart crTake State.loading
    dsimp only
  rw [hbe, beStart_timer, hpar, htb]

theorem crLoad_of_valid (hvalid : recordValid s.cr.sector = true) (hconflict : s.ilc.conflict = false)
    (htransmitter : s.ilc.transmitter = .disabled) :
    ∃ y, s.LoadedFrom y ∧ crLoad s = flReconstruct (dsReconstruct (scStart y)) := by
  have hload : crLoad s = flReconstruct (dsReconstruct (scStart (ilcStart (crTake s.cr.sector s.loading).blocksStarted))) :=
    if_pos hvalid
  obtain ⟨link, hlink, hilc⟩ := ilcStart_enables (s := (crTake s.cr.sector s.loading).blocksStarted) (taken_maySend hconflict) htransmitter
  rw [hload, hlink]
  have hmode : (if s.asserted .service then Mode.service else .autonomous) =
      if s.level .service = .asserted then Mode.service else .autonomous := if_congr beq_iff_eq rfl rfl
  refine ⟨{ (crTake s.cr.sector s.loading).blocksStarted with ilc := link }, {
    tb := by dsimp only [State.blocksStarted, bscStart, beStart, State.start, State.putTimer, muStart, crTake, State.loading]
    mp := rfl
    cr := ?_
    mu := by
      refine ⟨rfl, ?_, rfl, rfl, rfl⟩
      dsimp only [State.blocksStarted, bscStart, beStart, State.start, State.putTimer, muStart, crTake, State.loading]
    tac := rfl
    be := blocksStarted_timer s
    ilc := hilc
    bsc := by
      dsimp only [State.blocksStarted, bscStart, beStart, State.start, State.putTimer, muStart, crTake, State.loading,
        arbitrationWord, State.par, Option.getD_some]
    beside := by
      refine ⟨?_, ?_, ?_, ?_⟩ <;>
        dsimp only [State.blocksStarted, bscStart, beStart, State.start, State.putTimer, muStart, crTake, State.loading] }, rfl⟩
  rw [← hmode]
  dsimp only [State.blocksStarted, bscStart, beStart, State.start, State.putTimer, muStart, crTake, State.loading, sec]
  rfl

end

section
variable {s y u : State} {t : Tick}

/-! ### The source and the ports take their first states (R125, R182) -/

theorem scStart_of_solar (h : s.par.station.role = .solar) : scStart s = scEnter (if s.asserted .srcCb then .online else .offline) s :=
  if_pos h

theorem scStart_of_not_solar (h : s.par.station.role ≠ .solar) : scStart s = s := if_neg h

theorem scStart_eq (s : State) : ∃ sc, scStart s = { s with sc := sc } := by
  unfold scStart
  split
  · exact ⟨_, rfl⟩
  · exact ⟨s.sc, rfl⟩

/-- What the state of the set found at the start leaves of the BSC and of the ports (R182). -/
theorem dsReconstruct_setSide (h : s.bsc.island = some .deadWait) : (dsReconstruct s).setSide = s.setSide := by
  unfold dsReconstruct
  split
  · split
    · exact setSide_of_offSet (dsEnterFailed_offSet s)
    · split
      · split
        · exact (dsFoundOnline_leaves s).2.2
        · exact (dsFoundRunning_leaves h).2
      · split
        · exact (dsFoundClosed_leaves s).2.2.2
        · exact (dsRest_leaves h).2.2
  · rfl

/-- The set found at the start, by the retention record and the lines (R182). -/
structure State.FirstSet (s u : State) : Prop where
  locked : s.ret.lockout = true → u.ds.state = some .failed
  online : s.ret.lockout = false → s.ret.run = true ∧ s.level .runFb = .asserted → s.level .srcCb = .asserted →
    u.ds.bias = s.ds.bias ∧ u.ds.state = some (if s.level .inhibit = .asserted ∧ s.operating = true then .stopIntent else .online)
  running : s.ret.lockout = false → s.ret.run = true ∧ s.level .runFb = .asserted → ¬ s.level .srcCb = .asserted →
    u.ds.state = some (if s.level .inhibit = .asserted then .off else if s.operating = true then .sync else .standby)
  closed : s.ret.lockout = false → ¬ (s.ret.run = true ∧ s.level .runFb = .asserted) → s.level .srcCb = .asserted →
    u.ds.state = some (if s.level .inhibit = .asserted then .off else .failed) ∧
      (¬ s.level .inhibit = .asserted → (u.pulse .srcTrip).isActive = true) ∧ u.ret.run = false
  rest : s.ret.lockout = false → ¬ (s.ret.run = true ∧ s.level .runFb = .asserted) → ¬ s.level .srcCb = .asserted →
    u.ds.state = some (if s.level .inhibit = .asserted then .off else .standby) ∧ u.ret.run = false

theorem dsReconstruct_firstSet (hgenset : s.par.station.role = .genset) (h : s.bsc.island = some .deadWait) :
    s.FirstSet (dsReconstruct s) := by
  have hdef : dsReconstruct s = if s.ret.lockout = true then dsEnterFailed s
      else if s.ret.run = true ∧ s.level .runFb = .asserted then
        (if s.level .srcCb = .asserted then dsFoundOnline s else dsFoundRunning s)
      else if s.level .srcCb = .asserted then dsFoundClosed s else dsRest s := by
    unfold dsReconstruct
    rw [if_pos hgenset]
    simp only [State.asserted, Bool.and_eq_true, beq_iff_eq]
  rw [hdef]
  have hunlocked (hlock : s.ret.lockout = false) : ¬ s.ret.lockout = true := Bool.eq_false_iff.1 hlock
  refine ⟨fun hlock => ?_, fun hlock hruns hcb => ?_, fun hlock hruns hcb => ?_, fun hlock hruns hcb => ?_, fun hlock hruns hcb => ?_⟩
  · rw [if_pos hlock, dsEnterFailed_ds]
    rfl
  · rw [if_neg (hunlocked hlock), if_pos hruns, if_pos hcb]
    obtain ⟨hbias, hstate, -⟩ := dsFoundOnline_leaves s
    exact ⟨hbias, hstate⟩
  · rw [if_neg (hunlocked hlock), if_pos hruns, if_neg hcb]
    exact (dsFoundRunning_leaves h).1
  · rw [if_neg (hunlocked hlock), if_neg hruns, if_pos hcb]
    obtain ⟨hstate, htrip, hrun, -⟩ := dsFoundClosed_leaves s
    exact ⟨hstate, htrip, hrun⟩
  · rw [if_neg (hunlocked hlock), if_neg hruns, if_neg hcb]
    obtain ⟨hstate, hrun, -⟩ := dsRest_leaves h
    exact ⟨hstate, hrun⟩

/-- What the first states of the source and of the ports leave. -/
structure State.StartedFrom (y u : State) : Prop where
  kept : u.kept = y.kept
  lines : u.heldLines = y.heldLines
  bsc : u.bsc.island = y.bsc.island ∧ u.bsc.origin = y.bsc.origin ∧ u.bsc.ownWord = y.bsc.ownWord
  solar : y.par.station.role = .solar → u.sc.state = some (if y.level .srcCb = .asserted then .online else .offline)
  set : y.par.station.role = .genset → y.FirstSet u
  found : ∀ q, y.configured q = true → u.Found q (y.reconstructedPort q) (y.asserted (.feederLocal q))
  other : ∀ q, y.configured q = false → u.port q = y.port q

theorem startedFrom (hmode : y.cr.mode ≠ .startup) (hisland : y.bsc.island = some .deadWait) :
    y.StartedFrom (flReconstruct (dsReconstruct (scStart y))) := by
  have hacts : Acts (.full False) y (flReconstruct (dsReconstruct (scStart y))) :=
    startedBlocks_acts trivial trivial (fun h => nomatch h) (.inr hmode) (.refl y)
  obtain ⟨sc, hsc⟩ := scStart_eq y
  have hz : (scStart y).setSide = y.setSide ∧ (scStart y).bsc = y.bsc ∧ (scStart y).cr = y.cr := by
    rw [hsc]
    exact ⟨rfl, rfl, rfl⟩
  obtain ⟨hzside, hzbsc, hzcr⟩ := hz
  have hside := (dsReconstruct_setSide (hzbsc ▸ hisland)).trans hzside
  have hkept : (dsReconstruct (scStart y)).kept = y.kept := by simp
  have hsource : (dsReconstruct (scStart y)).sc = (scStart y).sc :=
    (dsReconstruct_acts (Z := ⟨fun _ => True, True, False, True, False⟩) (fun h => nomatch h) (.inr (hzcr ▸ hmode)) (.refl _)).sc_eq id
  have hset (hgenset : y.par.station.role = .genset) : y.FirstSet (dsReconstruct (scStart y)) := by
    rw [scStart_of_not_solar (by rw [hgenset]; nofun)]
    exact dsReconstruct_firstSet hgenset hisland
  obtain ⟨hoff, hother, hfound⟩ := flReconstruct_leaves (s := dsReconstruct (scStart y))
    (by rw [(setSide_island hside).trans hisland]; nofun)
  have hukept : (flReconstruct (dsReconstruct (scStart y))).kept = (dsReconstruct (scStart y)).kept := by simp
  generalize dsReconstruct (scStart y) = d at *
  generalize flReconstruct d = u at *
  have hbsc : u.bsc = d.bsc := (congrArg State.bsc hoff :)
  have hdbsc := setSide_bsc hside
  have hports : d.ret.ports = y.ret.ports := setSide_retained hside
  have hconfigured (q : Port) : d.configured q = y.configured q := by
    rw [State.configured, State.configured, State.par, kept_cr hkept, ← State.par]
  have hlevel (i : InputLine) : d.asserted i = y.asserted i := congrArg (· == .asserted) (State.level_eq (kept_inputs hkept) i)
  refine ⟨hukept.trans hkept, hacts.heldLines, ?_, fun hsolar => ?_, fun hgenset => ?_, fun q hq => ?_, fun q hq => ?_⟩
  · rw [hbsc]
    exact ⟨(congrArg Bsc.island hdbsc :), (congrArg Bsc.origin hdbsc :), (congrArg Bsc.ownWord hdbsc :)⟩
  · have husc : u.sc = d.sc := (congrArg State.sc hoff :)
    rw [husc, hsource, scStart_of_solar hsolar]
    exact congrArg some (if_congr beq_iff_eq rfl rfl)
  · have hds : u.ds = d.ds := (congrArg State.ds hoff :)
    have hpulse : u.pulse .srcTrip = d.pulse .srcTrip := (congrArg (fun x : State => x.pulse .srcTrip) hoff :)
    have hrun : u.ret.run = d.ret.run := (congrArg (fun x : State => x.ret.run) hoff :)
    obtain ⟨hlocked, honline, hrunning, hclosed, hrest⟩ := hset hgenset
    refine ⟨?_, ?_, ?_, ?_, ?_⟩ <;> rw [hds]
    · exact hlocked
    · exact honline
    · exact hrunning
    · rw [hpulse, hrun]
      exact hclosed
    · rw [hrun]
      exact hrest
  · have hsame : d.reconstructedPort q = y.reconstructedPort q := by
      unfold State.reconstructedPort
      rw [hlevel, hlevel, hports]
    have hq' := hfound q ((hconfigured q).trans hq)
    rwa [hsame, hlevel] at hq'
  · exact (hother q ((hconfigured q).trans hq)).trans (congrArg Prod.fst (ladderSide_port (setSide_ladder hside) q))

end

section
variable {s : State} {t : Tick} {c : Instr}

/-! ### The start-up load taken (R177) -/

/-- The load is taken at its completion or at the settle limit. -/
theorem exec_load (hrun : s.phase = .running) (hmode : s.cr.mode = .startup) (hloaded : s.cr.loaded = false)
    (hc : c = .startUpLoadComplete t ∧ s.allSettled = true ∨ c = .settleLimitExpiry ∧ s.allSettled = false ∧ t = 1000000) :
    exec c s = .next (crLoad (s.stamp t)) := by
  have hruns : s.runs = true := beq_iff_eq.2 hrun
  have hwaits : s.awaitsLoad = true := by simp [State.awaitsLoad, hmode, hloaded]
  obtain ⟨rfl, hsettled⟩ | ⟨rfl, hsettled, rfl⟩ := hc
  · exact (whileRunning_runs _ hruns).trans (congrArg _ (if_pos (by rw [hwaits, hsettled]; rfl)))
  · exact (whileRunning_runs _ hruns).trans (congrArg _ (if_pos (by rw [hwaits, hsettled]; rfl)))

/-- An invalid record starts nothing but the receiver, in FAULT (R177, R179). -/
theorem crLoad_of_not_valid (hinvalid : recordValid s.cr.sector = false) (htransmitter : s.ilc.transmitter = .disabled) :
    crLoad s = { s with
      cr := { s.cr with loaded := true, mode := .fault }
      mp := { s.mp with staging := s.cr.sector }
      tac := { s.tac with alarm := { s.tac.alarm with modeFault := true } }
      ilc := { s.ilc with
        started := true, receiver := .ignoring, idleSince := some s.tb, endIdle := false
        random := some (lfsrSeed s.address s.tb) } } := by
  have hload : crLoad s = ilcStart (s.loading.inMode .fault) := if_neg (Bool.eq_false_iff.1 hinvalid)
  rw [hload, State.inMode_eq]
  exact ilcStart_stays rfl htransmitter

theorem reconstructedPort_eq (s : State) (p : Port) : s.reconstructedPort p =
    if s.level (.feederLocal p) = .asserted then (PortState.held, none)
    else if (s.ret.ports.get p).map (·.1) = some .faulted then (.faulted, none)
    else if s.level (.feederCb p) = .asserted then (.closed, none)
    else match s.ret.ports.get p with
      | some (.shed, some cause) => (.shed, some cause)
      | _ => (.shed, some .deficit) :=
  if_congr beq_iff_eq rfl (if_congr Iff.rfl rfl (if_congr beq_iff_eq rfl rfl))

/-- Settles O46: the blocks started from the record, and the first states of the set, the solar source and the ports. -/
theorem loadStartsStation : Obligations.LoadStartsStation := by
  intro t c s hrun hmode hloaded htransmitter hc
  rw [exec_load hrun hmode hloaded hc]
  refine ⟨fun hinvalid => ?_, fun hvalid hconflict => ?_⟩
  · rw [crLoad_of_not_valid (by exact hinvalid) (by exact htransmitter)]
    rfl
  intro record p svc inhibit runs closed
  obtain ⟨y, hfrom, hload⟩ := crLoad_of_valid (s := s.stamp t) hvalid hconflict htransmitter
  obtain ⟨htb, hmp, hcr, hmu, htac, hbe, hilc, hybsc, hsc, hds, hret, hfl⟩ := hfrom
  have hpar : y.par = p := by
    rw [State.par, hcr]
    rfl
  have hymode : y.cr.mode = if svc then .service else .autonomous := by rw [hcr]; rfl
  have hop : y.operating = true ↔ ¬ svc := by
    rw [State.operating, hymode]
    split <;> simp_all
  have hlevel (i : InputLine) : y.level i = s.level i := State.level_eq (by rw [htac]; rfl) i
  obtain ⟨hkept, hlines, ⟨hisland, horigin, hword⟩, hsolar, hset, hfound, hother⟩ :=
    startedFrom (y := y) (by rw [hymode]; split <;> nofun) (by rw [hybsc])
  rw [hload]
  generalize flReconstruct (dsReconstruct (scStart y)) = u at *
  have hconfigured (q : Port) : y.configured q = true ↔ q.num ≤ p.station.feederCount := by
    rw [State.configured, hpar, decide_eq_true_iff]
  refine ⟨u, rfl, (kept_tb hkept).trans htb, (kept_mp hkept).trans hmp, (kept_cr hkept).trans hcr, ?_, ?_, ?_, ?_, ?_, ?_, ?_,
    fun q hq => ?_, fun q hq => ?_⟩
  · rw [kept_mu hkept]
    exact hmu
  · have hdebounce := congrArg (fun x => x.2.2) hlines
    have htaken : y.tac.breakerDebounce = p.station.breakerDebounce ∧ y.tac.otherDebounce = p.station.otherDebounce := by
      rw [htac, show p = Params.ofRecord (clampRecord s.cr.sector) from rfl]
      dsimp only [State.stamp]
      exact ⟨rfl, rfl⟩
    refine ⟨(congrArg Prod.fst hdebounce :).trans htaken.1, (congrArg Prod.snd hdebounce :).trans htaken.2, ?_⟩
    exact (kept_inputs hkept).trans (by rw [htac]; rfl)
  · rw [kept_be hkept]
    exact hbe
  · rw [kept_linkStarted hkept, kept_receiver hkept, kept_transmitter hkept, kept_status hkept]
    exact hilc
  · rw [hisland, horigin, hword, hybsc]
    exact ⟨rfl, rfl, rfl⟩
  · intro hrole
    rw [hsolar (by rw [hpar]; exact hrole), hlevel]
  · intro hrole
    obtain ⟨hlocked, honline, hrunning, hclosed, hrest⟩ := hset (by rw [hpar]; exact hrole)
    have hyret : y.ret = s.ret := hret
    simp only [hyret, hlevel, hop, show y.ds = s.ds from hds, ite_not] at hlocked honline hrunning hclosed hrest
    exact ⟨hlocked, honline, hrunning, hclosed, hrest⟩
  · obtain ⟨⟨r, hr, hdest, hzero, hheld, hfirst⟩, hretained⟩ := hfound q ((hconfigured q).2 hq)
    rw [reconstructedPort_eq, hlevel, hlevel, show y.ret = s.ret from hret] at hfirst hretained
    refine ⟨r, hr, hdest, hzero, ?_, hretained.trans (congrArg some hfirst.symm), hfirst⟩
    rw [hheld, State.asserted, hlevel, beq_iff_eq]
  · exact (hother q (Bool.eq_false_iff.2 (mt (hconfigured q).1 (by omega)))).trans (by rw [State.port, hfl]; rfl)

end

end Sys2Proof.Machine
end
